-- ==== Sys2Proof/Word.lean ====
section
/-! DEFINITION. The word and byte types of the AX-64K and the names of its places (00_scope R6-R8, 01_module R16-R18). -/

namespace Sys2Proof

/-- A g register, CSR or memory doubleword (03_encoding R61). -/
abbrev Word := BitVec 64

/-- One byte of memory (00_scope R7). -/
abbrev Byte := BitVec 8

/-- One 32-bit instruction word (03_encoding R64). -/
abbrev InstrWord := BitVec 32

/-- A hardware thread slot: physical cluster (die x 352 + 16 x row + column, 01_module R16), core and THREADID. -/
structure ThreadRef where
  cluster : Nat
  core    : Nat
  slot    : Nat
deriving DecidableEq, Repr, Inhabited

end Sys2Proof
end

