-- ==== Sys2Proof/Config.lean ====
section
/-! DEFINITION. What the configuration fixes, and the free values: what the spec leaves open. A free value is an opaque
constant: nothing in Lean can see what it is. It is applied to the counter `State.fresh` or to the operands it depends
on. -/

namespace Sys2Proof.Config

/-- Core cycles that pass in a step beyond the one it takes: timing is left free (log entry 2). -/
opaque elapse : Nat → Nat

/-- Which of the threads that may issue issues next, and which of the events that are due occurs: the cores and the module's agents run
beside one another, and the spec gives no order between them (log entry 3). -/
opaque turn : Nat → Nat
opaque pick : Nat → Nat

/-- Which bank of its channel a near-tier address lies in: the spec gives no map (15_page R389; log entry 14). -/
opaque bankOf : Nat → Nat

/-- Which row of its bank a near-tier address lies in: the spec gives no map (15_page R389; log entry 14). -/
opaque rowOf : Nat → Nat

/-- The digest of measurement register i at boot: the firmware is not in the spec (16_link R421; log entry 13). -/
opaque digest : Nat → BitVec 256

/-- The 7,856 signature bytes of the n-th SPDM measurement response (16_link R420; log entry 13). -/
opaque spdmSignature : Nat → BitVec 62848

/-- Payload A of event 0x0010, which names a link; the spec gives no code (16_link R416; log entry 15). The link is given
by its kind and two numbers. -/
opaque linkCode : Nat → Nat → Nat → BitVec 24

/-- The decoded sample of a video frame: job, frame, plane, row and column (10_buffer R270; log entry 16). The AV1
decoding process is outside the spec. -/
opaque sample : Nat → Nat → Nat → Nat → Nat → BitVec 10

/-- Whether the bitstream of a job's frame is 10-bit rather than 8-bit video (10_buffer R270; log entry 16). -/
opaque tenBit : Nat → Nat → Bool

/-- The decoder's report of the frame that a job's engine completes: which of the five of 10_buffer R271, and the frame's width and
height (log entry 16). -/
opaque frameReport : Nat → Nat × BitVec 16 × BitVec 16

/-- Where in its bitstream a job's frame is read: job and frame (10_buffer R271; log entry 16). -/
opaque bitstreamAt : Nat → Nat → Nat

/-- The cycles that a thread's requests wait by 01_module R31 in a step: timing is left free (17_watch R428; log entry 2). -/
opaque requestWaits : Nat → Nat → Nat

/-- Whether a self-test passes (15_page R392), and how a training attempt of a link ends (16_link R398): both depend on the
hardware's condition (log entry 3). -/
opaque testPasses : Nat → Bool
opaque trainingEnd : Nat → Nat

/-- How many slices or elements a unit completes between a bell and its stop point (05_traps R140, R143; log entry 17). -/
opaque stopAfter : Nat → Nat

/-- Which of a draft pool's uncommitted lines an address of the draft region holds, if one: the spec gives no map of slots (12_kernel R310,
R318; log entry 45). -/
opaque draftLine : Nat → Nat

/-- Whether a copy that reads a byte which it has itself written, at a draw of the model's counter and a location, finds the byte's value
from before the copy: the spec allows that value and the written one (10_buffer R259; log entry 18). -/
opaque choice : Nat → Nat → Bool

/-- Where on its way the n-th packet of a partition stands at the bell, in a count of the routers that could hold it (05_traps R143; log
entry 76). -/
opaque heldAt : Nat → Nat → Nat

/-- What PGPROBE answers for an address of address space 0 before the seal, where no leaf exists (15_page R395, 16_link R422;
log entry 44). -/
opaque probe : BitVec 64 → BitVec 64

/-- How many cycles a lane group's next chunk of a sampled instruction waited on its sources and on its memory port: timing
is left free (17_watch R430; log entry 2). -/
opaque laneWaits : Nat → Nat → BitVec 32


/-- Compute dies (01_module R13). -/
def dies : Nat := 24

/-- Physical cluster sites of a compute die, 16 columns of 22 rows (01_module R16). -/
def sites : Nat := 352

/-- Fused cluster sites of a die: eleven on dies 0 to 15, ten on dies 16 to 23, which leaves 8,192 enabled (01_module
R19; log entry 5). -/
def fusedOn (die : Nat) : Nat := if die < 16 then 11 else 10

/-- Whether physical cluster site c, die * 352 + row * 16 + column, is enabled: the fused sites are taken to be the
highest ones of each die (01_module R19; log entry 5). -/
def enabled (c : Nat) : Bool := decide (c / sites < dies) && decide (c % sites < sites - fusedOn (c / sites))

end Sys2Proof.Config
end

