-- ==== Sys2Proof/Syntax.lean ====
section
/-! DEFINITION. Every row of spec/opcode_table.json as one constructor of `Instr` (03_encoding R71-R76): the 267
instruction forms, then the device's events, which have no encoding and are never decoded. An instruction's fields bear
the names and widths of the table; an event's operands name the thread, unit or object it falls on. -/

namespace Sys2Proof

/-- A link of the module (16_link R397, R398): a crossing channel of a compute boundary, a memory or I/O die link, the
host link or a UALink port. -/
inductive Link where
  | crossing (boundary channel : Nat)
  | nearDie (k : Nat)
  | farDie (k : Nat)
  | ioDie (k : Nat)
  | host
  | port (k : Nat)
deriving DecidableEq, Repr

/-- The modes of the host link (16_link R408). -/
inductive HostMode where
  | cxl31 | cxl30 | cxl20 | pcie60 | pcie50
deriving DecidableEq, Repr, Inhabited

/-- Whether a mode of the host link carries CXL: in PCIe modes CXL.cache and CXL.mem are absent (16_link R408, R411). -/
def HostMode.isCxl : HostMode → Bool
  | .cxl31 | .cxl30 | .cxl20 => true
  | .pcie60 | .pcie50 => false

/-- Why the verification of the firmware bundle fails (16_link R419). -/
inductive BootFailure where
  | signature | rollback
deriving DecidableEq, Repr

/-- A peer window (16_link R414). -/
structure PeerWindow where
  base   : Nat
  length : Nat
  read   : Bool
  write  : Bool
deriving DecidableEq, Repr, Inhabited

/-- What the root of trust makes of the firmware bundle at power-up (16_link R419): a failure, or the draft pool size in GiB
that the bundle's configuration block sets, if it sets one (01_module R26), and the peer window table that boot firmware sets, by endpoint
(16_link R414). -/
inductive BootImage where
  | rejected (cause : BootFailure)
  | accepted (draftPool : Option Nat) (windows : List (Nat × PeerWindow))
deriving DecidableEq, Repr

/-- How a training attempt of a link ends, and in which mode it brings up the host link: the highest that both ends support (16_link
R398, R408). -/
inductive TrainingResult where
  | full (mode : HostMode)
  | partialWidth (mode : HostMode)
  | failed
deriving DecidableEq, Repr

/-- The mode of the host link after a training attempt that succeeds (16_link R408). -/
def TrainingResult.mode : TrainingResult → Option HostMode
  | .full m | .partialWidth m => some m
  | .failed => none

/-- A save or restore unit of a gang switch (05_traps R148). -/
inductive SwitchUnit where
  | thread (t : ThreadRef)
  | core (cluster core : Nat)
  | cluster (cluster : Nat)
deriving DecidableEq, Repr

/-- A resource that ECC or a self-test names (15_page R391, R392; 16_link R416). A save area and a spilled tile's record are
DRAM that the Timetable's pointers name (05_traps R145), given with the address that fails. -/
inductive Resource where
  | saveArea (partition : Nat) (unit : SwitchUnit) (address : Nat)
  | tileRecord (partition : Nat) (owner : ThreadRef) (name address : Nat)
  | dram (address : Nat)
  | localStore (cluster core offset : Nat)
  | scratchpad (cluster offset : Nat)
  | vectorFile (cluster core offset : Nat)
  | accumulator (cluster offset : Nat)
  | scalarCache (cluster core offset : Nat) (dirtyLine : Option Nat)
  | instructionCache (cluster offset : Nat)
  | dieCache (die slice offset : Nat) (dirtyLine : Option Nat)
  | linkLane (link : Link) (lane : Nat) (spareLeft widthLeft : Bool)
deriving DecidableEq, Repr

/-- What the AV1 decoder reports of one frame (10_buffer R271). -/
inductive FrameResult where
  | ok (width height : BitVec 16)
  | corrupt (width height : BitVec 16)
  | tainted (width height : BitVec 16)
  | unsupported (width height : BitVec 16)
  | readFault
deriving DecidableEq, Repr

/-- An incoming UALink request (16_link R412, R414). The atomic code is that of 03_encoding R74. -/
inductive PeerRequest where
  | read (address bytes : Nat)
  | write (address : Nat) (data : List Byte)
  | atomic (op : BitVec 5) (address : Nat) (double : Bool) (operand compare : Word)
deriving DecidableEq, Repr

/-- What a debugger command reads or writes: a scalar-frame word of 05_traps R146, or a CSR (17_watch R432). -/
inductive DebugItem where
  | frame (word : Nat)
  | csr (number : BitVec 12)
deriving DecidableEq, Repr

/-- A fault on the fetch of a word (04_context R124, 06_group R168): ACCESS, or a PAGEFAULT found unresolvable. -/
inductive FetchFault where
  | access (address : Word)
  | pageFault (address : Word)
deriving DecidableEq, Repr

/-- One constructor per row of the opcode table: the instructions with fields, those without, then the events. -/
inductive Instr where
  | add (d : BitVec 5) (a : BitVec 5) (b : BitVec 5) (w : BitVec 1)  -- R111
  | sub (d : BitVec 5) (a : BitVec 5) (b : BitVec 5) (w : BitVec 1)  -- R111
  | and (d : BitVec 5) (a : BitVec 5) (b : BitVec 5)  -- R111
  | or (d : BitVec 5) (a : BitVec 5) (b : BitVec 5)  -- R111
  | xor (d : BitVec 5) (a : BitVec 5) (b : BitVec 5)  -- R111
  | sll (d : BitVec 5) (a : BitVec 5) (b : BitVec 5) (w : BitVec 1)  -- R111
  | srl (d : BitVec 5) (a : BitVec 5) (b : BitVec 5) (w : BitVec 1)  -- R111
  | sra (d : BitVec 5) (a : BitVec 5) (b : BitVec 5) (w : BitVec 1)  -- R111
  | slt (d : BitVec 5) (a : BitVec 5) (b : BitVec 5)  -- R111
  | sltu (d : BitVec 5) (a : BitVec 5) (b : BitVec 5)  -- R111
  | min (d : BitVec 5) (a : BitVec 5) (b : BitVec 5)  -- R111
  | max (d : BitVec 5) (a : BitVec 5) (b : BitVec 5)  -- R111
  | minu (d : BitVec 5) (a : BitVec 5) (b : BitVec 5)  -- R111
  | maxu (d : BitVec 5) (a : BitVec 5) (b : BitVec 5)  -- R111
  | mul (d : BitVec 5) (a : BitVec 5) (b : BitVec 5) (w : BitVec 1)  -- R111
  | mulh (d : BitVec 5) (a : BitVec 5) (b : BitVec 5)  -- R111
  | mulhu (d : BitVec 5) (a : BitVec 5) (b : BitVec 5)  -- R111
  | div (d : BitVec 5) (a : BitVec 5) (b : BitVec 5) (w : BitVec 1)  -- R113
  | divu (d : BitVec 5) (a : BitVec 5) (b : BitVec 5) (w : BitVec 1)  -- R113
  | rem (d : BitVec 5) (a : BitVec 5) (b : BitVec 5) (w : BitVec 1)  -- R113
  | remu (d : BitVec 5) (a : BitVec 5) (b : BitVec 5) (w : BitVec 1)  -- R113
  | clz (d : BitVec 5) (a : BitVec 5) (w : BitVec 1)  -- R112
  | ctz (d : BitVec 5) (a : BitVec 5) (w : BitVec 1)  -- R112
  | popc (d : BitVec 5) (a : BitVec 5) (w : BitVec 1)  -- R111
  | rol (d : BitVec 5) (a : BitVec 5) (b : BitVec 5) (w : BitVec 1)  -- R111
  | ror (d : BitVec 5) (a : BitVec 5) (b : BitVec 5) (w : BitVec 1)  -- R111
  | andn (d : BitVec 5) (a : BitVec 5) (b : BitVec 5)  -- R111
  | addi (d : BitVec 5) (a : BitVec 5) (i : BitVec 16)  -- R114
  | andi (d : BitVec 5) (a : BitVec 5) (i : BitVec 16)  -- R114
  | ori (d : BitVec 5) (a : BitVec 5) (i : BitVec 16)  -- R114
  | xori (d : BitVec 5) (a : BitVec 5) (i : BitVec 16)  -- R114
  | slti (d : BitVec 5) (a : BitVec 5) (i : BitVec 16)  -- R114
  | sltiu (d : BitVec 5) (a : BitVec 5) (i : BitVec 16)  -- R114
  | slli (d : BitVec 5) (a : BitVec 5) (s : BitVec 6)  -- R115
  | srli (d : BitVec 5) (a : BitVec 5) (s : BitVec 6)  -- R115
  | srai (d : BitVec 5) (a : BitVec 5) (s : BitVec 6)  -- R115
  | rori (d : BitVec 5) (a : BitVec 5) (s : BitVec 6)  -- R115
  | lui (d : BitVec 5) (i : BitVec 16)  -- R116
  | addpc (d : BitVec 5) (i : BitVec 16)  -- R116
  | liw (d : BitVec 5) (i : BitVec 32)  -- R116
  | lih (d : BitVec 5) (i : BitVec 32)  -- R116
  | lb (d : BitVec 5) (a : BitVec 5) (o : BitVec 13)  -- R118
  | lbu (d : BitVec 5) (a : BitVec 5) (o : BitVec 13)  -- R118
  | lh (d : BitVec 5) (a : BitVec 5) (o : BitVec 13)  -- R118
  | lhu (d : BitVec 5) (a : BitVec 5) (o : BitVec 13)  -- R118
  | lw (d : BitVec 5) (a : BitVec 5) (o : BitVec 13)  -- R118
  | lwu (d : BitVec 5) (a : BitVec 5) (o : BitVec 13)  -- R118
  | ld (d : BitVec 5) (a : BitVec 5) (o : BitVec 13)  -- R118
  | sb (s : BitVec 5) (a : BitVec 5) (o : BitVec 13)  -- R118
  | sh (s : BitVec 5) (a : BitVec 5) (o : BitVec 13)  -- R118
  | sw (s : BitVec 5) (a : BitVec 5) (o : BitVec 13)  -- R118
  | sd (s : BitVec 5) (a : BitVec 5) (o : BitVec 13)  -- R118
  | beq (a : BitVec 5) (b : BitVec 5) (o : BitVec 13)  -- R122
  | bne (a : BitVec 5) (b : BitVec 5) (o : BitVec 13)  -- R122
  | blt (a : BitVec 5) (b : BitVec 5) (o : BitVec 13)  -- R122
  | bge (a : BitVec 5) (b : BitVec 5) (o : BitVec 13)  -- R122
  | bltu (a : BitVec 5) (b : BitVec 5) (o : BitVec 13)  -- R122
  | bgeu (a : BitVec 5) (b : BitVec 5) (o : BitVec 13)  -- R122
  | bp (p : BitVec 3) (o : BitVec 13)  -- R122
  | bnp (p : BitVec 3) (o : BitVec 13)  -- R122
  | jal (d : BitVec 5) (o : BitVec 21)  -- R123
  | jalr (d : BitVec 5) (a : BitVec 5) (i : BitVec 16)  -- R123
  | pcmp (p : BitVec 3) (a : BitVec 5) (b : BitVec 5) (c : BitVec 3)  -- R125
  | pand (d : BitVec 3) (a : BitVec 3) (b : BitVec 3)  -- R125
  | por (d : BitVec 3) (a : BitVec 3) (b : BitVec 3)  -- R125
  | pxor (d : BitVec 3) (a : BitVec 3) (b : BitVec 3)  -- R125
  | pnot (d : BitVec 3) (a : BitVec 3)  -- R125
  | sel (d : BitVec 5) (a : BitVec 5) (b : BitVec 5) (p : BitVec 3)  -- R125
  | pmovFromPredicates (d : BitVec 5)  -- R125
  | pmovToPredicates (a : BitVec 5)  -- R125
  | fadd (d : BitVec 5) (a : BitVec 5) (b : BitVec 5) (m : BitVec 3) (f : BitVec 2)  -- R128
  | fsub (d : BitVec 5) (a : BitVec 5) (b : BitVec 5) (m : BitVec 3) (f : BitVec 2)  -- R128
  | fmul (d : BitVec 5) (a : BitVec 5) (b : BitVec 5) (m : BitVec 3) (f : BitVec 2)  -- R128
  | fdiv (d : BitVec 5) (a : BitVec 5) (b : BitVec 5) (m : BitVec 3) (f : BitVec 2)  -- R128
  | fsqrt (d : BitVec 5) (a : BitVec 5) (m : BitVec 3) (f : BitVec 2)  -- R128
  | fmin (d : BitVec 5) (a : BitVec 5) (b : BitVec 5) (f : BitVec 2)  -- R46
  | fmax (d : BitVec 5) (a : BitVec 5) (b : BitVec 5) (f : BitVec 2)  -- R46
  | feq (d : BitVec 5) (a : BitVec 5) (b : BitVec 5) (f : BitVec 2)  -- R129
  | flt (d : BitVec 5) (a : BitVec 5) (b : BitVec 5) (f : BitVec 2)  -- R129
  | fle (d : BitVec 5) (a : BitVec 5) (b : BitVec 5) (f : BitVec 2)  -- R129
  | fclass (d : BitVec 5) (a : BitVec 5) (f : BitVec 2)  -- R129
  | fsgnj (d : BitVec 5) (a : BitVec 5) (b : BitVec 5) (f : BitVec 2)  -- R129
  | fsgnjn (d : BitVec 5) (a : BitVec 5) (b : BitVec 5) (f : BitVec 2)  -- R129
  | fsgnjx (d : BitVec 5) (a : BitVec 5) (b : BitVec 5) (f : BitVec 2)  -- R129
  | fcvtFi (d : BitVec 5) (a : BitVec 5) (w : BitVec 2) (m : BitVec 3) (f : BitVec 2)  -- R130
  | fcvtFn (d : BitVec 5) (a : BitVec 5) (w : BitVec 2) (m : BitVec 3) (f : BitVec 2)  -- R130
  | fcvtIf (d : BitVec 5) (a : BitVec 5) (w : BitVec 2) (m : BitVec 3) (f : BitVec 2)  -- R130
  | fcvtNf (d : BitVec 5) (a : BitVec 5) (w : BitVec 2) (m : BitVec 3) (f : BitVec 2)  -- R130
  | fcvtFf (d : BitVec 5) (a : BitVec 5) (s : BitVec 2) (m : BitVec 3) (f : BitVec 2)  -- R130
  | fma (d : BitVec 5) (a : BitVec 5) (b : BitVec 5) (c : BitVec 5) (f : BitVec 2) (m : BitVec 2)  -- R132
  | fms (d : BitVec 5) (a : BitVec 5) (b : BitVec 5) (c : BitVec 5) (f : BitVec 2) (m : BitVec 2)  -- R132
  | fnma (d : BitVec 5) (a : BitVec 5) (b : BitVec 5) (c : BitVec 5) (f : BitVec 2) (m : BitVec 2)  -- R132
  | fnms (d : BitVec 5) (a : BitVec 5) (b : BitVec 5) (c : BitVec 5) (f : BitVec 2) (m : BitVec 2)  -- R132
  | csrr (d : BitVec 5) (c : BitVec 12)  -- R152
  | csrw (d : BitVec 5) (a : BitVec 5) (c : BitVec 12)  -- R152
  | csrs (d : BitVec 5) (a : BitVec 5) (c : BitVec 12)  -- R152
  | csrc (d : BitVec 5) (a : BitVec 5) (c : BitVec 12)  -- R152
  | syscall (c : BitVec 12)  -- R155
  | brk (c : BitVec 12)  -- R155
  | fence (s : BitVec 3) (b : BitVec 7)  -- R290
  | wait (l : BitVec 3) (s : BitVec 3) (c : BitVec 3) (t : BitVec 3)  -- R257
  | yieldw (d : BitVec 5) (a : BitVec 5) (t : BitVec 12)  -- R371
  | time (d : BitVec 5)  -- R407
  | amoadd (d : BitVec 5) (a : BitVec 5) (b : BitVec 5) (z : BitVec 1) (o : BitVec 2) (s : BitVec 3)  -- R293
  | amoand (d : BitVec 5) (a : BitVec 5) (b : BitVec 5) (z : BitVec 1) (o : BitVec 2) (s : BitVec 3)  -- R293
  | amoor (d : BitVec 5) (a : BitVec 5) (b : BitVec 5) (z : BitVec 1) (o : BitVec 2) (s : BitVec 3)  -- R293
  | amoxor (d : BitVec 5) (a : BitVec 5) (b : BitVec 5) (z : BitVec 1) (o : BitVec 2) (s : BitVec 3)  -- R293
  | amomin (d : BitVec 5) (a : BitVec 5) (b : BitVec 5) (z : BitVec 1) (o : BitVec 2) (s : BitVec 3)  -- R293
  | amomax (d : BitVec 5) (a : BitVec 5) (b : BitVec 5) (z : BitVec 1) (o : BitVec 2) (s : BitVec 3)  -- R293
  | amominu (d : BitVec 5) (a : BitVec 5) (b : BitVec 5) (z : BitVec 1) (o : BitVec 2) (s : BitVec 3)  -- R293
  | amomaxu (d : BitVec 5) (a : BitVec 5) (b : BitVec 5) (z : BitVec 1) (o : BitVec 2) (s : BitVec 3)  -- R293
  | amoswap (d : BitVec 5) (a : BitVec 5) (b : BitVec 5) (z : BitVec 1) (o : BitVec 2) (s : BitVec 3)  -- R293
  | amocas (d : BitVec 5) (a : BitVec 5) (b : BitVec 5) (z : BitVec 1) (o : BitVec 2) (s : BitVec 3)  -- R293
  | lda (d : BitVec 5) (a : BitVec 5) (z : BitVec 1) (s : BitVec 3)  -- R293
  | strel (a : BitVec 5) (b : BitVec 5) (z : BitVec 1) (s : BitVec 3)  -- R293
  | amofadd (d : BitVec 5) (a : BitVec 5) (b : BitVec 5) (z : BitVec 1) (o : BitVec 2) (s : BitVec 3)  -- R295
  | barinit (d : BitVec 5) (a : BitVec 5) (b : BitVec 5) (s : BitVec 3)  -- R364
  | bararr (d : BitVec 5) (a : BitVec 5) (s : BitVec 3)  -- R364
  | bartest (p : BitVec 3) (a : BitVec 5) (b : BitVec 5) (s : BitVec 3)  -- R364
  | bardrop (d : BitVec 5) (a : BitVec 5) (s : BitVec 3)  -- R364
  | rdvput (p : BitVec 3) (a : BitVec 5) (b : BitVec 5) (s : BitVec 3)  -- R369
  | rdvget (d : BitVec 5) (a : BitVec 5) (p : BitVec 3) (s : BitVec 3)  -- R369
  | qbind (q : BitVec 4) (a : BitVec 5) (p : BitVec 3)  -- R355
  | qunbind (q : BitVec 4)  -- R355
  | qpush (q : BitVec 4) (a : BitVec 5)  -- R356
  | qpop (d : BitVec 5) (q : BitVec 4)  -- R356
  | qpusht (q : BitVec 4) (a : BitVec 5) (p : BitVec 3)  -- R356
  | qpopt (d : BitVec 5) (q : BitVec 4) (p : BitVec 3)  -- R356
  | qstat (d : BitVec 5) (q : BitVec 4)  -- R357
  | tqpush (q : BitVec 4) (a : BitVec 5) (p : BitVec 3)  -- R358
  | tqpop (q : BitVec 4) (a : BitVec 5) (p : BitVec 3)  -- R358
  | launch (d : BitVec 5) (a : BitVec 5)  -- R325
  | take (d : BitVec 5) (p : BitVec 3)  -- R307
  | wmark (a : BitVec 5) (h : BitVec 4)  -- R326
  | wmread (d : BitVec 5) (h : BitVec 4)  -- R326
  | tdep (d : BitVec 5) (a : BitVec 5)  -- R327
  | tarm (d : BitVec 5) (a : BitVec 5) (b : BitVec 5)  -- R327
  | kstat (d : BitVec 5) (a : BitVec 5)  -- R328
  | kcancel (d : BitVec 5) (a : BitVec 5)  -- R330
  | kcancelTcb (d : BitVec 5) (a : BitVec 5)  -- R330
  | ldf (d : BitVec 5) (a : BitVec 5) (o : BitVec 9)  -- R253
  | ldfTry (d : BitVec 5) (a : BitVec 5) (p : BitVec 3) (o : BitVec 9)  -- R253
  | ldfc (d : BitVec 5) (a : BitVec 5) (o : BitVec 9)  -- R253
  | ldfcTry (d : BitVec 5) (a : BitVec 5) (p : BitVec 3) (o : BitVec 9)  -- R253
  | stf (s : BitVec 5) (a : BitVec 5) (o : BitVec 9)  -- R253
  | stfTry (s : BitVec 5) (a : BitVec 5) (p : BitVec 3) (o : BitVec 9)  -- R253
  | stfw (s : BitVec 5) (a : BitVec 5) (o : BitVec 9)  -- R253
  | stfwTry (s : BitVec 5) (a : BitVec 5) (p : BitVec 3) (o : BitVec 9)  -- R253
  | feset (a : BitVec 5) (o : BitVec 9)  -- R253
  | fesetTry (a : BitVec 5) (p : BitVec 3) (o : BitVec 9)  -- R253
  | feclr (a : BitVec 5) (o : BitVec 9)  -- R253
  | feclrTry (a : BitVec 5) (p : BitVec 3) (o : BitVec 9)  -- R253
  | fetest (a : BitVec 5) (p : BitVec 3) (o : BitVec 9)  -- R253
  | tlbinv (a : BitVec 5) (b : BitVec 5)  -- R394
  | tlbinva (b : BitVec 5)  -- R394
  | pgprobe (d : BitVec 5) (a : BitVec 5) (b : BitVec 5)  -- R395
  | migrate (d : BitVec 5) (a : BitVec 5)  -- R396
  | vcfg (d : BitVec 5) (n : BitVec 3)  -- R179
  | setvl (d : BitVec 5) (a : BitVec 5) (f : BitVec 5) (b : BitVec 2) (r : BitVec 2) (s : BitVec 1)  -- R180
  | vld (d : BitVec 6) (a : BitVec 5) (m : BitVec 3)  -- R188
  | vlds (d : BitVec 6) (a : BitVec 5) (s : BitVec 5) (m : BitVec 3)  -- R188
  | vldx (d : BitVec 6) (a : BitVec 5) (x : BitVec 6) (m : BitVec 3)  -- R188
  | vlseg (d : BitVec 6) (a : BitVec 5) (m : BitVec 3) (f : BitVec 3)  -- R189
  | vldff (d : BitVec 6) (a : BitVec 5) (m : BitVec 3)  -- R191
  | vldp (d : BitVec 6) (a : BitVec 5) (s : BitVec 5) (m : BitVec 3)  -- R192
  | vst (d : BitVec 6) (a : BitVec 5) (m : BitVec 3)  -- R188
  | vsts (d : BitVec 6) (a : BitVec 5) (s : BitVec 5) (m : BitVec 3)  -- R188
  | vstx (d : BitVec 6) (a : BitVec 5) (x : BitVec 6) (m : BitVec 3)  -- R188
  | vsseg (d : BitVec 6) (a : BitVec 5) (m : BitVec 3) (f : BitVec 3)  -- R189
  | vstp (d : BitVec 6) (a : BitVec 5) (s : BitVec 5) (m : BitVec 3)  -- R192
  | vadd (d : BitVec 6) (a : BitVec 6) (b : BitVec 6) (m : BitVec 3)  -- R209
  | vsub (d : BitVec 6) (a : BitVec 6) (b : BitVec 6) (m : BitVec 3)  -- R209
  | vmul (d : BitVec 6) (a : BitVec 6) (b : BitVec 6) (m : BitVec 3)  -- R209
  | vmulh (d : BitVec 6) (a : BitVec 6) (b : BitVec 6) (m : BitVec 3)  -- R209
  | vmin (d : BitVec 6) (a : BitVec 6) (b : BitVec 6) (m : BitVec 3)  -- R209
  | vmax (d : BitVec 6) (a : BitVec 6) (b : BitVec 6) (m : BitVec 3)  -- R209
  | vminu (d : BitVec 6) (a : BitVec 6) (b : BitVec 6) (m : BitVec 3)  -- R209
  | vmaxu (d : BitVec 6) (a : BitVec 6) (b : BitVec 6) (m : BitVec 3)  -- R209
  | vand (d : BitVec 6) (a : BitVec 6) (b : BitVec 6) (m : BitVec 3)  -- R209
  | vor (d : BitVec 6) (a : BitVec 6) (b : BitVec 6) (m : BitVec 3)  -- R209
  | vxor (d : BitVec 6) (a : BitVec 6) (b : BitVec 6) (m : BitVec 3)  -- R209
  | vsll (d : BitVec 6) (a : BitVec 6) (b : BitVec 6) (m : BitVec 3)  -- R209
  | vsrl (d : BitVec 6) (a : BitVec 6) (b : BitVec 6) (m : BitVec 3)  -- R209
  | vsra (d : BitVec 6) (a : BitVec 6) (b : BitVec 6) (m : BitVec 3)  -- R209
  | vsadd (d : BitVec 6) (a : BitVec 6) (b : BitVec 6) (m : BitVec 3)  -- R209
  | vssub (d : BitVec 6) (a : BitVec 6) (b : BitVec 6) (m : BitVec 3)  -- R209
  | vsaddu (d : BitVec 6) (a : BitVec 6) (b : BitVec 6) (m : BitVec 3)  -- R209
  | vssubu (d : BitVec 6) (a : BitVec 6) (b : BitVec 6) (m : BitVec 3)  -- R209
  | vmacc (d : BitVec 6) (a : BitVec 6) (b : BitVec 6) (m : BitVec 3)  -- R209
  | vdot4 (d : BitVec 6) (a : BitVec 6) (b : BitVec 6) (m : BitVec 3)  -- R210
  | vfadd (d : BitVec 6) (a : BitVec 6) (b : BitVec 6) (m : BitVec 3)  -- R211
  | vfsub (d : BitVec 6) (a : BitVec 6) (b : BitVec 6) (m : BitVec 3)  -- R211
  | vfmul (d : BitVec 6) (a : BitVec 6) (b : BitVec 6) (m : BitVec 3)  -- R211
  | vfma (d : BitVec 6) (a : BitVec 6) (b : BitVec 6) (m : BitVec 3)  -- R211
  | vfms (d : BitVec 6) (a : BitVec 6) (b : BitVec 6) (m : BitVec 3)  -- R211
  | vfnma (d : BitVec 6) (a : BitVec 6) (b : BitVec 6) (m : BitVec 3)  -- R211
  | vfdiv (d : BitVec 6) (a : BitVec 6) (b : BitVec 6) (m : BitVec 3)  -- R211
  | vfsqrt (d : BitVec 6) (a : BitVec 6) (m : BitVec 3)  -- R211
  | vfmin (d : BitVec 6) (a : BitVec 6) (b : BitVec 6) (m : BitVec 3)  -- R211
  | vfmax (d : BitVec 6) (a : BitVec 6) (b : BitVec 6) (m : BitVec 3)  -- R211
  | vfsgnj (d : BitVec 6) (a : BitVec 6) (b : BitVec 6) (m : BitVec 3)  -- R211
  | vfsgnjn (d : BitVec 6) (a : BitVec 6) (b : BitVec 6) (m : BitVec 3)  -- R211
  | vcmp (c : BitVec 3) (d : BitVec 3) (a : BitVec 6) (b : BitVec 6) (m : BitVec 3)  -- R212
  | vfeq (c : BitVec 3) (d : BitVec 3) (a : BitVec 6) (b : BitVec 6) (m : BitVec 3)  -- R212
  | mand (d : BitVec 3) (a : BitVec 3) (b : BitVec 3)  -- R212
  | mor (d : BitVec 3) (a : BitVec 3) (b : BitVec 3)  -- R212
  | mxor (d : BitVec 3) (a : BitVec 3) (b : BitVec 3)  -- R212
  | mandn (d : BitVec 3) (a : BitVec 3) (b : BitVec 3)  -- R212
  | mpopc (d : BitVec 5) (a : BitVec 3) (m : BitVec 3)  -- R212
  | mfirst (d : BitVec 5) (a : BitVec 3) (m : BitVec 3)  -- R212
  | mset (d : BitVec 3) (a : BitVec 3) (k : BitVec 2) (m : BitVec 3)  -- R213
  | vmerge (d : BitVec 6) (a : BitVec 6) (b : BitVec 6) (m : BitVec 3)  -- R212
  | vmv (d : BitVec 6) (a : BitVec 6) (m : BitVec 3)  -- R214
  | vmvs (d : BitVec 6) (a : BitVec 5) (m : BitVec 3)  -- R214
  | vext (d : BitVec 5) (a : BitVec 6) (i : BitVec 5)  -- R214
  | vins (d : BitVec 6) (a : BitVec 5) (i : BitVec 5)  -- R214
  | vslup (d : BitVec 6) (a : BitVec 6) (s : BitVec 5) (m : BitVec 3)  -- R214
  | vslupImm (d : BitVec 6) (a : BitVec 6) (s : BitVec 5) (m : BitVec 3) (n : BitVec 10)  -- R214
  | vsldn (d : BitVec 6) (a : BitVec 6) (s : BitVec 5) (m : BitVec 3)  -- R214
  | vsldnImm (d : BitVec 6) (a : BitVec 6) (s : BitVec 5) (m : BitVec 3) (n : BitVec 10)  -- R214
  | vgath (d : BitVec 6) (a : BitVec 6) (b : BitVec 6) (m : BitVec 3)  -- R214
  | vcomp (d : BitVec 6) (a : BitVec 6) (m : BitVec 3)  -- R215
  | viota (d : BitVec 6) (a : BitVec 3) (m : BitVec 3)  -- R214
  | lvLongForm (d : BitVec 6) (a : BitVec 6) (b : BitVec 6) (m : BitVec 3) (f : BitVec 5) (k : BitVec 3) (z : BitVec 2) (x : BitVec 11) (q : BitVec 1) (g : BitVec 5)  -- R206
  | vredsum (d : BitVec 6) (a : BitVec 6) (b : BitVec 6) (m : BitVec 3)  -- R216
  | vredmin (d : BitVec 6) (a : BitVec 6) (b : BitVec 6) (m : BitVec 3)  -- R216
  | vredmax (d : BitVec 6) (a : BitVec 6) (b : BitVec 6) (m : BitVec 3)  -- R216
  | vredand (d : BitVec 6) (a : BitVec 6) (b : BitVec 6) (m : BitVec 3)  -- R216
  | vredor (d : BitVec 6) (a : BitVec 6) (b : BitVec 6) (m : BitVec 3)  -- R216
  | vfredsum (d : BitVec 6) (a : BitVec 6) (b : BitVec 6) (m : BitVec 3)  -- R57
  | vfredmax (d : BitVec 6) (a : BitVec 6) (b : BitVec 6) (m : BitVec 3)  -- R58
  | vfredmin (d : BitVec 6) (a : BitVec 6) (b : BitVec 6) (m : BitVec 3)  -- R58
  | vcvt (d : BitVec 6) (a : BitVec 6) (f : BitVec 5) (m : BitVec 3)  -- R218
  | vqnt (d : BitVec 6) (a : BitVec 6) (f : BitVec 5)  -- R219
  | vdqnt (d : BitVec 6) (a : BitVec 6) (f : BitVec 5) (m : BitVec 3)  -- R219
  | vrot (d : BitVec 6) (a : BitVec 6) (m : BitVec 3)  -- R220
  | vplx (d : BitVec 6) (a : BitVec 6) (j : BitVec 3) (m : BitVec 3)  -- R221
  | vpli (d : BitVec 6) (a : BitVec 6) (j : BitVec 3) (m : BitVec 3)  -- R221
  | mopa (t : BitVec 4) (a : BitVec 6) (b : BitVec 6) (r : BitVec 3) (c : BitVec 3)  -- R237
  | mops (t : BitVec 4) (a : BitVec 6) (b : BitVec 6) (r : BitVec 3) (c : BitVec 3)  -- R237
  | mopan (t : BitVec 4) (a : BitVec 6) (b : BitVec 6) (r : BitVec 3) (c : BitVec 3)  -- R237
  | mprom (t : BitVec 4)  -- R241
  | mzero (t : BitVec 4)  -- R241
  | talloc (t : BitVec 4) (p : BitVec 3)  -- R245
  | tfree (t : BitVec 4)  -- R245
  | tsave (t : BitVec 4) (a : BitVec 5)  -- R246
  | trest (t : BitVec 4) (a : BitVec 5)  -- R246
  | mma16 (t : BitVec 4) (a : BitVec 6) (b : BitVec 6) (r : BitVec 3) (c : BitVec 3) (k : BitVec 3)  -- R238
  | mma16s (t : BitVec 4) (a : BitVec 6) (b : BitVec 6) (r : BitVec 3) (c : BitVec 3) (k : BitVec 3) (x : BitVec 6) (y : BitVec 6)  -- R238
  | trdv (t : BitVec 4) (d : BitVec 6) (r : BitVec 4) (c : BitVec 3)  -- R242
  | trdc (t : BitVec 4) (d : BitVec 6) (c : BitVec 4) (r : BitVec 3)  -- R242
  | twrv (t : BitVec 4) (a : BitVec 6) (r : BitVec 4) (c : BitVec 3)  -- R242
  | twrc (t : BitVec 4) (a : BitVec 6) (c : BitVec 4) (r : BitVec 3)  -- R242
  | tst (t : BitVec 4) (a : BitVec 5) (s : BitVec 5) (r : BitVec 3) (c : BitVec 3)  -- R243
  | tstx (t : BitVec 4) (a : BitVec 5) (x : BitVec 6) (r : BitVec 3) (c : BitVec 3)  -- R243
  | tld (t : BitVec 4) (a : BitVec 5) (s : BitVec 5) (r : BitVec 3) (c : BitVec 3)  -- R243
  | cpy (d : BitVec 5) (a : BitVec 5) (h : BitVec 5) (t : BitVec 5) (e : BitVec 1) (w : BitVec 1) (g : BitVec 5) (n : BitVec 2)  -- R259
  | cpyx (d : BitVec 5) (a : BitVec 5) (h : BitVec 5) (t : BitVec 5) (e : BitVec 1) (w : BitVec 1) (g : BitVec 5) (n : BitVec 2)  -- R259
  | cpym (d : BitVec 5) (a : BitVec 5) (h : BitVec 5) (t : BitVec 5) (e : BitVec 1) (w : BitVec 1) (g : BitVec 5) (n : BitVec 2) (s : BitVec 5)  -- R259
  | pub (d : BitVec 5) (h : BitVec 5) (s : BitVec 3)  -- R267
  | dec (d : BitVec 5) (a : BitVec 5) (n : BitVec 2) (e : BitVec 1)  -- R269
  | decst (d : BitVec 5) (a : BitVec 5)  -- R273
  | trapret  -- R156
  | yield  -- R171
  | exit  -- R172
  | isync  -- R157
  | kabort  -- R329
  | fetchGrant (cl : Nat)  -- R165
  | instructionLineFill (cl : Nat) (k : Nat)  -- R166
  | loadResponse (t : ThreadRef) (k : Nat)  -- R120
  | storeVisible (t : ThreadRef) (k : Nat)  -- R120
  | amoAtHome (t : ThreadRef) (k : Nat)  -- R293
  | walkComplete (die : Nat) (k : Nat)  -- R380
  | faultQueueHeadAdvance (die : Nat)  -- R382
  | faultResolve (die : Nat) (k : Nat)  -- R383
  | yieldWake (t : ThreadRef)  -- R171
  | yieldwWatchRegistration (t : ThreadRef)  -- R371
  | yieldwTimeout (t : ThreadRef)  -- R371
  | vectorChecksEnd (t : ThreadRef)  -- R196
  | laneGroupBind (cl : Nat)  -- R184
  | vectorChunkResult (cl : Nat) (core : Nat) (k : Nat)  -- R207
  | wholeOperandComplete (cl : Nat) (core : Nat) (k : Nat)  -- R208
  | matrixUnitStart (cl : Nat)  -- R234
  | tileCommandComplete (cl : Nat)  -- R235
  | copyStart (cl : Nat)  -- R258
  | copyBeatArrival (cl : Nat) (k : Nat) (dst : Nat)  -- R261
  | copyComplete (cl : Nat) (k : Nat)  -- R258
  | engineBarrierArrival (cl : Nat) (k : Nat)  -- R367
  | decJobStart (die : Nat) (e : Nat)  -- R269
  | decFrameComplete (die : Nat) (e : Nat) (r : FrameResult)  -- R271
  | feRequestResend (t : ThreadRef)  -- R254
  | launchQueued (k : Nat)  -- R325
  | dispatch (p : Nat)  -- R348
  | placementPrepared (k : Nat)  -- R250
  | commitStart (k : Nat)  -- R315
  | commitPhase2End  -- R316
  | successorWalkStep (k : Nat)  -- R352
  | abortDiscardEnd (k : Nat)  -- R319
  | draftEscalation (k : Nat)  -- R314
  | draftFold (g : Nat)  -- R317
  | kernelEntryRelease (k : Nat)  -- R301
  | watermarkStallEnd (cl : Nat) (core : Nat) (k : Nat)  -- R321
  | partitionSwitchDecision (p : Nat)  -- R346
  | bell (p : Nat)  -- R143
  | saveUnitComplete (p : Nat) (u : SwitchUnit)  -- R148
  | restoreUnitComplete (p : Nat) (u : SwitchUnit)  -- R149
  | resumeBell (p : Nat)  -- R149
  | killArrival (p : Nat) (cl : Nat)  -- R150
  | taskRecordTake (q : Nat)  -- R349
  | queueMap (die : Nat)  -- R341
  | queueFetchArrival (q : Nat)  -- R339
  | queueQuantumEnd (q : Nat)  -- R341
  | hostQueueControlSnoop (q : Nat) (tail : BitVec 64)  -- R344
  | hostQueuePciePoll (q : Nat)  -- R411
  | migrationEntry (f : Nat)  -- R386
  | migrationStep (f : Nat)  -- R386
  | migrationComplete (f : Nat)  -- R386
  | bankIdleTimerExpiry (ch : Nat) (bank : Nat)  -- R389
  | bankRefresh (ch : Nat) (bank : Nat)  -- R389
  | uncorrectableError (r : Resource)  -- R391
  | selfTestComplete (r : Resource) (pass : Bool)  -- R392
  | linkTrainingEnd (l : Link) (r : TrainingResult)  -- R398, R408
  | linkIdleTimeout (l : Link)  -- R398
  | linkManagementReset (l : Link)  -- R398
  | syncExchangeTimer (die : Nat)  -- R403
  | sync (die : Nat)  -- R403
  | followUp (die : Nat)  -- R403
  | delayRequest (die : Nat)  -- R403
  | delayResponse (die : Nat)  -- R404
  | syncExchangeMissed (die : Nat)  -- R405
  | hostMemoryRequest (wr : Bool) (a : Nat) (data : List (BitVec 8))  -- R410
  | peerRequest (ep : Nat) (r : PeerRequest)  -- R414
  | eventRingHeadMove (h : BitVec 64)  -- R418
  | eventRingSetup (base : Nat) (k : Nat)  -- R415
  | spdmMeasurement (i : Nat)  -- R420
  | powerUp (b : BootImage)  -- R419
  | rcstateSeal  -- R424
  | sealComplete  -- R424
  | pcselWrite (t : ThreadRef) (v : BitVec 64)  -- R429
  | pcReductionComplete (t : ThreadRef)  -- R429
  | debugOwn (t : ThreadRef)  -- R432
  | debugRelease (t : ThreadRef)  -- R432
  | debugStop (t : ThreadRef)  -- R432
  | debugResume (t : ThreadRef)  -- R432
  | debugRead (t : ThreadRef) (i : DebugItem)  -- R432
  | debugWrite (t : ThreadRef) (i : DebugItem) (v : BitVec 64)  -- R432
  | debugStep (t : ThreadRef) (on : Bool)  -- R432
  | debugHoldchild (t : ThreadRef) (on : Bool)  -- R432
  | illegalWord (w1 : BitVec 32) (w2 : Option (BitVec 32))  -- R78
  | fetchFaultIssue (f : FetchFault)  -- R168
  | correctedError (r : Resource)  -- R392
  | debuggerKernelRelease (k : Nat)  -- R304
  | hostLineSnoop (a : Nat) (data : List (BitVec 8))  -- R371
  | residencyMigrationStart (k : Nat)  -- R347
  | powerOff  -- R33
deriving DecidableEq, Repr

end Sys2Proof
end

