-- ==== Sys2Proof/Machine/State.lean ====
section
/-! DEFINITION. The state of the module as plain data: everything the spec gives the machine (INVENTORY.md, "State"),
and `State.reset`, the machine after step 5 of the boot order (16_link R419). Tables that the spec makes large are sparse
lists: an entry that is not listed holds the default of its type. Physical clusters are numbered
die * 352 + row * 16 + column. -/

namespace Sys2Proof.Machine

/-- Why the machine cannot step at all. -/
inductive Fault where
  /-- Raised by `step` when the module is OFF or in BOOTFAIL and no event is on the agenda: no thread exists (01_module
  R33, 16_link R419). Safe: nothing runs in that state. -/
  | moduleOff
deriving DecidableEq, Repr

/-- Why an instruction has no meaning in the model. -/
inductive Refusal where
  /-- Raised by an arm of `exec` whose instruction is not modelled. Safe: no claim can be made about it. -/
  | notModelled (mnemonic : String)
deriving DecidableEq, Repr

/-! ### Scalar context -/

/-- The states of a thread (04_context R98). -/
inductive Phase where
  | free | ready | waiting | yielded | parked | stopped | switched | retired
deriving DecidableEq, Repr, Inhabited

/-- What a tile name is bound to (09_tile R228). -/
inductive TileName where
  | unbound
  | inSlot (slot : Nat)
  | saved
deriving DecidableEq, Repr, Inhabited

/-- One leaf held by a TLB (15_page R379): the address space, the 64 KiB virtual page of its first byte, whether it maps
512 MiB, and the leaf entry. -/
structure TlbEntry where
  asid  : Nat
  page  : Nat
  large : Bool
  leaf  : Word
deriving DecidableEq, Repr, Inhabited

/-- How a byte address was reached, fixed when its checks passed (04_context R118, R119): the location, whether its page
is DIRECT, the version whose draft it reads and writes, and whether it lies on a NEAR or FAR page. For a scratchpad `via` is
the location before shadow swapping, by which the access finds its region when it is performed (10_buffer R266, 11_ordering
R284). -/
structure Place where
  loc    : Nat
  draft  : Option Nat := none
  cached : Bool := false
  direct : Bool := false
  via    : Option Nat := none
deriving DecidableEq, Repr, Inhabited

/-- The read-modify-writes performed at a location's home (11_ordering R293; 14_barrier R364, R369; 12_kernel R327). -/
inductive HomeOp where
  | amo (op : Nat) (bytes : Nat) (operand compare : Word)
  | barInit (expected : Word)
  | barArrive
  | barDrop
  | barTest (ticket : Word)
  | rdvPut (value : Word)
  | rdvGet
  | tdep
  | tarm (count : Word)
deriving DecidableEq, Repr, Inhabited

/-- What a result owed to a thread stands for (05_traps R147). -/
inductive Owed where
  /-- A scalar load of the sz of 04_context R117, read when it responds. -/
  | load (sz : Nat)
  /-- An operation that is still on its way to its home. -/
  | atHome (op : HomeOp)
  /-- A result formed at its home or agent. -/
  | result (value : Option Word) (pred : Option Bool)
deriving DecidableEq, Repr, Inhabited

/-- One entry of the pending-load table with its owed predicate (05_traps R146, R147). `seq` is the model's program
order; `holds` says that the thread's next instruction does not issue before it is gone (11_ordering R296); `named` is false
for an instruction that writes a predicate only, which has no entry in a saved frame's table (R147). -/
structure PendingLoad where
  seq   : Nat
  rd    : Nat := 0
  pred  : Nat := 0
  named : Bool := true
  kind  : Owed
  place : Place := { loc := 0 }
  bytes : Nat := 0
  holds : Bool := false
  /-- Conditions that the write of the result accrues in FCTL (11_ordering R295). -/
  conds : Nat := 0
  /-- The instruction's PC and address when a data breakpoint compares the value (17_watch R431). -/
  watchPc : Option (Word × Word) := none
deriving DecidableEq, Repr, Inhabited

/-- One outstanding store: a scalar store, a STREL or a WMARK (04_context R120, 11_ordering R296, 12_kernel R326). -/
structure PendingStore where
  seq   : Nat
  place : Place
  bytes : Nat
  value : Nat
  atHome : Bool := false
  /-- The predicate that a TQPOP owes until its record is written, with which the next instruction waits (13_queue R358). -/
  pred  : Option Nat := none
deriving DecidableEq, Repr, Inhabited

/-- A completed engine operation that failed and that no WAIT has reported (10_buffer R257). -/
structure FailedOp where
  id    : Nat
  tile  : Bool
  mask  : Word
deriving DecidableEq, Repr, Inhabited

/-- Why a thread is YIELDED (06_group R171, 14_barrier R371). `others` are the threads of the core that have neither issued nor
left READY and WAITING since. -/
structure YieldInfo where
  since   : Nat
  others  : List Nat := []
  watch   : Option Nat := none
  /-- The watched virtual address, whose mapping may change (14_barrier R371). -/
  va      : Word := 0#64
  rd      : Nat := 0
  timeout : Nat := 0
  registered : Bool := false
  wake    : Option Nat := none
deriving DecidableEq, Repr, Inhabited

/-- A word of a fetch block, or the fault that stands in its place (06_group R168). -/
inductive FetchedWord where
  | word (w : InstrWord)
  | fault (f : FetchFault)
deriving DecidableEq, Repr, Inhabited

/-- A fetch block in a thread's buffer (06_group R164): four words at a 16-byte aligned address. -/
structure FetchBlock where
  base  : Nat
  words : List FetchedWord
deriving DecidableEq, Repr, Inhabited

/-! ### Vector and tile commands -/

/-- The integer operations of V-INT (08_vector_ops R209), in function-code order. -/
inductive VIntOp where
  | add | sub | mul | mulh | min | max | minu | maxu | and | or | xor | sll | srl | sra | sadd | ssub | saddu | ssubu
  | macc
deriving DecidableEq, Repr, Inhabited

/-- The floating-point operations of V-FP (08_vector_ops R211). -/
inductive VFpOp where
  | add | sub | mul | fma | fms | fnma | div | sqrt | min | max | sgnj | sgnjn
deriving DecidableEq, Repr, Inhabited

/-- The reductions of V-RED (08_vector_ops R216). -/
inductive VRedOp where
  | sum | min | max | and | or | fsum | fmax | fmin
deriving DecidableEq, Repr, Inhabited

/-- The vector memory forms (07_vector R186). -/
inductive VMemForm where
  | unit | strided | indexed | segment | faultFirst | plane
deriving DecidableEq, Repr, Inhabited

/-- The operation of an instruction in a vector queue (07_vector R182, 08_vector_ops, 09_tile R243). -/
inductive VOp where
  | load (f : VMemForm)
  | store (f : VMemForm)
  | tld
  | tst (indexed : Bool)
  | int (o : VIntOp)
  | dot4
  | fp (o : VFpOp)
  | cmp (c : Nat)
  | feq (c : Nat)
  | maskLogic (o : Nat)
  | mpopc | mfirst
  | mset
  | merge | mv | mvs | ext | ins | slup | sldn | gath | comp | iota
  | red (o : VRedOp)
  | cvt | qnt | dqnt | rot | plx | pli
deriving DecidableEq, Repr, Inhabited

/-- A vector instruction with what it captured at issue (07_vector R177) and how far it has come. `x1` is the captured
base address or scalar operand, `x2` the captured stride, index or offset; `scalar` is the captured g[gs] of a long form, and
TCTL of a tile move (09_tile R231). -/
structure VCmd where
  seq    : Nat
  /-- Its number among the thread's vector instructions (07_vector R183). -/
  vseq   : Nat := 0
  slot   : Nat
  op     : VOp
  vd     : Nat := 0
  va     : Nat := 0
  vb     : Nat := 0
  msk    : Nat := 0
  mr     : Nat := 0
  mc     : Nat := 0
  nf     : Nat := 0
  rsz    : Nat := 0
  ridx   : Nat := 0
  scalar : Option Word := none
  x1     : Word := 0#64
  x2     : Word := 0#64
  vl     : Nat := 0
  vreq   : Nat := 0
  vstart : Nat := 0
  vtype  : Word := 0#64
  vlmax  : Nat := 0
  asid   : Nat := 0
  sys    : Bool := false
  kernel : Option Nat := none
  pc     : Word := 0#64
  word   : Nat := 0
  /-- The first element that is not to be performed: VL, or where the checks stopped (07_vector R199). -/
  limit  : Nat := 0
  /-- The leaves through which its pages passed the checks. -/
  pages  : List TlbEntry := []
  /-- The lowest and highest byte address that its checked elements touch (07_vector R183). -/
  span   : Option (Nat × Nat) := none
  /-- Stopped by its checks before VL: it leaves no trace record (17_watch R426). -/
  cut    : Bool := false
  started : Bool := false
  /-- The next element that no chunk has taken. -/
  next   : Nat := 0
  /-- Chunks dispatched and not yet performed: first element, end and lane group. -/
  flight : List (Nat × Nat × Nat) := []
  /-- For each lane group: chunks dispatched and elements performed (17_watch R430). -/
  lanes  : List (Nat × Nat) := [(0, 0), (0, 0), (0, 0), (0, 0)]
  /-- Left its queue's head (07_vector R182). -/
  left   : Bool := false
  /-- What its source registers held when a whole-operand instruction started (08_vector_ops R205). -/
  sources : List Nat := []
  /-- The lowest and highest byte address performed (17_watch R427). -/
  lowest : Option Nat := none
  highest : Option Nat := none
  /-- INSTRET at its acceptance (17_watch R430). -/
  instret : Word := 0#64
  /-- Its next chunk lies beyond a watermark (12_kernel R321). -/
  stalled : Bool := false
  sampled : Bool := false
  /-- The active elements below VSTART, counted at its start (17_watch R427). -/
  before : Nat := 0
  issuedAt : Nat := 0
  startedAt : Nat := 0
deriving DecidableEq, Repr, Inhabited

/-- The commands of the tile command queue (09_tile R232). -/
inductive TOp where
  | mopa | mops | mopan | mma16 | mma16s | mprom | mzero | trdv | trdc | twrv | twrc | tsave | trest
deriving DecidableEq, Repr, Inhabited

/-- A tile command with what it captured at issue (09_tile R231). -/
structure TCmd where
  seq    : Nat
  slot   : Nat
  op     : TOp
  ta     : Nat := 0
  va     : Nat := 0
  vb     : Nat := 0
  mr     : Nat := 0
  mc     : Nat := 0
  mdep   : Nat := 0
  vsa    : Nat := 0
  vsb    : Nat := 0
  fmt    : Nat := 0
  vlmax  : Nat := 0
  run    : Nat := 8
  sat    : Bool := false
  tie    : Bool := false
  update : Nat := 0
  slice  : Nat := 0
  /-- The address of the record of a TSAVE or TREST, and the places of its eight 256-byte pieces (09_tile R246, 15_page R387). -/
  ea     : Word := 0#64
  pieces : List Place := []
  pc     : Word := 0#64
  /-- It has started, and its sources as they stood then: operands, scales, masks (09_tile R233). -/
  started : Bool := false
  sources : List Nat := []
  masks   : List Nat := []
deriving DecidableEq, Repr, Inhabited

/-- The kind of a partial run (09_tile R222). -/
inductive RunKind where
  | none | np24 | int24 | int24mx
deriving DecidableEq, Repr, Inhabited

/-- A tile (09_tile R222): 256 wide cells of 32 bits and 256 partial cells of 24 bits as bit strings, the run counter and
record, the scale bytes and the reach map. -/
structure Tile where
  wide    : Nat := 0
  partialPlane : Nat := 0
  counter : Nat := 0
  kind    : RunKind := .none
  rowScale : Nat := 0
  colScale : Nat := 0
  reach   : Nat := 0
deriving DecidableEq, Repr, Inhabited

/-- The state of an accumulator slot (09_tile R227). -/
inductive SlotState where
  | free | live | held
deriving DecidableEq, Repr, Inhabited

/-- One of the 64 slots of an accumulator store: its state, the owning context and name, and the tile. A context is
named by its thread slot and the kernel entry it runs. -/
structure TileSlot where
  state  : SlotState := .free
  owner  : ThreadRef := ⟨0, 0, 0⟩
  kernel : Option Nat := none
  name   : Nat := 0
  tile   : Tile := {}
deriving DecidableEq, Repr, Inhabited

/-! ### The thread -/

/-- A thread context (04_context R96), with the debug and counter state of its slot (17_watch R425, R428). -/
structure Thread where
  phase     : Phase := .free
  /-- What holds the WAITING thread may have gone: its next turn looks again (04_context R99; log entry 3). -/
  reissue   : Bool := false
  /-- The state recorded when the debugger stopped the thread, and when its partition was switched out. -/
  stopPrior : Phase := .ready
  bellPrior : Phase := .ready
  pc      : Word := 0#64
  regs    : Vector Word 32 := Vector.replicate 32 0#64
  preds   : BitVec 8 := 0#8
  vregs   : Vector Nat 64 := Vector.replicate 64 0
  masks   : Vector Nat 8 := Vector.replicate 8 0
  status  : Word := 0#64
  cause   : Word := 0#64
  epc     : Word := 0#64
  tval    : Word := 0#64
  tvec    : Word := 0#64
  scratch : Word := 0#64
  fctl    : Word := 0#64
  vl      : Word := 0#64
  vtype   : Word := 0#64
  vstart  : Word := 0#64
  vreq    : Word := 0#64
  /-- The vector share in bytes and the declared register count (07_vector R173). -/
  share   : Nat := 32768
  vnreg   : Nat := 16
  vslip   : Word := 8#64
  vshare  : Word := 8#64
  vflags  : Word := 0#64
  hvl     : Word := 0#64
  hvtype  : Word := 0#64
  hvstart : Word := 0#64
  tctl    : Word := 8#64
  tstartrow : Word := 0#64
  tflags  : Word := 0#64
  tshare  : Word := 8#64
  tiles   : Vector TileName 16 := Vector.replicate 16 .unbound
  khandle : Word := 0#64
  striplen : Word := 0#64
  asid    : BitVec 16 := 0#16
  instret : Word := 0#64
  queues  : Vector (BitVec 28) 16 := Vector.replicate 16 0#28
  /-- The kernel table entry the thread runs, none for a thread released at boot. -/
  kernel  : Option Nat := none
  loads   : List PendingLoad := []
  stores  : List PendingStore := []
  failed  : List FailedOp := []
  /-- The program order number of the next operation, and that of the next vector instruction (07_vector R183). -/
  nextSeq : Nat := 0
  vecSeq  : Nat := 0
  fetch   : List FetchBlock := []
  /-- The fetch block that the thread requests, and since which cycle (06_group R164, R165). -/
  request : Option (Nat × Nat) := none
  yield   : Option YieldInfo := none
  /-- The vector memory instruction that is held in its checks (05_traps R136). -/
  checking : Option VCmd := none
  /-- A trap of a vector instruction that waits for its elements below VSTART to complete: the sequence number of those
  elements' instruction, the cause and the value (07_vector R199). -/
  owedTrap  : Option (Nat × Nat × Word) := none
  /-- Held by a blocking FE request in a wait table (10_buffer R254). -/
  inTable   : Bool := false
  /-- The cycle in which a full wait table refused the thread's FE request (10_buffer R254). -/
  refused   : Option Nat := none
  /-- The virtual address at which a PARKED thread waits, whether it fetches, and whether service failed. -/
  parkedAt : Option (Word × Bool) := none
  parkFail : Bool := false
  /-- Whether that access writes, and whether it goes through the core's micro-TLB (15_page R379, R382). -/
  parkedWrite : Bool := false
  parkedMicro : Bool := true
  vpass   : Nat := 0
  tpass   : Nat := 0
  pcsel   : Word := 0x8000000000000000#64
  pcread  : Word := 0#64
  /-- The PC of a QPUSH that waits for an engine command slot, and its descriptor, read and checked (13_queue R356). -/
  pushing : Option (Word × List Word) := none
  trcidx  : Word := 0#64
  smpctl  : Word := 0#64
  smpbase : Word := 0#64
  bpctl   : Word := 0#64
  bpaddr  : Word := 0#64
  bpmask  : Word := 0#64
  bpdata  : Word := 0#64
  dbgctl  : Word := 0#64
  /-- Vector instructions issued since SMPCTL was written (17_watch R430). -/
  sampleCount : Nat := 0
  /-- Reached by TRAPRET or a debugger resume: not tested by EXEC (17_watch R431). -/
  execExempt : Bool := false
  counts  : Vector Word 18 := Vector.replicate 18 0#64
  /-- The reduction that PCSEL started, until it completes: the threads whose counts it has still to read, and those read
  (17_watch R429). -/
  reducing : Option (List ThreadRef × List Word) := none
  /-- EVENT and OP of the reduction as it started (17_watch R429). -/
  reduceBy : Nat × Nat := (0, 0)
deriving DecidableEq, Repr

/-! ### Core, cluster and storage -/

/-- One record of a core's trace ring (17_watch R427). -/
structure TraceRecord where
  w0 : Word
  w1 : Word
  w2 : Word
deriving DecidableEq, Repr, Inhabited

/-- What a blocking FE request does when it finds its state (10_buffer R253): LDF or LDFC into a register, or STFW. -/
inductive FeOp where
  | load (rd : Nat) (clear : Bool)
  | store (value : Word)
deriving DecidableEq, Repr, Inhabited

/-- A blocking FE request held in a wait table (10_buffer R254): the thread, the location and the state it waits for. -/
structure FeWait where
  thread : ThreadRef
  loc    : Nat
  full   : Bool
  op     : FeOp
deriving DecidableEq, Repr, Inhabited

/-- A range of granules whose copy failed (10_buffer R264): first granule, how many, the command and its mask. -/
structure CopyFault where
  first : Nat
  count : Nat
  id    : Nat
  owner : ThreadRef
  mask  : Word
deriving DecidableEq, Repr, Inhabited

/-- What a local store or scratchpad keeps beside its bytes (10_buffer R254, R264; 14_barrier R371). -/
structure Storage where
  waits   : List FeWait := []
  faults  : List CopyFault := []
  watches : List (ThreadRef × Nat) := []
deriving DecidableEq, Repr

/-- A line of a scalar data cache or a die cache by its version tag (12_kernel R312). Its bytes stand in memory, of which the
module has one copy (log entry 25); it is dirty while `writers` names a thread whose store has not been performed further out
(04_context R464, 11_ordering R291). -/
structure CacheLine where
  line    : Nat
  tag     : Nat := 0
  writers : List ThreadRef := []
deriving DecidableEq, Repr, Inhabited

/-- A core (01_module R18). -/
structure Core where
  lastSlot : Nat := 0
  loadQ    : List VCmd := []
  arithQ   : List VCmd := []
  storeQ   : List VCmd := []
  tileQ    : List TCmd := []
  trace    : List TraceRecord := []
  trcpos   : Nat := 0
  trcctl   : Word := 1#64
  microTlb : List TlbEntry := []
  /-- The scalar data cache, most recently used first within a set. -/
  dcache   : List CacheLine := []
  /-- The cycle in which the core was released at Roll Call (04_context R107). -/
  released : Option Nat := none
  localStore : Storage := {}
deriving DecidableEq, Repr

/-- The copy commands (10_buffer R259) and the decoder job (10_buffer R269). -/
inductive EngineKind where
  | cpy | cpyx | cpym | dec
deriving DecidableEq, Repr, Inhabited

/-- The state of an engine command (10_buffer R258). -/
inductive EngineState where
  | queued | running | complete | suspended
deriving DecidableEq, Repr, Inhabited

/-- A frame whose output a decode engine is writing (10_buffer R270-R272): the status and size for its record; the bands written, if
any: the frame that they show and its size; whether every band write was made; how far the writing has come: whole bands, bytes of the
next, and whether the record is written. -/
structure FrameWork where
  status : Nat
  w : Nat
  h : Nat
  bands : Option (Option Nat × Nat × Nat) := none
  ok   : Bool := true
  band : Nat := 0
  part : Nat := 0
  recorded : Option Bool := none
deriving DecidableEq, Repr, Inhabited

/-- What a decode engine keeps of a job (10_buffer R269-R272): its descriptor once read, the frames completed, the bands
numbered so far, the last frame whose status was OK with its size, whether a frame was FAULT, whether the bitstream has
failed, the name under which its samples are known, and the frame whose output is being written. -/
structure DecodeJob where
  started : Bool := false
  desc    : List Word := []
  done    : Nat := 0
  band    : Nat := 0
  lastOk  : Option (Nat × Nat × Nat) := none
  faulted : Bool := false
  broken  : Bool := false
  /-- One of its frames was CORRUPT or TAINTED (10_buffer R271). -/
  spoilt  : Bool := false
  key     : Nat := 0
  frame   : Option FrameWork := none
deriving DecidableEq, Repr, Inhabited

/-- A command in one of a cluster's 16 engine command slots (10_buffer R258, 13_queue R335). -/
structure EngineCmd where
  id     : Nat
  slot   : Nat
  kind   : EngineKind
  state  : EngineState := .queued
  owner  : ThreadRef
  kernel : Option Nat := none
  asid   : Nat := 0
  sys    : Bool := false
  dst    : Word := 0#64
  src    : Word := 0#64
  shape  : Word := 0#64
  strides : Word := 0#64
  bar    : Word := 0#64
  set    : Word := 0#64
  fe     : Bool := false
  sh     : Bool := false
  tile   : Bool := false
  engine : Nat := 0
  job    : DecodeJob := {}
  /-- The current beat: its row and its first byte's offset in the row. -/
  row    : Nat := 0
  part   : Nat := 0
  /-- The current beat's bytes once read, `none` inside when the source failed, and the destinations still to be written. -/
  read   : Option (Option (List Byte)) := none
  pending : List Nat := []
  /-- The arrival on its barrier has been made or refused. -/
  arrived : Bool := false
  /-- The bytes that its earlier beats have overwritten, oldest first: their locations and their values from before (10_buffer R259). -/
  before : List (Nat × Byte) := []
  mask   : Word := 0#64
  reported : Bool := false
  /-- Issued through a COPY binding that has been released since (13_queue R335). -/
  unbound : Bool := false
  /-- Issued through a COPY binding: the queue register and TAG (13_queue R335). -/
  via    : Option (Nat × Nat) := none
  result : Option Word := none
  /-- Waiting for the service of a translation fault at this address; the service has failed. -/
  faultAt : Option Word := none
  failNext : Bool := false
deriving DecidableEq, Repr, Inhabited

/-- A line of the cluster instruction cache with its bytes (05_traps R157): stores do not change it. -/
structure InstrLine where
  line  : Nat
  bytes : List Byte
deriving DecidableEq, Repr, Inhabited

/-- A line fill that a fetch grant has started (06_group R166): the block, its line's location and the group. -/
structure LineFill where
  base    : Nat
  line    : Nat
  threads : List ThreadRef
deriving DecidableEq, Repr, Inhabited

/-- A packet held in a drain buffer (05_traps R143): the thread and pending entry it belongs to, store or load. -/
structure HeldPacket where
  thread  : ThreadRef
  seq     : Nat
  isStore : Bool
deriving DecidableEq, Repr, Inhabited

/-- A cluster (01_module R17). -/
structure Cluster where
  slots    : Vector TileSlot 64 := Vector.replicate 64 {}
  /-- The threads with an eligible head when the lane groups and the matrix unit last chose (07_vector R184, 09_tile R234). -/
  laneThreads : List ThreadRef := []
  tileThreads : List ThreadRef := []
  /-- The command that holds the matrix unit, with its core (09_tile R234). -/
  matrix   : Option (Nat × TCmd) := none
  engine   : List EngineCmd := []
  icache   : List InstrLine := []
  fills    : List LineFill := []
  tlb      : List TlbEntry := []
  drain    : List HeldPacket := []
  swap     : BitVec 16 := 0#16
  failedPairs : BitVec 16 := 0#16
  scratchpad : Storage := {}
  inService : Bool := true
  released : Bool := false
  /-- Taken out of placement by a lasting fault (01_module R21). -/
  outOfService : Bool := false
  /-- Stopped at a bell and not resumed: the partition that is switched out. -/
  switchedOut : Option Nat := none
deriving DecidableEq, Repr

/-! ### Dies -/

/-- Who waits for a walk or for a fault record (15_page R381). -/
inductive Requester where
  | thread (t : ThreadRef) (fetch : Bool)
  | engine (cluster slot : Nat)
  | timetable (kernel : Nat)
deriving DecidableEq, Repr, Inhabited

/-- One requester of a walk with the byte it accesses, whether it writes, and whether the core's micro-TLB or the cluster's TLB missed
(15_page R379, R380, R382). -/
structure Waiter where
  who   : Requester
  va    : Word
  write : Bool := false
  micro : Bool := false
deriving DecidableEq, Repr, Inhabited

/-- A page walk in progress, or a miss that waits for one of the 64 walkers (15_page R380). `held` is the cycle in which its failure
found 256 records outstanding (R381). -/
structure Walk where
  asid    : Nat
  page    : Nat
  waiters : List Waiter
  held    : Option Nat := none
deriving DecidableEq, Repr, Inhabited

/-- An outstanding fault record (15_page R381, R382). -/
structure FaultRecord where
  seq    : Nat
  asid   : Nat
  kind   : Nat
  va     : Word
  word1  : Word
  handle : Word
  waiters : List Requester
  posted : Option Nat := none
deriving DecidableEq, Repr, Inhabited

/-- A decode engine of a die (10_buffer R268, R273): its jobs by cluster and engine command slot, oldest first, and the
frames it has completed. -/
structure DecodeEngine where
  jobs  : List (Nat × Nat) := []
  total : Nat := 0
deriving DecidableEq, Repr

/-- The lock state of a time unit (16_link R405), in the order of its codes. -/
inductive Lock where
  | unlocked | locking | locked
deriving DecidableEq, Repr, Inhabited

/-- A die time unit (16_link R402-R406). Its PTIME is the count of R402 plus `offset`; a lead still to be absorbed is
`lead`, counted from cycle `since`, 2 units a cycle or, when `halved`, half the increment. -/
structure TimeUnit where
  lock   : Lock := .unlocked
  offset : Int := 0
  lead   : Int := 0
  since  : Nat := 0
  halved : Bool := false
  good   : Nat := 0
  missed : Nat := 0
  lastOffset : Nat := 0
  t1 : Option Nat := none
  t2 : Option Nat := none
  t3 : Option Nat := none
  t4 : Option Nat := none
  /-- The delay that the last exchange gave (16_link R403). -/
  delay : Int := 0
  followed : Bool := false
  /-- The cycle of the last exchange's start (16_link R403). -/
  exchangeAt : Nat := 0
deriving DecidableEq, Repr, Inhabited

/-- A hardware slot with its mapped queue (13_queue R339). -/
structure QueueSlot where
  queue  : Nat
  records : List (List Byte) := []
  flight : Nat := 0
  quantum : Nat := 0
  lastTake : Option Nat := none
  removed : Nat := 0
  head : Nat := 0
  tail : Nat := 0
  ended : Nat := 0
  /-- Word 4 of the queue's entry, which stands in the slot while the queue is MAPPED (13_queue R337, R342). -/
  word4 : Word := 0#64
deriving DecidableEq, Repr, Inhabited

/-- An event that waits for the ring (16_link R416-R418). -/
structure Event where
  ptime : Nat
  seq   : Nat
  die   : Nat
  code  : Nat
  a     : Word
  b     : Word
deriving DecidableEq, Repr, Inhabited

/-- A compute die (01_module R16). -/
structure Die where
  tlb      : List TlbEntry := []
  /-- The walks, oldest first: the first 64 of them hold walkers. -/
  walks    : List Walk := []
  faults   : List FaultRecord := []
  faultTail : Nat := 0
  nextFault : Nat := 1
  cache    : List CacheLine := []
  /-- Ways of the die cache that a lasting fault has mapped out, by slice and set (15_page R392). -/
  lostWays : List (Nat × Nat) := []
  engine0  : DecodeEngine := {}
  engine1  : DecodeEngine := {}
  time     : TimeUnit := {}
  slots    : List (Nat × QueueSlot) := []
  waiting  : List Nat := []
  pending  : List Event := []
  eventSeq : Nat := 0
  /-- The die has discarded events since its pending list was last empty (16_link R418). -/
  lossy    : Bool := false
deriving DecidableEq, Repr

/-! ### Kernels -/

/-- The states of a kernel (12_kernel R303). -/
inductive KState where
  | queued | armed | held | ready | placing | running | draining | done | committing | committed | aborting | aborted
deriving DecidableEq, Repr, Inhabited

/-- A stream table entry (03_encoding R94, 12_kernel R299). -/
structure Stream where
  role   : Nat := 0
  link   : Bool := false
  base   : Nat := 0
  length : Nat := 0
  mark   : Nat := 0
deriving DecidableEq, Repr, Inhabited

/-- A strip range of one die of a placement (12_kernel R305, R306). -/
structure Strip where
  die : Nat
  c   : Nat
  e   : Nat
deriving DecidableEq, Repr, Inhabited

/-- An entry of the package kernel table (12_kernel R301-R304). -/
structure Kernel where
  serial   : Nat
  state    : KState := .queued
  packet   : Vector Word 8 := Vector.replicate 8 0#64
  packetAt : Option Word := none
  streams  : Vector Stream 16 := Vector.replicate 16 {}
  asid     : Nat := 0
  part     : Nat := 0
  parent   : Option Nat := none
  holdDebug : Bool := false
  launcher : Option ThreadRef := none
  fromQueue : Option (Nat × Nat) := none
  acceptedAt : Nat := 0
  tag      : Option Nat := none
  head     : Option Nat := none
  dispatchSeq : Nat := 0
  readySeq : Nat := 0
  readyAt  : Nat := 0
  doneSeq  : Nat := 0
  csn      : Nat := 0
  attempts : Nat := 0
  retries  : Nat := 0
  status   : Nat := 0
  cancelled : Bool := false
  escalated : Bool := false
  /-- The draft pools in which a write of the kernel finds no slot (12_kernel R314). -/
  overflow : List Nat := []
  /-- For CONFLICT: the older kernel that it waits for (12_kernel R304). -/
  behind   : Option Nat := none
  /-- The cores of the placement in placement order (06_group R161). -/
  cores    : List Nat := []
  placedAt : Nat := 0
  strips   : List Strip := []
  phaseAt  : Nat := 0
  walkNext : Option Nat := none
  walkSeq  : Nat := 0
  /-- The entry has become free: a new launch may take it (12_kernel R301). -/
  released : Bool := false
deriving DecidableEq, Repr, Inhabited

/-- A draft line (12_kernel R310): version, 256-byte granule, whether committed and with which commit sequence number,
and its valid bytes by offset. -/
structure DraftLine where
  tag     : Nat
  granule : Nat
  commit  : Option Nat := none
  bytes   : List (Nat × Byte) := []
deriving DecidableEq, Repr, Inhabited

/-- What the Timetable keeps of a partition (13_queue R345, R346; 05_traps R142-R150). -/
structure Partition where
  resident : Bool := false
  switched : Bool := false
  since    : Nat := 0
  lastDispatch : Option Nat := none
  /-- The bell of a switch-out or of a resume in progress, in PTIME units, and the partition that follows. -/
  bell     : Option Nat := none
  /-- The clusters that have reached the bell while others have not (05_traps R143). -/
  stopped  : List Nat := []
  resumeBell : Option Nat := none
  successor : Option Nat := none
  /-- The save or restore units that have not completed. -/
  toSave   : List SwitchUnit := []
  toRestore : List SwitchUnit := []
  /-- The units whose save area holds an uncorrectable value (05_traps R149), and the tile records (09_tile R230). -/
  spoiled  : List SwitchUnit := []
  spoiledTiles : List (ThreadRef × Nat) := []
  killed   : List Nat := []
  /-- The saved contexts: threads, cores' queues and storage, clusters. -/
  savedThreads : List (ThreadRef × Thread) := []
  /-- The tile records of spilled tiles: owner, name and tile (09_tile R229). -/
  savedTiles : List (ThreadRef × Nat × Tile) := []
  savedCores : List (Nat × Core) := []
  savedEngines : List (Nat × List EngineCmd) := []
  savedSwap : List (Nat × BitVec 16 × BitVec 16) := []
  savedScratch : List (Nat × Storage) := []
  savedBytes : List (Nat × Byte) := []
  savedFull : List Nat := []
  savedDrain : List (Nat × List HeldPacket) := []
deriving DecidableEq, Repr

/-! ### Memory system and the world -/

/-- The row state of a near-tier bank (15_page R389). An open row's idle timer runs from `since` for `idle` units of 2 cycles, the
value of BIDLE when it was started (R390). -/
inductive Bank where
  | precharged
  | openRow (row : Nat) (since idle : Nat)
  | refreshing (since : Nat)
deriving DecidableEq, Repr, Inhabited

/-- The state of a tested resource (15_page R392). -/
inductive TestState where
  | inService
  /-- Under test, with the further errors counted meanwhile. -/
  | testing (errors : Nat)
  | retired
deriving DecidableEq, Repr, Inhabited

/-- A migration in a migration engine (15_page R384-R386): address space, page, leaf address, old and new frame, and the
address of the status word when MIGRATE started it. -/
structure Migration where
  asid   : Nat
  va     : Nat
  leafAt : Nat
  old    : Nat
  new    : Nat
  leaf   : Word
  status : Option Place := none
  entered : Bool := false
  step   : Nat := 0
deriving DecidableEq, Repr, Inhabited

/-- The states of a link (16_link R398), in the order of event 0x0010. -/
inductive LinkState where
  | down | training | up | degraded | failed
deriving DecidableEq, Repr, Inhabited

/-- A link with its failed training attempts in a row. -/
structure LinkInfo where
  state  : LinkState := .up
  failedAttempts : Nat := 0
  /-- The bonds that lasting faults have taken, each remapped onto a spare of its group; and the groups or modules that have lost one without
  a spare left (16_link R397, R398). -/
  remapped : List Nat := []
  gone : List Nat := []
deriving DecidableEq, Repr, Inhabited



/-- What the management mailbox and SPDM have answered: boot thread stops, debugger reads, boot failures, measurement
responses, host and peer read data. -/
inductive Report where
  | bootStop (t : ThreadRef) (cause : Nat) (pc value : Word)
  | debugValue (t : ThreadRef) (value : Word)
  | bootFail (cause : BootFailure) (measurement : BitVec 256)
  | measurement (index : Nat) (digest : BitVec 256) (signature : BitVec 62848)
  | readData (data : List Byte) (poisoned : Bool)
  | peerAnswer (value : Word)
  | peerError
deriving DecidableEq, Repr

/-- The boot states of the module (16_link R419, R424): `training` is step 4 of the boot order, before the boot thread's
release. -/
inductive Boot where
  | off | bootFail | training | rollCall | sealed
deriving DecidableEq, Repr, Inhabited

/-- What the package holds once: Timetable, commit sequencer, links, host interface and configuration registers. -/
structure Package where
  boot     : Boot := .rollCall
  /-- The seal in progress: the cycle of the passing check (16_link R424). -/
  sealing  : Option Nat := none
  seatbase : Word := 0#64
  asidbase : Word := 0#64
  qtbase   : Word := 0#64
  ptbase   : Word := 0#64
  fqcfg    : Word := 0#64
  frbase   : Word := 0#64
  /-- BIDLE, and its writes, latest first, with their cycles: back to the latest that applies to the timers (15_page R390). -/
  bidle    : BitVec 8 := 48#8
  bidleLog : List (Nat × BitVec 8) := []
  /-- P, the draft pool size of a near-tier die in GiB (01_module R26). -/
  draftPool : Nat := 8
  nextSerial : Nat := 1
  dispatchSeq : Nat := 1
  readySeq : Nat := 1
  doneSeq  : Nat := 1
  commitSeq : Nat := 1
  sequencer : Option Nat := none
  freeTags : List Nat := (List.range 63).map (· + 1)
  drafts   : List DraftLine := []
  partitions : List (Nat × Partition) := []
  migrations : List (Nat × List Migration) := []
  banks    : List (Nat × Bank) := []
  tests    : List (Resource × TestState) := []
  links    : List (Link × LinkInfo) := []
  hostMode : HostMode := .cxl31
  ring     : Option (Nat × Nat) := none
  ringHead : Nat := 0
  ringTail : Nat := 0
  /-- TAIL and LOST of the event ring as the watches on its lines last saw them (14_barrier R371). -/
  ringSeen : Nat × Nat := (0, 0)
  lost     : Nat := 0
  peerWindows : List (Nat × PeerWindow) := []
  measurements : Vector (BitVec 256) 6 :=
    #v[Config.digest 1, Config.digest 2, Config.digest 3, Config.digest 4, Config.digest 5, Config.digest 6]
  reports  : List Report := []
  /-- Watches of memory channels and of host lines (14_barrier R371): thread, line location. -/
  watches  : List (ThreadRef × Nat) := []
  /-- The queues that the device has put into OVERRUN (13_queue R337, R342). -/
  overrun : List Nat := []
  /-- The queues whose entry's words 2 to 4 software has written, or that had work at the seal, at which the home agent looks again
  (13_queue R341, R342). -/
  rewritten : List Nat := []
  /-- The cycle of the last poll of a host queue (16_link R411). -/
  hostPolls : List (Nat × Nat) := []
  /-- Addresses of near- or far-memory rows that are retired without a spare (15_page R392). -/
  deadRows : List Nat := []
  /-- How many events the engines and devices have asked the root of trust to sign. -/
  signatures : Nat := 0
deriving DecidableEq, Repr

/-- What the scheduler of the model does next: an event of the opcode table, or an issue turn of a thread (log entry 3). -/
inductive Action where
  | event (i : Instr)
  | issue (t : ThreadRef)
deriving DecidableEq, Repr

/-- The whole machine. `cur` names the thread whose context stands unpacked in `ctx`; the others stand in `others`. -/
structure State where
  cur      : ThreadRef
  ctx      : Thread
  others   : List (ThreadRef × Thread) := []
  cores    : List (Nat × Core) := []
  clusters : List (Nat × Cluster) := []
  dies     : List (Nat × Die) := []
  kernels  : List (Nat × Kernel) := []
  /-- All bytes of memory by location; canonical form in `Memory.wf`. -/
  mem      : List Host.Cell := []
  /-- Granules whose full-empty bit differs from its value at reset, ascending. -/
  feFlips  : List Nat := []
  /-- Poisoned 64-byte lines, ascending (15_page R391). -/
  poison   : List Nat := []
  pkg      : Package := {}
  /-- Core cycles since Roll Call began. -/
  now      : Nat := 0
  /-- The model's own counter from which free values are drawn. -/
  fresh    : Nat := 0
  agenda   : List Action := []
deriving DecidableEq, Repr

/-- The context of a thread released at boot (16_link R419, R422, R444): PC as given, ASID 0, SYS = 1. -/
def Thread.boot (pc : Word) : Thread := { phase := .ready, pc := pc, status := 8#64 }

/-- The module right after step 5 of the boot order (16_link R419): thread 0 of core 0 of die 0's lowest enabled cluster
is released at PC 0 in ASID 0 with SYS = 1; the time unit of die 0 is LOCKED; nothing else runs. -/
def State.reset : State where
  cur := ⟨0, 0, 0⟩
  ctx := Thread.boot 0#64
  cores := (List.range 8).map fun k => (k, { released := some 0 })
  clusters := [(0, { released := true })]
  dies := [(0, { time := { lock := .locked } })]

end Sys2Proof.Machine
end

