-- ==== Sys2Proof/Machine/Bits.lean ====
section
/-! DEFINITION. Bit fields, sign extension, bit strings and the sparse tables of the state. A bit string is a Nat whose
bit i is bit i of the string (02_numbers R35). -/

namespace Sys2Proof.Machine

/-- The field [hi:lo] of a word, as a number (00_scope R6). -/
def field (x : Word) (hi lo : Nat) : Nat := x.toNat / 2 ^ lo % 2 ^ (hi + 1 - lo)

/-- One bit of a word. -/
def bit (x : Word) (n : Nat) : Bool := x.getLsbD n

/-- A word with one bit set to the value given. -/
def setBit (x : Word) (n : Nat) (b : Bool) : Word :=
  if b then x ||| BitVec.ofNat 64 (2 ^ n) else x &&& ~~~BitVec.ofNat 64 (2 ^ n)

/-- The n-bit value x sign-extended to 64 bits (00_scope R11). -/
def sext (x n : Nat) : Word := BitVec.ofInt 64 (if 2 ^ n ≤ 2 * (x % 2 ^ n) then (x % 2 ^ n : Nat) - (2 ^ n : Nat) else (x % 2 ^ n : Nat))

/-- The n-bit value x zero-extended to 64 bits (00_scope R11). -/
def zext (x n : Nat) : Word := BitVec.ofNat 64 (x % 2 ^ n)

/-- The signed value of the n-bit pattern x. -/
def toSigned (x n : Nat) : Int := if 2 ^ n ≤ 2 * (x % 2 ^ n) then (x % 2 ^ n : Nat) - (2 ^ n : Nat) else (x % 2 ^ n : Nat)

/-- The n-bit pattern of an integer, wrapping. -/
def wrap (i : Int) (n : Nat) : Nat := (i % (2 ^ n : Nat)).toNat

/-- The w bits of a string from bit lo. -/
def slice (r lo w : Nat) : Nat := r / 2 ^ lo % 2 ^ w

/-- The string r with the w bits from bit lo replaced by x. -/
def splice (r lo w x : Nat) : Nat :=
  r % 2 ^ lo + (x % 2 ^ w) * 2 ^ lo + r / 2 ^ (lo + w) * 2 ^ (lo + w)

/-- Bit i of a string. -/
def bitAt (r i : Nat) : Bool := r.testBit i

/-- The string r with bit i set to b. -/
def putBit (r i : Nat) (b : Bool) : Nat := splice r i 1 (if b then 1 else 0)

/-- Element i of width w (02_numbers R35). -/
def elem (r w i : Nat) : Nat := slice r (w * i) w

/-- The register r with element i of width w set to x (02_numbers R35). -/
def putElem (r w i x : Nat) : Nat := splice r (w * i) w x

/-- How many of the low n bits are set. -/
def popCount : Nat → Nat → Nat
  | 0, _ => 0
  | n + 1, x => x % 2 + popCount n (x / 2)

/-- The number of leading zero bits of an n-bit value (04_context R111). -/
def leadingZeros : Nat → Nat → Nat
  | 0, _ => 0
  | n + 1, x => if x.testBit n then 0 else 1 + leadingZeros n x

/-- The number of trailing zero bits of an n-bit value (04_context R111). -/
def trailingZeros : Nat → Nat → Nat
  | 0, _ => 0
  | n + 1, x => if x % 2 = 1 then 0 else 1 + trailingZeros n (x / 2)

/-- Quotient rounded up. -/
def ceilDiv (a b : Nat) : Nat := (a + b - 1) / b

/-! ### Sparse tables -/

/-- The value at key k of a table, or the default. -/
def Table.get {α : Type} (d : α) (k : Nat) : List (Nat × α) → α
  | [] => d
  | (j, v) :: r => if j = k then v else Table.get d k r

/-- The value at key k of a table, if listed. -/
def Table.find {α : Type} (k : Nat) : List (Nat × α) → Option α
  | [] => none
  | (j, v) :: r => if j = k then some v else Table.find k r

/-- The table with key k at value v; keys ascend. -/
def Table.set {α : Type} (k : Nat) (v : α) : List (Nat × α) → List (Nat × α)
  | [] => [(k, v)]
  | (j, w) :: r => if k < j then (k, v) :: (j, w) :: r else if k = j then (k, v) :: r else (j, w) :: Table.set k v r

/-- The table without key k. -/
def Table.erase {α : Type} (k : Nat) (l : List (Nat × α)) : List (Nat × α) := l.filter fun p => p.1 != k

/-- A number in an ascending list of numbers, inserted once. -/
def insertNat (k : Nat) : List Nat → List Nat
  | [] => [k]
  | j :: r => if k < j then k :: j :: r else if k = j then k :: r else j :: insertNat k r

/-- A list with its n-th member replaced. -/
def setNth {α : Type} (n : Nat) (v : α) : List α → List α
  | [] => []
  | a :: r => match n with
    | 0 => v :: r
    | n + 1 => a :: setNth n v r

/-- A list without its n-th member. -/
def eraseNth {α : Type} (n : Nat) : List α → List α
  | [] => []
  | a :: r => match n with
    | 0 => r
    | n + 1 => a :: eraseNth n r

/-- The least member of a list by a measure, the first on a tie. -/
def leastBy {α : Type} (f : α → Nat) : List α → Option α
  | [] => none
  | a :: r => match leastBy f r with
    | none => some a
    | some b => if f b < f a then some b else some a

/-- A list with one more member, before the first whose measure is greater. -/
def insertBy {α : Type} (f : α → Nat) (a : α) : List α → List α
  | [] => [a]
  | b :: r => if f a < f b then a :: b :: r else b :: insertBy f a r

/-- A list in ascending order of a measure. -/
def sortBy {α : Type} (f : α → Nat) (l : List α) : List α := l.foldr (insertBy f) []

/-! ### Parts of the machine -/

/-- The core of a thread slot as a key: cluster * 8 + core. -/
def coreKey (t : ThreadRef) : Nat := t.cluster * 8 + t.core

/-- A thread slot as a key, in the order of die, cluster, core and THREADID. -/
def threadKey (t : ThreadRef) : Nat := coreKey t * 4 + t.slot

/-- The compute die of a thread slot. -/
def dieOf (t : ThreadRef) : Nat := t.cluster / Config.sites

/-- The context of a thread in a list, FREE when it is not listed. -/
def lookupThread (t : ThreadRef) : List (ThreadRef × Thread) → Thread
  | [] => {}
  | (u, x) :: r => if u = t then x else lookupThread t r

/-- The list with the context of thread t set; keys ascend. -/
def storeThread (t : ThreadRef) (x : Thread) : List (ThreadRef × Thread) → List (ThreadRef × Thread)
  | [] => [(t, x)]
  | (u, y) :: r =>
    if u = t then (t, x) :: r
    else if threadKey t < threadKey u then (t, x) :: (u, y) :: r
    else (u, y) :: storeThread t x r

/-- The context of thread t. -/
def State.thread (s : State) (t : ThreadRef) : Thread := if t = s.cur then s.ctx else lookupThread t s.others

/-- The state with the context of thread t set. -/
def State.setThread (s : State) (t : ThreadRef) (x : Thread) : State :=
  if t = s.cur then { s with ctx := x } else { s with others := storeThread t x s.others }

/-- The state with the context of thread t changed. -/
def State.onThread (s : State) (t : ThreadRef) (f : Thread → Thread) : State := s.setThread t (f (s.thread t))

/-- The state with the running thread's context changed. -/
def State.onCtx (s : State) (f : Thread → Thread) : State := { s with ctx := f s.ctx }

/-- The core with key k. -/
def State.core (s : State) (k : Nat) : Core := Table.get {} k s.cores

/-- The state with core k changed. -/
def State.onCore (s : State) (k : Nat) (f : Core → Core) : State := { s with cores := Table.set k (f (s.core k)) s.cores }

/-- The cluster with physical number c. -/
def State.cluster (s : State) (c : Nat) : Cluster := Table.get {} c s.clusters

/-- The state with cluster c changed. -/
def State.onCluster (s : State) (c : Nat) (f : Cluster → Cluster) : State :=
  { s with clusters := Table.set c (f (s.cluster c)) s.clusters }

/-- The compute die with number d. -/
def State.die (s : State) (d : Nat) : Die := Table.get {} d s.dies

/-- The state with die d changed. -/
def State.onDie (s : State) (d : Nat) (f : Die → Die) : State := { s with dies := Table.set d (f (s.die d)) s.dies }

/-- The state with every listed die changed. -/
def State.mapDies (s : State) (f : Die → Die) : State := { s with dies := s.dies.map fun p => (p.1, f p.2) }

/-- The kernel in table entry k. -/
def State.kernel (s : State) (k : Nat) : Option Kernel := Table.find k s.kernels

/-- The state with the kernel of entry k changed, if there is one. -/
def State.onKernel (s : State) (k : Nat) (f : Kernel → Kernel) : State :=
  match s.kernel k with
  | some x => { s with kernels := Table.set k (f x) s.kernels }
  | none => s

/-- The state with the package's part changed. -/
def State.onPkg (s : State) (f : Package → Package) : State := { s with pkg := f s.pkg }

/-- What the Timetable keeps of partition p. -/
def State.partition (s : State) (p : Nat) : Partition := Table.get {} p s.pkg.partitions

/-- The state with partition p changed. -/
def State.onPartition (s : State) (p : Nat) (f : Partition → Partition) : State :=
  s.onPkg fun g => { g with partitions := Table.set p (f (s.partition p)) g.partitions }

/-- All threads that are not FREE. -/
def State.threads (s : State) : List (ThreadRef × Thread) :=
  ((s.cur, s.ctx) :: s.others).filter fun p => p.2.phase != .free

/-- The threads of one core, by THREADID. -/
def State.coreThreads (s : State) (k : Nat) : List (ThreadRef × Thread) :=
  (List.range 4).map fun i => (⟨k / 8, k % 8, i⟩, s.thread ⟨k / 8, k % 8, i⟩)

/-- A value drawn from the model's counter of free values. -/
def State.draw (s : State) : State := { s with fresh := s.fresh + 1 }

end Sys2Proof.Machine
end

