-- ==== Sys2Proof/Machine/Num.lean ====
section
/-! DEFINITION. The number formats, rounding, conversions, comparison and elementary operations of 02_numbers. A real
value is an exact dyadic number; a quotient or a root carries one sticky bit below its last kept bit, which rounds as the
exact value does. Conditions are bits in FCTL's order: NX 1, UF 2, OF 4, DZ 8, NV 16 (02_numbers R44, 04_context R104),
then QUNF 32 and QSAT 64 (07_vector R175). -/

namespace Sys2Proof.Machine

/-- A set of conditions in VFLAGS's order. -/
abbrev Conds := BitVec 7

/-- Inexact. -/
def condNX : Conds := 1#7
/-- Underflow. -/
def condUF : Conds := 2#7
/-- Overflow. -/
def condOF : Conds := 4#7
/-- Divide by zero. -/
def condDZ : Conds := 8#7
/-- Invalid. -/
def condNV : Conds := 16#7
/-- Quantisation underflow. -/
def condQUNF : Conds := 32#7
/-- Quantisation saturation. -/
def condQSAT : Conds := 64#7

/-- The value of a floating-point encoding or an exact result (02_numbers R37, R43). -/
inductive FVal where
  | nan (signalling : Bool)
  | inf (neg : Bool)
  | fin (neg : Bool) (mant : Nat) (exp : Int)
deriving DecidableEq, Repr, Inhabited

/-- The parameters of a floating-point format (02_numbers R38, R51). `inf` and `nan` are the magnitude encodings of
infinity and of the canonical NaN, where the format has them; `largest` that of the largest finite value. -/
structure FloatFmt where
  ebits   : Nat
  mbits   : Nat
  bias    : Nat
  inf     : Option Nat
  nan     : Option Nat
  largest : Nat
  quiet   : Bool
deriving DecidableEq, Repr, Inhabited

/-- The width of a floating-point format. -/
def FloatFmt.width (f : FloatFmt) : Nat := 1 + f.ebits + f.mbits

/-- F64. -/
def fmtF64 : FloatFmt := ⟨11, 52, 1023, some 0x7FF0000000000000, some 0x7FF8000000000000, 0x7FEFFFFFFFFFFFFF, false⟩
/-- F32. -/
def fmtF32 : FloatFmt := ⟨8, 23, 127, some 0x7F800000, some 0x7FC00000, 0x7F7FFFFF, false⟩
/-- BF16. -/
def fmtBF16 : FloatFmt := ⟨8, 7, 127, some 0x7F80, some 0x7FC0, 0x7F7F, false⟩
/-- F16. -/
def fmtF16 : FloatFmt := ⟨5, 10, 15, some 0x7C00, some 0x7E00, 0x7BFF, false⟩
/-- E5M2. -/
def fmtE5M2 : FloatFmt := ⟨5, 2, 15, some 0x7C, some 0x7E, 0x7B, true⟩
/-- E4M3. -/
def fmtE4M3 : FloatFmt := ⟨4, 3, 7, none, some 0x7F, 0x7E, true⟩
/-- E3M2. -/
def fmtE3M2 : FloatFmt := ⟨3, 2, 3, none, none, 0x1F, true⟩
/-- E2M3. -/
def fmtE2M3 : FloatFmt := ⟨2, 3, 1, none, none, 0x1F, true⟩
/-- E2M1. -/
def fmtE2M1 : FloatFmt := ⟨2, 1, 1, none, none, 0x7, true⟩
/-- NP24, with the range and special values of F32 at 16-bit precision (02_numbers R51). Its NaNs are quiet: R43 names no signalling NaN
of NP24, and only TREST can load one whose fraction MSB is 0 (DESIGN CHOICE, log entry 93). -/
def fmtNP24 : FloatFmt := ⟨8, 15, 127, some 0x7F8000, some 0x7FC000, 0x7F7FFF, true⟩

/-- What a format code names (02_numbers R34). -/
inductive FmtKind where
  | int (w : Nat)
  | nat (w : Nat)
  | float (f : FloatFmt)
  | mxi8
  | e8m0
  | bp (k : Nat)
deriving DecidableEq, Repr, Inhabited

/-- The format of a code 0 to 30 (02_numbers R34); code 31 never reaches here. -/
def fmtOf (c : Nat) : FmtKind :=
  match c with
  | 0 => .int 8 | 1 => .int 16 | 2 => .int 32 | 3 => .int 64
  | 4 => .nat 8 | 5 => .nat 16 | 6 => .nat 32 | 7 => .nat 64
  | 8 => .float fmtF16 | 9 => .float fmtBF16 | 10 => .float fmtF32 | 11 => .float fmtF64
  | 12 => .float fmtE4M3 | 13 => .float fmtE5M2 | 14 => .float fmtE3M2 | 15 => .float fmtE2M3 | 16 => .float fmtE2M1
  | 17 => .float fmtE4M3 | 18 => .float fmtE5M2 | 19 => .float fmtE3M2 | 20 => .float fmtE2M3 | 21 => .float fmtE2M1
  | 22 => .mxi8
  | 23 => .e8m0
  | c => .bp (c - 22)

/-- The element width of a format code (02_numbers R34). -/
def fmtWidth (c : Nat) : Nat :=
  match fmtOf c with
  | .int w => w
  | .nat w => w
  | .float f => f.width
  | .mxi8 => 8
  | .e8m0 => 8
  | .bp k => k

/-! ### Rounding -/

/-- The number of bits of a natural number: 0 for 0. -/
def bitLength (n : Nat) : Nat := if n = 0 then 0 else Nat.log2 n + 1

/-- Whether a magnitude q + rem / 2^sh rounds away from zero in a mode (02_numbers R39). -/
def roundsUp (rm : Nat) (neg : Bool) (q rem sh : Nat) : Bool :=
  match rm with
  | 0 => decide (2 ^ sh < 2 * rem) || (decide (2 * rem = 2 ^ sh) && decide (q % 2 = 1))
  | 1 => false
  | 2 => neg && decide (rem ≠ 0)
  | 3 => !neg && decide (rem ≠ 0)
  | _ => decide (2 ^ sh ≤ 2 * rem)

/-- mant * 2^exp as a multiple of 2^q: the rounded multiple and whether it is inexact. -/
def roundTo (rm : Nat) (neg : Bool) (mant : Nat) (exp q : Int) : Nat × Bool :=
  if q ≤ exp then (mant * 2 ^ (exp - q).toNat, false)
  else
    let sh := (q - exp).toNat
    let n := mant / 2 ^ sh
    let rem := mant % 2 ^ sh
    (if roundsUp rm neg n rem sh then n + 1 else n, decide (rem ≠ 0))

/-- The encoding with a sign put on a magnitude encoding. -/
def withSign (f : FloatFmt) (neg : Bool) (mag : Nat) : Nat := if neg then 2 ^ (f.ebits + f.mbits) + mag else mag

/-- Whether a ≤ b for a = ma * 2^ea and b = mb * 2^eb. -/
def dyadicLe (ma : Nat) (ea : Int) (mb : Nat) (eb : Int) : Bool :=
  if ea ≤ eb then decide (ma ≤ mb * 2 ^ (eb - ea).toNat) else decide (ma * 2 ^ (ea - eb).toNat ≤ mb)

/-- The exponent of the quantum of the largest finite value, and its multiple. -/
def largestQuantum (f : FloatFmt) : Int := (f.largest / 2 ^ f.mbits : Nat) - (f.bias : Int) - f.mbits

/-- The largest finite value as a multiple of its quantum. -/
def largestMult (f : FloatFmt) : Nat := 2 ^ f.mbits + f.largest % 2 ^ f.mbits

/-- The result of a finite overflow (02_numbers R41, R42). -/
def overflowResult (f : FloatFmt) (rm : Nat) (sat neg : Bool) : Nat :=
  let toInf := match rm with
    | 1 => false
    | 2 => neg
    | 3 => !neg
    | _ => true
  if toInf && !sat then
    match f.inf, f.nan with
    | some i, _ => withSign f neg i
    | none, some n => n
    | none, none => withSign f neg f.largest
  else withSign f neg f.largest

/-- A finite value rounded once to a format, with its conditions (02_numbers R39, R41, R42, R44). -/
def roundFin (f : FloatFmt) (rm : Nat) (sat neg : Bool) (mant : Nat) (exp : Int) : Nat × Conds :=
  if mant = 0 then (withSign f neg 0, 0#7)
  else
    let e := exp + bitLength mant - 1
    let emin : Int := 1 - (f.bias : Int)
    let q := if e < emin then emin - f.mbits else e - f.mbits
    let (n, inexact) := roundTo rm neg mant exp q
    let tooBig :=
      if rm = 0 ∨ rm = 4 then dyadicLe (2 * largestMult f + 1) (largestQuantum f - 1) mant exp
      else !dyadicLe n q (largestMult f) (largestQuantum f)
    if tooBig then (overflowResult f rm sat neg, condOF ||| condNX)
    else
      let tiny := decide (e < emin) && decide ((roundTo rm neg mant exp (e - f.mbits)).1 < 2 ^ (f.mbits + 1) ∨ e + 1 < emin)
      (withSign f neg (((q + f.mbits + f.bias - 1) * 2 ^ f.mbits).toNat + n),
        if inexact then (if tiny then condUF ||| condNX else condNX) else 0#7)

/-- A value rounded once to a format, with the conditions of the rounding alone: a NaN is canonical and raises nothing
here (02_numbers R41-R43). An infinity in a format without infinities follows R42. -/
def roundVal (f : FloatFmt) (rm : Nat) (sat : Bool) : FVal → Nat × Conds
  | .nan _ => match f.nan with
    | some n => (n, 0#7)
    | none => (0, condNV)
  | .inf neg => match f.inf, f.nan with
    | some i, _ => (withSign f neg i, 0#7)
    | none, some n => (if sat then withSign f neg f.largest else n, condNV)
    | none, none => (withSign f neg f.largest, condNV)
  | .fin neg mant exp => roundFin f rm sat neg mant exp

/-- The value of an encoding (02_numbers R37, R38, R43). -/
def decodeFloat (f : FloatFmt) (x : Nat) : FVal :=
  let mag := x % 2 ^ (f.ebits + f.mbits)
  let neg := decide (x / 2 ^ (f.ebits + f.mbits) % 2 = 1)
  let e := mag / 2 ^ f.mbits
  let m := mag % 2 ^ f.mbits
  if mag ≤ f.largest then
    if e = 0 then .fin neg m (1 - (f.bias : Int) - f.mbits)
    else .fin neg (2 ^ f.mbits + m) ((e : Int) - f.bias - f.mbits)
  else if f.inf = some mag then .inf neg
  else .nan (!f.quiet && decide (m < 2 ^ (f.mbits - 1)))

/-! ### Operations on values -/

/-- Whether a value is a signalling NaN. -/
def FVal.isSignalling : FVal → Bool
  | .nan s => s
  | _ => false

/-- Whether a value is a NaN. -/
def FVal.isNan : FVal → Bool
  | .nan _ => true
  | _ => false

/-- Whether a value is a zero. -/
def FVal.isZero : FVal → Bool
  | .fin _ 0 _ => true
  | _ => false

/-- NV for a signalling NaN operand (02_numbers R43). -/
def snanCond (x : FVal) : Conds := if x.isSignalling then condNV else 0#7

/-- A value with its sign inverted. -/
def FVal.neg : FVal → FVal
  | .nan s => .nan s
  | .inf n => .inf (!n)
  | .fin n m e => .fin (!n) m e

/-- The exact sum; the sign of a zero sum is that of 02_numbers R40. Infinities of opposite sign are invalid (R44). -/
def FVal.add (rm : Nat) (x y : FVal) : FVal × Conds :=
  match x, y with
  | .nan a, y => (.nan false, snanCond (.nan a) ||| snanCond y)
  | x, .nan b => (.nan false, snanCond x ||| snanCond (.nan b))
  | .inf a, .inf b => if a = b then (.inf a, 0#7) else (.nan false, condNV)
  | .inf a, .fin .. => (.inf a, 0#7)
  | .fin .., .inf b => (.inf b, 0#7)
  | .fin a ma ea, .fin b mb eb =>
    let e := min ea eb
    let va : Int := ((ma * 2 ^ (ea - e).toNat : Nat) : Int)
    let vb : Int := ((mb * 2 ^ (eb - e).toNat : Nat) : Int)
    let v : Int := (if a then -va else va) + (if b then -vb else vb)
    if v = 0 then
      (.fin (if ma = 0 ∧ mb = 0 ∧ a = b then a else decide (rm = 2)) 0 e, 0#7)
    else (.fin (decide (v < 0)) v.natAbs e, 0#7)

/-- The exact product; an infinity times zero is invalid (02_numbers R44). -/
def FVal.mul (x y : FVal) : FVal × Conds :=
  match x, y with
  | .nan a, y => (.nan false, snanCond (.nan a) ||| snanCond y)
  | x, .nan b => (.nan false, snanCond x ||| snanCond (.nan b))
  | .inf a, .inf b => (.inf (a != b), 0#7)
  | .inf a, .fin b m _ => if m = 0 then (.nan false, condNV) else (.inf (a != b), 0#7)
  | .fin a m _, .inf b => if m = 0 then (.nan false, condNV) else (.inf (a != b), 0#7)
  | .fin a ma ea, .fin b mb eb => (.fin (a != b) (ma * mb) (ea + eb), 0#7)

/-- The quotient, with a sticky bit below at least `keep` bits (04_context R128). -/
def FVal.div (keep : Nat) (x y : FVal) : FVal × Conds :=
  match x, y with
  | .nan a, y => (.nan false, snanCond (.nan a) ||| snanCond y)
  | x, .nan b => (.nan false, snanCond x ||| snanCond (.nan b))
  | .inf _, .inf _ => (.nan false, condNV)
  | .inf a, .fin b _ _ => (.inf (a != b), 0#7)
  | .fin a _ _, .inf b => (.fin (a != b) 0 0, 0#7)
  | .fin a ma ea, .fin b mb eb =>
    if mb = 0 then (if ma = 0 then (.nan false, condNV) else (.inf (a != b), condDZ))
    else if ma = 0 then (.fin (a != b) 0 0, 0#7)
    else
      let k := keep + 3 + bitLength mb
      let q := ma * 2 ^ k / mb
      (.fin (a != b) (2 * q + (if ma * 2 ^ k % mb = 0 then 0 else 1)) (ea - eb - k - 1), 0#7)

/-- The integer square root, found bit by bit from bit n down. -/
def isqrt (x : Nat) : Nat → Nat → Nat
  | 0, r => if (r + 1) * (r + 1) ≤ x then r + 1 else r
  | n + 1, r => isqrt x n (if (r + 2 ^ (n + 1)) * (r + 2 ^ (n + 1)) ≤ x then r + 2 ^ (n + 1) else r)

/-- The square root, with a sticky bit below at least `keep` bits (04_context R128). -/
def FVal.sqrt (keep : Nat) (x : FVal) : FVal × Conds :=
  match x with
  | .nan s => (.nan false, snanCond (.nan s))
  | .inf n => if n then (.nan false, condNV) else (.inf false, 0#7)
  | .fin n m e =>
    if m = 0 then (.fin n 0 0, 0#7)
    else if n then (.nan false, condNV)
    else
      let k := 2 * keep + 4 + (if (e - (2 * keep + 4 : Nat)) % 2 = 0 then 0 else 1)
      let v := m * 2 ^ k
      let r := isqrt v ((bitLength v + 1) / 2) 0
      (.fin false (2 * r + (if r * r = v then 0 else 1)) ((e - k) / 2 - 1), 0#7)

/-- The order of two values that are not NaNs, with -0 equal to +0: negative, zero or positive. -/
def FVal.cmp (x y : FVal) : Int :=
  match x, y with
  | .inf a, .inf b => (if a then -1 else 1) - (if b then -1 else 1)
  | .inf a, _ => if a then -1 else 1
  | _, .inf b => if b then 1 else -1
  | .fin a ma ea, .fin b mb eb =>
    let e := min ea eb
    let va : Int := ((ma * 2 ^ (ea - e).toNat : Nat) : Int)
    let vb : Int := ((mb * 2 ^ (eb - e).toNat : Nat) : Int)
    (if a then -va else va) - (if b then -vb else vb)
  | .nan _, _ => 0
  | _, .nan _ => 0

/-- Whether a value has its sign set. -/
def FVal.isNeg : FVal → Bool
  | .nan _ => false
  | .inf n => n
  | .fin n _ _ => n

/-- The minimum or maximum of two encodings (02_numbers R46): a non-NaN operand is returned bit for bit. -/
def floatMinMax (f : FloatFmt) (wantMax : Bool) (x y : Nat) : Nat × Conds :=
  let vx := decodeFloat f x
  let vy := decodeFloat f y
  let c := snanCond vx ||| snanCond vy
  match vx.isNan, vy.isNan with
  | true, true => (f.nan.getD 0, c)
  | true, false => (y, c)
  | false, true => (x, c)
  | false, false =>
    let d := vx.cmp vy
    let xLess := decide (d < 0) || (decide (d = 0) && vx.isNeg && !vy.isNeg)
    (if xLess = wantMax then y else x, c)

/-- One floating-point operation whose operands are encodings of a format: an exact result, rounded once. -/
def floatResult (f : FloatFmt) (rm : Nat) (sat : Bool) (r : FVal × Conds) : Nat × Conds :=
  let (x, c) := roundVal f rm sat r.1
  (x, c ||| r.2)

/-- The rounded sum of two encodings (02_numbers R39-R44). -/
def floatAdd (f : FloatFmt) (rm : Nat) (sat : Bool) (x y : Nat) : Nat × Conds :=
  floatResult f rm sat (FVal.add rm (decodeFloat f x) (decodeFloat f y))

/-- The rounded difference of two encodings. -/
def floatSub (f : FloatFmt) (rm : Nat) (sat : Bool) (x y : Nat) : Nat × Conds :=
  floatResult f rm sat (FVal.add rm (decodeFloat f x) (decodeFloat f y).neg)

/-- The rounded product of two encodings. -/
def floatMul (f : FloatFmt) (rm : Nat) (sat : Bool) (x y : Nat) : Nat × Conds :=
  floatResult f rm sat (FVal.mul (decodeFloat f x) (decodeFloat f y))

/-- The rounded quotient of two encodings. -/
def floatDiv (f : FloatFmt) (rm : Nat) (sat : Bool) (x y : Nat) : Nat × Conds :=
  floatResult f rm sat (FVal.div (f.mbits + 2) (decodeFloat f x) (decodeFloat f y))

/-- The rounded square root of an encoding. -/
def floatSqrt (f : FloatFmt) (rm : Nat) (sat : Bool) (x : Nat) : Nat × Conds :=
  floatResult f rm sat (FVal.sqrt (f.mbits + 2) (decodeFloat f x))

/-- A fused multiply-add of values: the product with its sign inverted if `np`, plus c with its sign inverted if `nc`
(04_context R132). -/
def fusedMulAdd (rm : Nat) (np nc : Bool) (a b c : FVal) : FVal × Conds :=
  let (p, c1) := FVal.mul a b
  let (r, c2) := FVal.add rm (if np then p.neg else p) (if nc then c.neg else c)
  (r, c1 ||| c2 ||| snanCond c)

/-- The rounded fused multiply-add of encodings. -/
def floatFma (f : FloatFmt) (rm : Nat) (sat np nc : Bool) (a b c : Nat) : Nat × Conds :=
  floatResult f rm sat (fusedMulAdd rm np nc (decodeFloat f a) (decodeFloat f b) (decodeFloat f c))

/-! ### Conversions -/

/-- The value of an element of a format alone, without an MX scale (02_numbers R37, R47, R48; 08_vector_ops R218). -/
def elemValue (k : FmtKind) (x : Nat) : FVal :=
  match k with
  | .int w => let i := toSigned x w; .fin (decide (i < 0)) i.natAbs 0
  | .nat w => .fin false (x % 2 ^ w) 0
  | .float f => decodeFloat f x
  | .mxi8 => let i := toSigned x 8; .fin (decide (i < 0)) i.natAbs (-6)
  | .e8m0 => if x % 256 = 255 then .nan false else .fin false 1 ((x % 256 : Nat) - (127 : Int))
  | .bp k =>
    let t := toSigned x k
    let i := if k = 8 then t else t * 2 ^ (8 - k) + 2 ^ (7 - k)
    .fin (decide (i < 0)) i.natAbs 0

/-- A value rounded to an integer between limits, as a w-bit pattern (02_numbers R45). -/
def toInteger (rm : Nat) (lo hi : Int) (w : Nat) : FVal → Nat × Conds
  | .nan _ => (0, condNV)
  | .inf neg => (wrap (if neg then lo else hi) w, condNV)
  | .fin neg mant exp =>
    let (n, inexact) := roundTo rm neg mant exp 0
    let i : Int := if neg then -(n : Int) else n
    if i < lo then (wrap lo w, condNV)
    else if hi < i then (wrap hi w, condNV)
    else (wrap i w, if inexact then condNX else 0#7)

/-- An exact integer in an integer format: kept when it fits, else saturated or wrapped (02_numbers R36). -/
def fitInteger (sat : Bool) (lo hi : Int) (w : Nat) (i : Int) : Nat :=
  if sat then wrap (if i < lo then lo else if hi < i then hi else i) w else wrap i w

/-- The exact integer that a finite value without fraction holds. -/
def intOfVal : FVal → Int
  | .fin neg mant exp => let n : Int := ((mant * 2 ^ exp.toNat : Nat) : Int); if neg then -n else n
  | _ => 0

/-- Whether a source format is converted as an integer: I, N and BP formats (02_numbers R36, R48). -/
def FmtKind.isInteger : FmtKind → Bool
  | .int _ => true
  | .nat _ => true
  | .bp _ => true
  | _ => false

/-- A value shifted by a power of two. -/
def FVal.scale (k : Int) : FVal → FVal
  | .fin n m e => .fin n m (e + k)
  | x => x

/-- The k-bit image of an I8 pattern (02_numbers R48). -/
def bpImage (k v : Nat) : Nat := wrap (toSigned v 8 / 2 ^ (8 - k)) k

/-- A value into E8M0 (08_vector_ops R218). -/
def toE8M0 : FVal → Nat × Conds
  | .nan _ => (255, 0#7)
  | .inf neg => (if neg then 0 else 254, condNV)
  | .fin neg mant exp =>
    if neg ∨ mant = 0 then (0, condNV)
    else
      let x : Int := exp + bitLength mant - 1 + 127
      let c : Int := if x < 0 then 0 else if 254 < x then 254 else x
      (c.toNat, if mant = 2 ^ (bitLength mant - 1) ∧ c = x then 0#7 else condNX)

/-- A value into a format; `fromInt` says that the source is an integer format (02_numbers R36, R42, R45, R48). -/
def intoFormat (k : FmtKind) (rm : Nat) (sat fromInt : Bool) (v : FVal) : Nat × Conds :=
  match k with
  | .float f => roundVal f rm sat v
  | .int w =>
    let lo : Int := -(2 ^ (w - 1) : Nat)
    let hi : Int := ((2 ^ (w - 1) : Nat) : Int) - 1
    if fromInt then (fitInteger sat lo hi w (intOfVal v), 0#7) else toInteger rm lo hi w v
  | .nat w =>
    let hi : Int := ((2 ^ w : Nat) : Int) - 1
    if fromInt then (fitInteger sat 0 hi w (intOfVal v), 0#7) else toInteger rm 0 hi w v
  | .mxi8 => toInteger rm (-128) 127 8 (v.scale 6)
  | .e8m0 => toE8M0 v
  | .bp k =>
    if fromInt then (bpImage k (fitInteger true (-128) 127 8 (intOfVal v)), 0#7)
    else let (x, c) := toInteger rm (-128) 127 8 v; (bpImage k x, c)

/-- Convert an element from one format code to another (02_numbers R36, R43, R45; 08_vector_ops R218): equal codes copy,
but a NaN becomes canonical and a signalling NaN raises NV. -/
def convert (src dst rm : Nat) (sat : Bool) (x : Nat) : Nat × Conds :=
  let v := elemValue (fmtOf src) x
  if src = dst then
    match fmtOf src, v with
    | .float f, .nan s => (f.nan.getD 0, if s then condNV else 0#7)
    | _, _ => (x % 2 ^ fmtWidth src, 0#7)
  else
    let (y, c) := intoFormat (fmtOf dst) rm sat (fmtOf src).isInteger v
    (y, c ||| snanCond v)

/-! ### Quantisation -/

/-- emax of an MX element code (02_numbers R59). -/
def mxEmax (c : Nat) : Int :=
  match c with
  | 17 => 8
  | 18 => 15
  | 19 => 4
  | 20 => 2
  | 21 => 2
  | _ => 0

/-- floor(log2) of a finite non-zero magnitude. -/
def floorLog2 (mant : Nat) (exp : Int) : Int := exp + bitLength mant - 1

/-- The largest magnitude of a list of finite values. -/
def maxMag : List FVal → Nat × Int
  | [] => (0, 0)
  | .fin _ m e :: r => let (m', e') := maxMag r; if dyadicLe m e m' e' then (m', e') else (m, e)
  | _ :: r => maxMag r

/-- One block of VQNT (02_numbers R59): the values of elements with `none` for padding; answers the elements, the scale
byte and the conditions. A clamp to the largest finite magnitude raises nothing. -/
def quantBlock (dst rm : Nat) (xs : List (Option FVal)) : List Nat × Nat × Conds :=
  let ps := xs.filterMap id
  if ps.any fun v => match v with | .fin .. => false | _ => true then (xs.map fun _ => 0, 0xFF, condNV)
  else
    let (m, e0) := maxMag ps
    if m = 0 then (xs.map fun _ => 0, 0, 0#7)
    else
      let e := floorLog2 m e0 - mxEmax dst
      let qsat := decide (127 < e)
      let e := if 127 < e then 127 else e
      let low := decide (e < -127)
      let e := if e < -127 then -127 else e
      let rs := xs.map fun x => match x with
        | none => (0, (0#7 : Conds))
        | some v =>
          let (y, c) := intoFormat (fmtOf dst) rm true false (v.scale (-e))
          (y, if c &&& (condOF ||| condNV) = 0#7 then c else 0#7)
      let zero := fun (y : Nat) => decide (y % 2 ^ (fmtWidth dst - 1) = 0) && (decide (dst ≠ 22) || decide (y = 0))
      if low && (rs.zip xs).all fun p => p.2.isNone || zero p.1.1 then
        (xs.map fun _ => 0, (e + 127).toNat, (rs.foldl (fun c r => c ||| r.2) 0#7) ||| condQUNF ||| (if qsat then condQSAT else 0#7))
      else
        (rs.map (·.1), (e + 127).toNat, (rs.foldl (fun c r => c ||| r.2) 0#7) ||| (if qsat then condQSAT else 0#7))

end Sys2Proof.Machine
end

