-- ==== Sys2Proof/Machine/Flags.lean ====
section
/-! DEFINITION. The accrual of conditions: FCTL with its trap enables (04_context R104, R131), VFLAGS (07_vector R175,
08_vector_ops R204) and TFLAGS (09_tile R231). -/

namespace Sys2Proof.Machine

/-- FCTL.RM. -/
def fctlRm (fctl : Word) : Nat := field fctl 12 10

/-- FCTL.TIE. -/
def fctlTie (fctl : Word) : Bool := bit fctl 13

/-- FCTL[9:5], the trap enables in flag order. -/
def fctlEnables (fctl : Word) : Nat := field fctl 9 5

/-- Whether any scalar floating-point trap is enabled (05_traps R136). -/
def fctlAnyEnabled (fctl : Word) : Bool := fctlEnables fctl != 0

/-- The conditions ORed into FCTL[4:0] (04_context R131). -/
def accrueFctl (fctl : Word) (c : Conds) : Word := fctl ||| BitVec.ofNat 64 (c.toNat % 32)

/-- The cause of the first enabled raised condition, in the order NV, DZ, OF, UF, NX (04_context R131); none when no
raised condition is enabled. -/
def fpTrapCause (fctl : Word) (c : Conds) : Option Nat :=
  let e := fctlEnables fctl &&& (c.toNat % 32)
  if e.testBit 4 then some 0x06
  else if e.testBit 3 then some 0x07
  else if e.testBit 2 then some 0x08
  else if e.testBit 1 then some 0x09
  else if e.testBit 0 then some 0x0A
  else none

/-- TVAL of a floating-point trap: the whole raised set (04_context R131). -/
def fpTrapValue (c : Conds) : Word := BitVec.ofNat 64 (c.toNat % 32)

/-- The conditions ORed into VFLAGS[6:0] (08_vector_ops R204). -/
def accrueVflags (vflags : Word) (c : Conds) : Word := vflags ||| BitVec.ofNat 64 c.toNat

/-- The conditions ORed into TFLAGS[4:0] (09_tile R239). -/
def accrueTflags (tflags : Word) (c : Conds) : Word := tflags ||| BitVec.ofNat 64 (c.toNat % 32)

/-- The rounding mode of a scalar instruction: the code of its field, or FCTL.RM for code 7; none when FCTL.RM is 5, 6
or 7 (02_numbers R39, 04_context R104). -/
def scalarRounding (fctl : Word) (code : Nat) : Option Nat :=
  if code = 7 then (if fctlRm fctl ≤ 4 then some (fctlRm fctl) else none) else some code

end Sys2Proof.Machine
end

