-- ==== Sys2Proof/Machine/Memory.lean ====
section
/-! DEFINITION. Bytes of memory by location. A location numbers every byte the spec gives the module, in disjoint
ranges: device physical addresses, host physical addresses, peers' physical addresses, scratchpads and local stores, and
one range for the storage of fused clusters, which discards writes (16_link R422). -/

namespace Sys2Proof.Machine

/-! ### Locations -/

/-- A device physical address (01_module R25). -/
def Loc.phys (a : Nat) : Nat := a

/-- A host physical address (15_page R375). -/
def Loc.host (a : Nat) : Nat := 2 ^ 60 + a

/-- An address of a peer endpoint (15_page R375). -/
def Loc.peer (endpoint a : Nat) : Nat := 2 ^ 61 + endpoint * 2 ^ 42 + a

/-- An offset in the scratchpad of a physical cluster, before shadow swapping (01_module R17). -/
def Loc.scratch (cluster offset : Nat) : Nat := 2 ^ 62 + cluster * 2 ^ 20 + offset

/-- An offset in a core's local store (01_module R18). -/
def Loc.localStore (coreKey offset : Nat) : Nat := 2 ^ 63 + coreKey * 2 ^ 18 + offset

/-- The storage of a fused cluster (16_link R422). -/
def Loc.void : Nat := 2 ^ 64

/-- Whether a location is a device physical address. -/
def Loc.isPhys (l : Nat) : Bool := decide (l < 2 ^ 60)

/-- Whether a location lies on a HOST frame. -/
def Loc.isHost (l : Nat) : Bool := decide (2 ^ 60 ≤ l) && decide (l < 2 ^ 61)

/-- Whether a location lies on a PEER frame. -/
def Loc.isPeer (l : Nat) : Bool := decide (2 ^ 61 ≤ l) && decide (l < 2 ^ 62)

/-- Whether a location lies in a scratchpad or a local store, where granules have full-empty bits. -/
def Loc.isStorage (l : Nat) : Bool := decide (2 ^ 62 ≤ l) && decide (l < 2 ^ 64)

/-- Whether a device physical address is near memory (01_module R25). -/
def physNear (a : Nat) : Bool := decide (a < 0x14000000000)

/-- Whether a device physical address is far memory (01_module R25). -/
def physFar (a : Nat) : Bool := decide (0x20000000000 ≤ a) && decide (a < 0x40000000000)

/-- The channel of a device physical address: 0 to 1,023 near, 1,024 + 16 * far-tier die + channel far (01_module R25). -/
def channelOf (a : Nat) : Nat :=
  if physNear a then a / 2048 % 1024 else 1024 + 16 * ((a - 0x20000000000) / 2 ^ 39) + (a - 0x20000000000) / 2048 % 16

/-- The compute die to which near-tier die k is attached (01_module R13). -/
def nearAttached (k : Nat) : Nat := if k < 4 then k else k + 16

/-- The compute die to which far-tier die k is attached. -/
def farAttached (k : Nat) : Nat :=
  match k with
  | 0 => 4
  | 1 => 16
  | 2 => 7
  | _ => 19

/-- The compute die to which I/O die k is attached. -/
def ioAttached (k : Nat) : Nat := if k = 0 then 8 else 15

/-- The compute die through which the die of a device physical address posts events (16_link R416). -/
def memoryDie (a : Nat) : Nat :=
  if physNear a then nearAttached (channelOf a % 16 / 2) else farAttached ((a - 0x20000000000) / 2 ^ 39)

/-- The draft pool of a location: the near-tier die of its channel (12_kernel R310). -/
def poolOf (l : Nat) : Nat :=
  if physNear l then channelOf l % 16 / 2
  else 2 * ((l - 0x20000000000) / 2 ^ 39) + channelOf l % 2

/-! ### The draft region -/

/-- The draft pool size P in GiB: 1 to 32 by boot configuration, 8 when it sets none of these (01_module R26). -/
def State.poolGiB (s : State) : Nat := if 1 ≤ s.pkg.draftPool ∧ s.pkg.draftPool ≤ 32 then s.pkg.draftPool else 8

/-- DRAFTBASE = 0x140_0000_0000 - 8.5 P (01_module R26). -/
def State.draftBase (s : State) : Nat := 0x14000000000 - 17 * s.poolGiB * 2 ^ 29

/-- Slots of one draft pool, 512 bytes each (12_kernel R310). -/
def State.poolSlots (s : State) : Nat := s.poolGiB * 2 ^ 21

/-! ### The byte list -/

/-- What a byte that is not listed reads as: the presence granule of an enabled cluster's scratchpad holds its die, row
and column in the layout of 16_link R424 (16_link R422); every other byte 0 (log entry 1). -/
def Memory.initial (l : Nat) : Byte :=
  if 2 ^ 62 ≤ l ∧ l < 2 ^ 63 ∧ 0xFFFF0 ≤ l % 2 ^ 20 then
    let c := (l - 2 ^ 62) / 2 ^ 20
    let word := (c / 352) * 512 + (c % 352 / 16) * 16 + c % 16
    if Config.enabled c ∧ l % 16 < 2 then BitVec.ofNat 8 (word / 256 ^ (l % 16)) else 0#8
  else 0#8

/-- The canonical form of memory: locations strictly rise, and no entry equals what an unlisted location reads as. -/
def Memory.wf : List Host.Cell → Bool
  | [] => true
  | (l, b) :: r =>
    (match r with
      | [] => true
      | (k, _) :: _ => decide (l < k)) && decide (b ≠ Memory.initial l) && Memory.wf r

/-- The byte at a location. -/
def Memory.read (l : Nat) : List Host.Cell → Byte
  | [] => Memory.initial l
  | (k, b) :: r => if l < k then Memory.initial l else if l = k then b else Memory.read l r

/-- The list with an entry put in place of any entry for the same location. -/
def Memory.insert (l : Nat) (b : Byte) : List Host.Cell → List Host.Cell
  | [] => [(l, b)]
  | (k, c) :: r => if l < k then (l, b) :: (k, c) :: r else if l = k then (l, b) :: r else (k, c) :: Memory.insert l b r

/-- The list without an entry for the location. -/
def Memory.remove (l : Nat) : List Host.Cell → List Host.Cell
  | [] => []
  | (k, c) :: r => if l < k then (k, c) :: r else if l = k then r else (k, c) :: Memory.remove l r

/-- Write one byte, keeping the canonical form. A write to the storage of a fused cluster is discarded (16_link R422). -/
def Memory.write (l : Nat) (b : Byte) (m : List Host.Cell) : List Host.Cell :=
  if Loc.void ≤ l then m else if b = Memory.initial l then Memory.remove l m else Memory.insert l b m

/-- The n bytes from a location, read as one little-endian number (00_scope R7). -/
def Memory.readNat (l : Nat) : Nat → List Host.Cell → Nat
  | 0, _ => 0
  | n + 1, m => (Memory.read l m).toNat + 256 * Memory.readNat (l + 1) n m

/-- Write the n little-endian bytes of a number (00_scope R7). -/
def Memory.writeNat (l x : Nat) : Nat → List Host.Cell → List Host.Cell
  | 0, m => m
  | n + 1, m => Memory.writeNat (l + 1) (x / 256) n (Memory.write l (BitVec.ofNat 8 x) m)

/-- Write a list of bytes from a location. -/
def Memory.writeList (l : Nat) : List Byte → List Host.Cell → List Host.Cell
  | [], m => m
  | b :: bs, m => Memory.writeList (l + 1) bs (Memory.write l b m)

/-- The n bytes from a location. -/
def Memory.readList (l : Nat) : Nat → List Host.Cell → List Byte
  | 0, _ => []
  | n + 1, m => Memory.read l m :: Memory.readList (l + 1) n m

/-- Every byte from a location on, n of them, as at reset (zeroed storage, 10_buffer R250). -/
def Memory.clear (l n : Nat) (m : List Host.Cell) : List Host.Cell :=
  m.filter fun c => decide (c.1 < l) || decide (l + n ≤ c.1)

/-! ### Bytes as agents see them -/

/-- The byte of a granule's draft line of the version given, if it is valid there (12_kernel R311). -/
def draftByte (s : State) (tag l : Nat) : Option Byte :=
  (s.pkg.drafts.find? fun d => d.tag == tag && d.granule == l / 256 && d.commit.isNone).bind
    fun d => Table.find (l % 256) d.bytes

/-- The committed byte at a location: of the latest committed line that is not folded, else of memory (12_kernel R311). -/
def committedByte (s : State) (l : Nat) : Byte :=
  let lines := s.pkg.drafts.filter fun d => d.commit.isSome && d.granule == l / 256 && (Table.find (l % 256) d.bytes).isSome
  match leastBy (fun d => 2 ^ 64 - d.commit.getD 0) lines with
  | some d => (Table.find (l % 256) d.bytes).getD 0#8
  | none => Memory.read l s.mem

/-- The byte an access reads at its place plus an offset: the version's own draft over committed data (12_kernel R311). -/
def readPlaceByte (s : State) (p : Place) (o : Nat) : Byte :=
  match p.draft with
  | some v => (draftByte s v (p.loc + o)).getD (committedByte s (p.loc + o))
  | none => if Loc.isPhys (p.loc + o) then committedByte s (p.loc + o) else Memory.read (p.loc + o) s.mem

/-- The n bytes an access reads at its place, as a number. -/
def readPlace (s : State) (p : Place) : Nat → Nat → Nat
  | _, 0 => 0
  | o, n + 1 => (readPlaceByte s p o).toNat + 256 * readPlace s p (o + 1) n

/-- The key of the bank of a device physical address (15_page R389, R392; log entry 14). -/
def bankKey (l : Nat) : Nat := channelOf l * 65536 + Config.bankOf l % 65536

/-- Whether two device physical addresses lie in one memory row (15_page R392; log entry 14). -/
def sameRow (a l : Nat) : Bool := Loc.isPhys l && bankKey a == bankKey l && Config.rowOf a == Config.rowOf l

/-- The links that an access to a location crosses: its memory die's, or the host link or a UALink port with its I/O die's
(16_link R397, R413). -/
def linksOf (l : Nat) : List Link :=
  if Loc.isPhys l then
    (if physNear l then [.nearDie (channelOf l % 16 / 2)] else if physFar l then [.farDie ((l - 0x20000000000) / 2 ^ 39)] else [])
  else if Loc.isHost l then [.host, .ioDie 0]
  else if Loc.isPeer l then
    let k := ((l - 2 ^ 61) / 2 ^ 42 + (l - 2 ^ 61) % 2 ^ 42 / 2048) % 16
    [.port k, .ioDie (k / 8)]
  else []

/-- The state of a link: UP when not listed (16_link R398; log entry 12). -/
def State.linkState (s : State) (l : Link) : LinkState := ((s.pkg.links.find? fun p => p.1 == l).map fun p => p.2.state).getD .up

/-- Whether a location lies behind a link in the state given. -/
def State.behind (s : State) (st : LinkState) (l : Nat) : Bool :=
  !s.pkg.links.isEmpty && (linksOf l).any fun k => s.linkState k == st

/-- Whether a resource is under self-test (15_page R392). -/
def TestState.isTesting : TestState → Bool
  | .testing _ => true
  | _ => false

/-- Whether a link holds its traffic: it is DOWN or in TRAINING, or one of its lanes is under test (16_link R398, R401). -/
def State.linkHeld (s : State) (k : Link) : Bool :=
  s.linkState k == .training || s.linkState k == .down ||
  s.pkg.tests.any fun p => p.2.isTesting && match p.1 with
    | .linkLane l _ _ _ => l == k
    | _ => false

/-! ### Routes -/

/-- The global column and row of a physical cluster's router (01_module R28). -/
def siteXY (c : Nat) : Nat × Nat :=
  (c / Config.sites % 4 * 16 + c % Config.sites % 16, c / Config.sites / 4 * 22 + c % Config.sites / 16)

/-- The site at the router of a die's walkers, its fault unit and its Timetable agent (15_page R380, R381; 12_kernel R307). -/
def walkerSite (die : Nat) : Nat := die * Config.sites + 15

/-- The cluster site at the edge router to which an I/O die is attached (01_module R13). -/
def ioSite (k : Nat) : Nat := ioAttached k * Config.sites + 11 * 16 + if k = 0 then 0 else 15

/-- The cluster site whose router serves a location: the storage's own cluster, the edge router of a pseudo-channel, or the
attachment router of a far-tier or I/O die (01_module R13, R29). -/
def homeSite (l : Nat) : Nat :=
  if Loc.isPhys l then
    if physNear l then
      memoryDie l * Config.sites + (if channelOf l % 16 / 2 < 4 then 0 else 21 * 16) + (channelOf l / 16 + 8) % 16
    else memoryDie l * Config.sites + 11 * 16 + if (l - 0x20000000000) / 2 ^ 39 < 2 then 0 else 15
  else if Loc.isHost l then ioSite 0
  else if Loc.isPeer l then ioSite (((l - 2 ^ 61) / 2 ^ 42 + (l - 2 ^ 61) % 2 ^ 42 / 2048) % 16 / 8)
  else if l < 2 ^ 63 then (l - 2 ^ 62) / 2 ^ 20
  else (l - 2 ^ 63) / 2 ^ 18 / 8

/-- The crossing channels of the route between two routers, columns first (01_module R14, R28): boundaries 0 to 17 join die columns,
die row by die row, and 18 to 37 die rows (log entry 81); a channel is numbered by the row or column of its routers. -/
def crossingsOf (a b : Nat) : List Link :=
  let (x, y) := siteXY a
  let (u, v) := siteXY b
  let between (m n : Nat) : List Nat := (List.range 6).filter fun d => decide (min m n ≤ d) && decide (d < max m n)
  (between (x / 16) (u / 16)).map (fun d => Link.crossing (y / 22 * 3 + d) (y % 22)) ++
    (between (y / 22) (v / 22)).map fun d => Link.crossing (18 + d * 4 + u / 16) (u % 16)

/-- The number of crossing channels of a boundary: 22 between die columns, 16 between die rows (01_module R14). -/
def boundaryChannels (b : Nat) : Nat := if b < 18 then 22 else 16

/-- The channel on which a packet for channel c of boundary b crosses: c, or where it has FAILED the nearest UP or DEGRADED one, the lower
numbered on a tie; none when every channel is out (16_link R400). -/
def State.channelFor (s : State) (b c : Nat) : Option Nat :=
  if s.linkState (.crossing b c) != .failed then some c
  else leastBy (fun k => if k < c then 2 * (c - k) else 2 * (k - c) + 1) ((List.range (boundaryChannels b)).filter fun k =>
    s.linkState (.crossing b k) == .up || s.linkState (.crossing b k) == .degraded)

/-- Whether a packet passes a crossing channel: not while the channel on which it crosses holds its traffic (16_link R398, R400,
R401). -/
def State.crossable (s : State) : Link → Bool
  | .crossing b c => (s.channelFor b c).any fun k => !s.linkHeld (.crossing b k)
  | _ => true

/-- Whether messages pass from one compute die to another between their time units, at routers (0, 0) (16_link R398, R400-R403). -/
def State.dieOpen (s : State) (a b : Nat) : Bool := (crossingsOf (a * Config.sites) (b * Config.sites)).all s.crossable

/-- Whether the way between a cluster and a location is open, there and back: no link on it holds its traffic (01_module R28, 16_link
R398, R401). -/
def State.routeOpen (s : State) (c l : Nat) : Bool :=
  (s.pkg.links.isEmpty && s.pkg.tests.isEmpty) ||
  ((linksOf l).all (fun k => !s.linkHeld k) && (crossingsOf c (homeSite l) ++ crossingsOf (homeSite l) c).all s.crossable)

/-- Whether some resource under self-test satisfies a condition (15_page R392). -/
def State.underTest (s : State) (f : Resource → Bool) : Bool := s.pkg.tests.any fun p => p.2.isTesting && f p.1

/-- Whether a resource holds a location: a memory row, or a 4 KiB segment of a storage (15_page R392). -/
def inResource (r : Resource) (l : Nat) : Bool :=
  match r with
  | .dram a => sameRow a l
  | .localStore c k o => l / 4096 == Loc.localStore (c * 8 + k) o / 4096
  | .scratchpad c o => l / 4096 == Loc.scratch c o / 4096
  | _ => false

/-- Whether a location accepts a request: its bank is not in a refresh, and its resource not under self-test (15_page R389,
R392). -/
def State.bankReady (s : State) (l : Nat) : Bool :=
  !s.underTest (fun r => inResource r l) &&
  if Loc.isPhys l && physNear l && !s.pkg.banks.isEmpty then
    match Table.find (bankKey l) s.pkg.banks with
    | some (.refreshing since) => decide (since + 200 ≤ s.now)
    | _ => true
  else true

/-- Whether a request of a cluster reaches a location and is accepted there: no link on the way holds its traffic (15_page R389, R392;
16_link R398, R401). -/
def State.siteReady (s : State) (cluster l : Nat) : Bool := s.bankReady l && s.routeOpen cluster l

/-- Whether any of the n bytes from a location lies on a poisoned line, behind a FAILED link (16_link R400), or in a row retired without a spare (15_page R391,
R392). -/
def poisoned (s : State) (l n : Nat) : Bool :=
  (s.poison.any fun k => decide (k * 64 < l + n) && decide (l < k * 64 + 64)) ||
  (s.pkg.deadRows.any fun a => sameRow a l || sameRow a (l + n - 1)) || s.behind .failed l

/-- A direct write of bytes: to memory, over any committed line not yet folded; a write that covers a whole poisoned line
removes its marker (15_page R391). -/
def writeDirect (s : State) (l n x : Nat) : State :=
  { s with
    mem := Memory.writeNat l x n s.mem
    poison := s.poison.filter fun k => !(decide (l ≤ k * 64) && decide (k * 64 + 64 ≤ l + n))
    pkg := if s.pkg.drafts.isEmpty then s.pkg else
      { s.pkg with drafts := s.pkg.drafts.map fun d =>
          if d.commit.isSome then
            { d with bytes := d.bytes.filter fun b =>
                decide (d.granule * 256 + b.1 < l) || decide (l + n ≤ d.granule * 256 + b.1) }
          else d } }

/-- The bytes of a number put into a draft line's mask and data from an offset (12_kernel R310). -/
def draftBytes (o x : Nat) : Nat → List (Nat × Byte) → List (Nat × Byte)
  | 0, l => l
  | n + 1, l => draftBytes (o + 1) (x / 256) n (Table.set o (BitVec.ofNat 8 x) l)

/-- A draft write of bytes that lie in one granule by the version given, which allocates its line if need be (12_kernel
R310). -/
def writeDraft (s : State) (tag l n x : Nat) : State :=
  let g := l / 256
  if s.pkg.drafts.any fun d => d.tag == tag && d.granule == g && d.commit.isNone then
    s.onPkg fun p => { p with drafts := p.drafts.map fun d =>
      if d.tag == tag && d.granule == g && d.commit.isNone then { d with bytes := draftBytes (l % 256) x n d.bytes } else d }
  else
    s.onPkg fun p => { p with drafts := p.drafts ++ [{ tag := tag, granule := g, bytes := draftBytes (l % 256) x n [] }] }

/-! ### Full-empty bits -/

/-- The full-empty bit of a granule at reset: FULL for the presence granule of an enabled cluster (16_link R422). -/
def feInitial (g : Nat) : Bool :=
  decide (2 ^ 58 ≤ g) && decide (g < 2 ^ 59) && decide (g % 2 ^ 16 = 0xFFFF) && Config.enabled ((g - 2 ^ 58) / 2 ^ 16)

/-- Whether granule g, location div 16, is FULL (10_buffer R251). -/
def State.feFull (s : State) (g : Nat) : Bool := feInitial g != s.feFlips.contains g

/-- The state with the full-empty bit of a granule set; the storage of a fused cluster has none (16_link R422). -/
def State.setFe (s : State) (g : Nat) (full : Bool) : State :=
  if Loc.void ≤ g * 16 then s
  else if full = feInitial g then { s with feFlips := s.feFlips.filter fun k => k != g }
  else { s with feFlips := insertNat g s.feFlips }

/-- Every granule of n bytes from a location set EMPTY (10_buffer R250). -/
def State.emptyGranules (s : State) (l n : Nat) : State :=
  { s with feFlips :=
      let kept := s.feFlips.filter fun g => decide (g < l / 16) || decide ((l + n) / 16 ≤ g)
      if feInitial (l / 16 + 0xFFFF) && decide (n = 2 ^ 20) then insertNat (l / 16 + 0xFFFF) kept else kept }

end Sys2Proof.Machine
end

