-- ==== Sys2Proof/Machine/World.lean ====
section
/-! DEFINITION. What every chapter needs of the module around a thread: package time (16_link R402-R406), the event ring
(R415-R418), cluster numbering (01_module R20, 16_link R422) and facts about kernels (12_kernel, 06_group). -/

namespace Sys2Proof.Machine

/-! ### Package time -/

/-- The count of R402 after n cycles. -/
def timeUnits (n : Nat) : Nat :=
  n / 27 * 655360 + (if n % 27 ≤ 16 then n % 27 * 24273 else 16 * 24273 + (n % 27 - 16) * 24272)

/-- The part of a lead that is not yet absorbed after n cycles (16_link R404). -/
def leadLeft (u : TimeUnit) (n : Nat) : Int :=
  if 0 ≤ u.lead then max 0 (u.lead - (if u.halved then 12136 else 2) * (n : Int)) else min 0 (u.lead + 2 * (n : Int))

/-- The PTIME count of a die's unit (16_link R402, R404). -/
def State.ptime (s : State) (die : Nat) : Nat :=
  let u := (s.die die).time
  (((timeUnits s.now : Nat) : Int) + u.offset + leadLeft u (s.now - u.since)).toNat % 2 ^ 64

/-- Whether PTIME value a has reached b: their difference modulo 2^64, read as signed, is not negative (16_link R402). -/
def ptimeReached (a b : Nat) : Bool := decide ((a + 2 ^ 64 - b % 2 ^ 64) % 2 ^ 64 < 2 ^ 63)

/-- The parent of a die in the time tree (16_link R403). -/
def timeParent (die : Nat) : Nat := if die < 4 then die - 1 else die - 4

/-- The bound of a die's unit: each hop's last offset plus 4,096 units along its parent chain (16_link R406). -/
def timeBound (s : State) : Nat → Nat → Nat
  | 0, _ => 0
  | n + 1, die => if die = 0 then 0 else (s.die die).time.lastOffset + 4096 + timeBound s n (timeParent die)

/-- PTSKEW.BOUND: twice the largest bound among LOCKED units, all ones when no unit other than die 0's is LOCKED (16_link
R406). -/
def State.skewBound (s : State) : Nat :=
  let locked := (List.range 24).filter fun d => d != 0 && (s.die d).time.lock == .locked
  if locked.isEmpty then 0x3FFFF else (locked.foldl (fun m d => max m (2 * timeBound s 24 d)) 0) % 2 ^ 18

/-- The code of a lock state in PTSKEW.STATE (16_link R406). -/
def Lock.code : Lock → Nat
  | .unlocked => 0
  | .locking => 1
  | .locked => 2

/-! ### Clusters -/

/-- The clusters that this Roll Call fused after a lasting fault (01_module R21). -/
def State.newlyFused (s : State) : List Nat := (s.clusters.filter fun p => !p.2.inService).map (·.1)

/-- The clusters that this Roll Call fused on one die. -/
def State.fusedNow (s : State) (d : Nat) : List Nat := s.newlyFused.filter fun f => f / Config.sites == d

/-- The sites of a die below which every one in service is enabled: those that the fuse map leaves, and in place of each cluster that this
Roll Call fused one more, the lowest, of those that the fuse map takes out (01_module R19, R21; log entry 82). -/
def State.siteBound (s : State) (d : Nat) : Nat := min Config.sites (Config.sites - Config.fusedOn d + (s.fusedNow d).length)

/-- Whether a cluster is enabled: a site of the fuse map or one that takes the place of a newly fused one, and not itself fused by this
Roll Call after a lasting fault (01_module R19, R21). -/
def State.enabled (s : State) (c : Nat) : Bool :=
  decide (c / Config.sites < Config.dies) && decide (c % Config.sites < s.siteBound (c / Config.sites)) && (s.cluster c).inService

/-- The number of enabled clusters on dies below d, by the fuse map. -/
def enabledBelow : Nat → Nat
  | 0 => 0
  | d + 1 => enabledBelow d + (Config.sites - Config.fusedOn d)

/-- The number of enabled clusters: short of 8,192 where a die has too few sites left (01_module R19, R21). -/
def State.enabledCount (s : State) : Nat :=
  ((List.range Config.dies).map fun d => s.siteBound d - (s.fusedNow d).length).foldl (· + ·) 0

/-- The logical number of an enabled physical cluster (01_module R20). -/
def State.logicalOf (s : State) (c : Nat) : Nat :=
  enabledBelow (c / Config.sites) + c % Config.sites - ((s.fusedNow (c / Config.sites)).filter fun f => decide (f < c)).length

/-- The physical cluster of logical number l, searched from die d up (01_module R20). -/
def physicalFrom (l : Nat) : Nat → Nat → Option Nat
  | 0, _ => none
  | n + 1, d =>
    if l < Config.sites - Config.fusedOn d then some (d * Config.sites + l)
    else physicalFrom (l - (Config.sites - Config.fusedOn d)) n (d + 1)

/-- The physical cluster of a logical number, past the newly fused sites of its die (01_module R20, R21). -/
def State.physicalOf (s : State) (l : Nat) : Option Nat :=
  (physicalFrom l Config.dies 0).bind fun c =>
    let x := (s.fusedNow (c / Config.sites)).foldl (fun n f => if f ≤ n then n + 1 else n) c
    if x / Config.sites = c / Config.sites then some x else none

/-- Whether the Seating Plan is sealed. -/
def State.sealed (s : State) : Bool := s.pkg.boot == .sealed

/-- The number in the CLUSTER CSR: the logical number once the plan is sealed; before, the physical number (log entry
8). -/
def State.clusterNumber (s : State) (c : Nat) : Nat := if s.sealed then s.logicalOf c else c

/-! ### Kernels -/

/-- Word w of a kernel's launch packet. -/
def Kernel.word (x : Kernel) (w : Nat) : Word := x.packet.toArray.getD w 0#64

/-- Threads per core of launch word 2 [33:32] (06_group R160). -/
def tpcOf (word2 : Word) : Nat := 2 ^ field word2 33 32

/-- The vector register count of launch word 2 [36:34] (12_kernel R298). -/
def vregsOf (word2 : Word) : Nat := 4 * 2 ^ field word2 36 34

/-- Whether a kernel is a transaction (12_kernel R298). -/
def Kernel.txn (x : Kernel) : Bool := bit (x.word 2) 0

/-- The threads of a kernel in placement order (06_group R161). -/
def Kernel.threads (x : Kernel) : List ThreadRef :=
  x.cores.flatMap fun k => (List.range (tpcOf (x.word 2))).map fun i => ⟨k / 8, k % 8, i⟩

/-- Whether a kernel holds its placement (12_kernel R304). -/
def KState.placed : KState → Bool
  | .placing | .running | .draining | .aborting => true
  | _ => false

/-- Whether a kernel has not ended and is not committed: it holds drafts that others cannot read. -/
def KState.uncommitted : KState → Bool
  | .placing | .running | .draining | .done | .committing | .aborting => true
  | _ => false

/-- The version under which a kernel's agents read and write drafts (12_kernel R308, R314). -/
def Kernel.version (x : Kernel) : Option Nat := if x.escalated then none else x.tag

/-- The handle of the kernel in an entry (12_kernel R301). -/
def handleOf (entry : Nat) (x : Kernel) : Word := BitVec.ofNat 64 (x.serial * 4096 + entry)

/-- The kernel named by a handle, with its entry (12_kernel R301). -/
def State.kernelByHandle (s : State) (h : Word) : Option (Nat × Kernel) :=
  match s.kernel (h.toNat % 4096) with
  | some x => if handleOf (h.toNat % 4096) x = h then some (h.toNat % 4096, x) else none
  | none => none

/-- Whether a partition's kernels are live on a cluster: it is resident, or its bell has stopped the cluster. -/
def State.liveOn (s : State) (p c : Nat) : Bool := (s.partition p).resident || (s.cluster c).switchedOut == some p

/-- The kernels placed on a core. -/
def State.kernelsOnCore (s : State) (core : Nat) : List (Nat × Kernel) :=
  s.kernels.filter fun p => p.2.state.placed && p.2.cores.contains core && s.liveOn p.2.part (core / 8)

/-- The kernels placed on a cluster (10_buffer R248). -/
def State.kernelsOnCluster (s : State) (c : Nat) : List (Nat × Kernel) :=
  s.kernels.filter fun p => p.2.state.placed && (p.2.cores.any fun k => k / 8 == c) && s.liveOn p.2.part c

/-! ### The event ring -/

/-- The SIZE of the event ring and its base, when the host has set it. -/
def ringRecord (base size j : Nat) : Nat := Loc.host (base + 64 + 32 * (j % size))

/-- Write one event record and advance TAIL (16_link R416, R417). -/
def writeEvent (s : State) (base size : Nat) (e : Event) : State :=
  let j := s.pkg.ringTail
  let at0 := ringRecord base size j
  let word1 := (e.seq % 2 ^ 32) * 2 ^ 32 + e.die * 2 ^ 16 + e.code
  let m := Memory.writeNat (at0 + 24) e.b.toNat 8 (Memory.writeNat (at0 + 16) e.a.toNat 8
    (Memory.writeNat (at0 + 8) word1 8 (Memory.writeNat at0 e.ptime 8 s.mem)))
  { s with
    mem := Memory.writeNat (Loc.host base) (j + 1) 8 m
    pkg := { s.pkg with ringTail := j + 1 } }

/-- Write the pending events of a die while the ring has room; the second list is what stays (16_link R418). -/
def drainList (base size : Nat) : List Event → State → State × List Event
  | [], s => (s, [])
  | e :: r, s =>
    if s.pkg.ringTail - s.pkg.ringHead < size then drainList base size r (writeEvent s base size e) else (s, e :: r)

/-- The number LOST as the control block shows it, 0 before the host sets the ring. -/
def State.lostShown (s : State) : Nat :=
  match s.pkg.ring with
  | some (base, _) => Memory.readNat (Loc.host (base + 24)) 8 s.mem
  | none => 0

/-- The number LOST: what the control block shows, and what the device has counted and not written there yet. -/
def State.lostCount (s : State) : Nat := s.lostShown + s.pkg.lost

/-- Whether a die's event writes do not reach the host: a link on the way has FAILED or holds its traffic, or the module does not run
(16_link R398, R400, R401, R419; 01_module R33). -/
def State.hostCut (s : State) (die : Nat) : Bool :=
  s.pkg.boot == .off || s.pkg.boot == .bootFail || s.behind .failed (Loc.host 0) || !s.routeOpen (die * Config.sites) (Loc.host 0)

/-- The events that have been discarded are counted in the ring's control block, with EVQ_OVERFLOW, once a die's writes reach the host
(16_link R415, R418). -/
def State.writeLost (s : State) (die : Nat) : State :=
  match s.pkg.ring with
  | some (base, _) =>
    if s.pkg.lost = 0 ∨ s.hostCut die then s
    else
      { s with
        mem := Memory.writeNat (Loc.host (base + 24)) s.lostCount 8 (Memory.writeNat (Loc.host (base + 16)) 1 8 s.mem)
        pkg := { s.pkg with lost := 0 } }
  | none => s

/-- Count a discarded event of a die in LOST and set EVQ_OVERFLOW (16_link R415, R418). -/
def State.addLost (s : State) (die : Nat) : State :=
  ((s.onDie die fun d => { d with lossy := true }).onPkg fun p => { p with lost := p.lost + 1 }).writeLost die

/-- The event with which a die whose pending events have all gone reports a loss (16_link R418). -/
def lossEvent (s : State) (die : Nat) : Event :=
  { ptime := s.ptime die, seq := (s.die die).eventSeq, die := die, code := 0x12
    a := BitVec.ofNat 64 s.lostCount, b := 0#64 }

/-- Post a die's pending events as far as the ring takes them; when all of them have gone after a loss, event 0x0012
follows (16_link R418). -/
def State.drainEvents (s : State) (die : Nat) : State :=
  match s.pkg.ring with
  | none => s
  | some (base, size) =>
    if s.hostCut die then s
    else
    let (s1, rest) := drainList base size (s.die die).pending (s.writeLost die)
    if rest.isEmpty && (s.die die).lossy then
      let (s2, rest2) := drainList base size [lossEvent s1 die] s1
      s2.onDie die fun d => { d with pending := rest2, lossy := false, eventSeq := d.eventSeq + 1 }
    else s1.onDie die fun d => { d with pending := rest }

/-- An event arises on a die of the powered module, whose compute dies are not in BOOTFAIL (16_link R416-R419; 01_module R33). -/
def State.postEvent (s : State) (die code : Nat) (a b : Word) : State :=
  if s.pkg.boot == .off || s.pkg.boot == .bootFail then s
  else
  let d := s.die die
  let e : Event := { ptime := s.ptime die, seq := d.eventSeq, die := die, code := code, a := a, b := b }
  let s1 := s.onDie die fun d => { d with eventSeq := d.eventSeq + 1 }
  if d.pending.length < 64 then (s1.onDie die fun d => { d with pending := d.pending ++ [e] }).drainEvents die
  else s1.addLost die

end Sys2Proof.Machine
end

