-- ==== Sys2Proof/Machine/Regs.lean ====
section
/-! DEFINITION. The registers and modes of a thread (00_scope R12, 04_context R96-R105) and the retirement of an instruction
(R107). -/

namespace Sys2Proof.Machine

/-! ### Registers -/

/-- Read g[n]; g0 reads 0 (00_scope R12). -/
def Thread.g (t : Thread) (n : Nat) : Word := if n = 0 then 0#64 else t.regs.toArray.getD n 0#64

/-- Write g[n]; a write to g0 has no effect (00_scope R12). -/
def Thread.setG (t : Thread) (n : Nat) (v : Word) : Thread :=
  if n = 0 then t else { t with regs := t.regs.setIfInBounds n v }

/-- Read p[n]; p0 reads true (00_scope R12). -/
def Thread.p (t : Thread) (n : Nat) : Bool := n == 0 || t.preds.getLsbD n

/-- Write p[n]; a write to p0 has no effect (00_scope R12). -/
def Thread.setP (t : Thread) (n : Nat) (b : Bool) : Thread :=
  if n = 0 then t
  else { t with preds := if b then t.preds ||| BitVec.ofNat 8 (2 ^ n) else t.preds &&& ~~~BitVec.ofNat 8 (2 ^ n) }

/-- Read mask bit i of m[n]; m0 reads all ones (00_scope R12). -/
def Thread.maskBit (t : Thread) (n i : Nat) : Bool := n == 0 || (t.masks.toArray.getD n 0).testBit i

/-- Read v[n] as a bit string. -/
def Thread.v (t : Thread) (n : Nat) : Nat := t.vregs.toArray.getD n 0

/-- Write v[n]. -/
def Thread.setV (t : Thread) (n r : Nat) : Thread := { t with vregs := t.vregs.setIfInBounds n r }

/-- Write m[n]; a write to m0 has no effect (00_scope R12). -/
def Thread.setM (t : Thread) (n r : Nat) : Thread :=
  if n = 0 then t else { t with masks := t.masks.setIfInBounds n r }

/-- VLMAX in bytes (07_vector R173). -/
def Thread.vlmax (t : Thread) : Nat := t.share / t.vnreg

/-- Whether the thread has system privilege: STATUS.SYS (04_context R103). -/
def Thread.sys (t : Thread) : Bool := bit t.status 3

/-- Whether the thread is in handler mode: STATUS.HM. -/
def Thread.hm (t : Thread) : Bool := bit t.status 0

/-- Whether a debugger owns the thread: DBGCTL.OWNED. -/
def Thread.owned (t : Thread) : Bool := bit t.dbgctl 0

/-- VTYPE.VALID. -/
def Thread.typed (t : Thread) : Bool := bit t.vtype 10

/-- Add n to event count k of the slot (17_watch R428). -/
def Thread.count (t : Thread) (k n : Nat) : Thread :=
  { t with counts := t.counts.setIfInBounds k (t.counts.toArray.getD k 0#64 + BitVec.ofNat 64 n) }

/-! ### Issue and retirement -/

/-- The thread has completed an instruction of n words without a trap: PC, INSTRET and its event count advance (04_context
R107, 17_watch R428). -/
def Thread.retire (t : Thread) (n : Nat) : Thread :=
  { t.count 1 1 with phase := .ready, pc := t.pc + BitVec.ofNat 64 (4 * n), instret := t.instret + 1#64, execExempt := false }

/-- A retirement taken back: the instruction has ended in a trap of its own after all (05_traps R135). -/
def Thread.unretire (t : Thread) : Thread := { t.count 1 (2 ^ 64 - 1) with instret := t.instret - 1#64 }

/-- The thread has completed an instruction that continues at a target; the fetch buffer is empty (06_group R164). -/
def Thread.retireTo (t : Thread) (target : Word) : Thread :=
  { t.count 1 1 with phase := .ready, pc := target, instret := t.instret + 1#64, execExempt := false, fetch := [] }

/-- The instruction has not issued: the thread is WAITING and everything else stands (04_context R99). -/
def Thread.wait (t : Thread) : Thread := { t with phase := .waiting, reissue := false }

/-- The running thread retires an instruction of one word. -/
def State.retire (s : State) : State := s.onCtx fun t => t.retire 1

/-- The running thread retires an instruction of two words. -/
def State.retireLong (s : State) : State := s.onCtx fun t => t.retire 2

/-- The running thread's instruction has not issued. -/
def State.block (s : State) : State := s.onCtx Thread.wait

end Sys2Proof.Machine
end

