-- ==== Sys2Proof/Machine/Reach.lean ====
section
/-! DEFINITION. How an address reaches a place: windows (10_buffer R247, R248, R266; 16_link R422), the translation table
and its TLBs (15_page R372-R380); the waking of watches (14_barrier R371); and what the Timetable reads and writes of a
task control block (13_queue R350, R351). -/

namespace Sys2Proof.Machine

/-- Who accesses: the location, the address space and privilege, and the version of its drafts (10_buffer R248, 12_kernel
R309). -/
structure Agent where
  who   : ThreadRef
  asid  : Nat
  sys   : Bool
  draft : Option Nat
deriving DecidableEq, Repr

/-- The version under which the agents of a kernel read and write drafts, none for direct ones (12_kernel R308). -/
def State.versionOf (s : State) (k : Option Nat) : Option Nat := (k.bind s.kernel).bind Kernel.version

/-- A thread as an agent. -/
def State.agentOf (s : State) (t : ThreadRef) : Agent :=
  { who := t, asid := (s.thread t).asid.toNat, sys := (s.thread t).sys, draft := s.versionOf (s.thread t).kernel }

/-- The running thread as an agent. -/
def State.agent (s : State) : Agent :=
  { who := s.cur, asid := s.ctx.asid.toNat, sys := s.ctx.sys, draft := s.versionOf s.ctx.kernel }

/-! ### Windows -/

/-- What an address names before translation. -/
inductive Window where
  | loc (l : Nat)
  | translated
  | deny
deriving DecidableEq, Repr

/-- Whether an agent may use the scratchpad of cluster c (10_buffer R248). -/
def State.scratchOpen (s : State) (a : Agent) (c : Nat) : Bool :=
  a.sys || (s.kernelsOnCluster c).all fun p => p.2.asid == a.asid

/-- Whether an agent may use the local store of another core (10_buffer R248). -/
def State.coreOpen (s : State) (a : Agent) (k : Nat) : Bool :=
  a.sys || (s.kernelsOnCore k).any fun p => p.2.asid == a.asid

/-- Whether a stopped cluster c and an agent's own cluster belong to one bell: both have stopped at it, or the agent's is of the same
partition and has not reached it yet (05_traps R143). -/
def State.sameBell (s : State) (own c : Nat) : Bool :=
  match (s.cluster c).switchedOut with
  | none => false
  | some p => (s.cluster own).switchedOut == some p ||
      ((s.partition p).stopped.contains c && (s.kernelsOnCluster own).any fun q => q.2.part == p)

/-- Whether a cluster answers an agent: enabled, in service, and not switched out unless the agent's own cluster stops at the same bell
(10_buffer R248, 05_traps R143). -/
def State.clusterAnswers (s : State) (a : Agent) (c : Nat) : Bool :=
  s.enabled c && !(s.cluster c).outOfService && ((s.cluster c).switchedOut.isNone || s.sameBell a.who.cluster c)

/-- The physical offset of a scratchpad offset, by the swap bit of its shadow pair (10_buffer R266). -/
def shadowOffset (cl : Cluster) (o : Nat) : Nat :=
  if cl.swap.getLsbD (o / 32768 % 16) then (o + 2 ^ 19) % 2 ^ 20 else o

/-- A scratchpad as the target of an agent. -/
def State.scratchAt (s : State) (a : Agent) (c o : Nat) : Window :=
  if s.clusterAnswers a c && s.scratchOpen a c then .loc (Loc.scratch c (shadowOffset (s.cluster c) o)) else .deny

/-- The local store of a named core as the target of an agent. -/
def State.coreAt (s : State) (a : Agent) (k o : Nat) : Window :=
  if s.clusterAnswers a (k / 8) && s.coreOpen a k && decide (o < 0x30000) then .loc (Loc.localStore k o) else .deny

/-- The cluster that an address of window 0xFC or 0xFB names before the seal: [55:51] die, [50:46] row, [45:42] column
(16_link R422). -/
def physicalName (ea : Word) : Option Nat :=
  if field ea 55 51 < Config.dies ∧ field ea 50 46 < 22 then
    some (field ea 55 51 * Config.sites + field ea 50 46 * 16 + field ea 45 42)
  else none

/-- The cluster that an address of window 0xFC or 0xFB names (10_buffer R247, 16_link R422). -/
def State.namedCluster (s : State) (ea : Word) : Option Nat :=
  if s.sealed then s.physicalOf (field ea 55 43) else physicalName ea

/-- Whether the fields that windows 0xFC and 0xFB leave unused are zero (10_buffer R247, 16_link R422). -/
def State.spareZero (s : State) (ea : Word) : Bool :=
  if field ea 63 56 = 0xFC then (if s.sealed then field ea 42 20 == 0 else field ea 41 20 == 0)
  else (if s.sealed then field ea 39 18 == 0 else field ea 38 18 == 0)

/-- The core number in an address of window 0xFB. -/
def State.namedCore (s : State) (ea : Word) : Nat := if s.sealed then field ea 42 40 else field ea 41 39

/-- The decoding of an address (10_buffer R247, R248; 16_link R422). -/
def State.windowOf (s : State) (a : Agent) (ea : Word) : Window :=
  match field ea 63 56 with
  | 0 => if bit ea 55 then .deny else .translated
  | 0xFE =>
    if field ea 55 18 = 0 ∧ field ea 17 0 < 0x30000 then .loc (Loc.localStore (coreKey a.who) (field ea 17 0)) else .deny
  | 0xFD => if field ea 55 20 = 0 then s.scratchAt a a.who.cluster (field ea 19 0) else .deny
  | 0xFC =>
    match s.namedCluster ea with
    | some c =>
      if !s.spareZero ea then .deny
      else if !s.sealed && !s.enabled c then .loc (Loc.void + field ea 19 0)
      else s.scratchAt a c (field ea 19 0)
    | none => .deny
  | 0xFB =>
    match s.namedCluster ea with
    | some c =>
      if !s.spareZero ea || decide (0x30000 ≤ field ea 17 0) then .deny
      else if !s.sealed && !s.enabled c then .loc (Loc.void + field ea 17 0)
      else s.coreAt a (c * 8 + s.namedCore ea) (field ea 17 0)
    | none => .deny
  | _ => .deny

/-! ### The translation table -/

/-- The committed doubleword at a device physical address, as the device reads its tables (15_page R377). -/
def State.deviceWord (s : State) (a : Nat) : Word :=
  BitVec.ofNat 64 (readPlace s { loc := a % 2 ^ 60 } 0 8)

/-- The ASID table's entry of an address space (15_page R372). -/
def State.asidEntry (s : State) (asid : Nat) : Word := s.deviceWord (s.pkg.asidbase.toNat + 8 * asid)

/-- Whether a physical address lies in the near or far range and outside the draft region (15_page R374-R376, 01_module
R26). -/
def State.tableRange (s : State) (a : Nat) : Bool := decide (a < s.draftBase) || physFar a

/-- The kinds of a failed walk (15_page R376). -/
def kindNotValid : Nat := 1
/-- MALFORMED. -/
def kindMalformed : Nat := 2
/-- POISON. -/
def kindPoison : Nat := 3

/-- The checks of a leaf entry (15_page R374, R376). -/
def leafKind (e : Word) (large : Bool) : Option Nat :=
  if field e 63 52 ≠ 0 ∨ field e 15 13 ≠ 0 ∨ field e 3 2 ≠ 0 ∨ (large ∧ field e 28 16 ≠ 0) then some kindMalformed
  else if bit e 12 then some kindPoison
  else none

/-- The checks of an entry that names the next table (15_page R374, R376). -/
def State.tableKind (s : State) (e : Word) : Option Nat :=
  if field e 63 52 ≠ 0 ∨ field e 15 2 ≠ 0 ∨ !s.tableRange (field e 51 16 * 65536) then some kindMalformed else none

/-- The address of the entry that a walk reads at a level (15_page R373). -/
def entryAddress (table va level : Nat) : Nat := table + 8 * (va / 2 ^ (16 + 13 * level) % 8192)

/-- The address of an address space's entry in the ASID table (15_page R372). -/
def State.asidAt (s : State) (asid : Nat) : Nat := (s.pkg.asidbase.toNat + 8 * asid) % 2 ^ 60

/-- Whether an address space's entry has V = 1, or cannot be read: an access under another raises ACCESS (15_page R372, R376). -/
def State.asidValid (s : State) (asid : Nat) : Bool := bit (s.asidEntry asid) 0 || poisoned s (s.asidAt asid) 8

/-- Whether the memory row of an address space's entry is under self-test, so that its read waits (15_page R392). -/
def State.asidHeld (s : State) (asid : Nat) : Bool := s.underTest fun r => inResource r (s.asidAt asid)

/-- A walk from a table at a level: the leaf's address and the leaf, or the kind of the failure (15_page R376). -/
def State.walkFrom (s : State) (va : Nat) : Nat → Nat → Except Nat (Nat × Word × Bool)
  | level, table =>
    let at0 := entryAddress table va level
    let e := s.deviceWord at0
    if poisoned s at0 8 then .error kindPoison
    else if !bit e 0 then .error kindNotValid
    else if bit e 1 then
      match level with
      | 0 => match leafKind e false with
        | some k => .error k
        | none => .ok (at0, e, false)
      | 1 => match leafKind e true with
        | some k => .error k
        | none => .ok (at0, e, true)
      | _ => .error kindMalformed
    else
      match level with
      | 0 => .error kindMalformed
      | n + 1 => match s.tableKind e with
        | some k => .error k
        | none => s.walkFrom va n (field e 51 16 * 65536)

/-- The walk of an address in an address space whose ASID entry has V = 1 (15_page R372, R376). -/
def State.walk (s : State) (asid va : Nat) : Except Nat (Nat × Word × Bool) :=
  let e := s.asidEntry asid
  if poisoned s (s.asidAt asid) 8 then .error kindPoison
  else if !bit e 0 then .error kindNotValid
  else if field e 63 52 ≠ 0 ∨ field e 15 1 ≠ 0 ∨ !s.tableRange (field e 51 16 * 65536) then .error kindMalformed
  else s.walkFrom va 2 (field e 51 16 * 65536)

/-- The entries that a walk reads from a table at a level, in order (15_page R373, R380). -/
def State.walkReads (s : State) (va : Nat) : Nat → Nat → List Nat
  | level, table =>
    let at0 := entryAddress table va level
    let e := s.deviceWord at0
    at0 :: match level with
      | 0 => []
      | n + 1 => if bit e 0 && !bit e 1 && (s.tableKind e).isNone && !poisoned s at0 8 then s.walkReads va n (field e 51 16 * 65536) else []

/-- The migration in progress of a page (15_page R387). -/
def State.migrationOf (s : State) (asid va : Nat) : Option Migration :=
  (s.pkg.migrations.flatMap fun p => p.2).find? fun m => m.entered && m.asid == asid && m.va / 65536 == va / 65536


/-- The location that a leaf gives a virtual address, none where the frame may not be used (15_page R375, R387; 01_module
R25, R26). -/
def State.frameLoc (s : State) (leaf : Word) (large : Bool) (asid va : Nat) : Option Nat :=
  let frame := field leaf 51 16
  let o := if large then va % 2 ^ 29 else va % 65536
  match field leaf 9 8 with
  | 0 | 1 =>
    let a := frame * 65536 + o
    let ok := if field leaf 9 8 = 0 then decide (a < s.draftBase) else physFar a
    if !ok then none
    else if bit leaf 11 then
      match s.migrationOf asid va with
      | some m => if o < 256 * m.step then some (Loc.phys (m.new + o)) else some (Loc.phys a)
      | none => some (Loc.phys a)
    else some (Loc.phys a)
  | 2 => if s.pkg.hostMode.isCxl then some (Loc.host (frame * 65536 + o)) else none
  | _ => some (Loc.peer (frame / 2 ^ 26) (frame % 2 ^ 26 * 65536 + o))

/-! ### TLBs -/

/-- Whether a TLB entry maps a virtual address of an address space (15_page R379). -/
def TlbEntry.covers (e : TlbEntry) (asid va : Nat) : Bool :=
  e.asid == asid && (if e.large then e.page / 8192 == va / 2 ^ 29 else e.page == va / 65536)

/-- A TLB with an entry added in front, its length bounded (15_page R379; log entry 20). -/
def tlbFill (limit : Nat) (e : TlbEntry) (l : List TlbEntry) : List TlbEntry := (e :: l).take limit

/-- A TLB without the entries of a page. -/
def tlbDrop (asid va : Nat) (l : List TlbEntry) : List TlbEntry := l.filter fun e => !e.covers asid va

/-- A core's micro-TLB or its cluster's TLB filled with an entry. -/
def State.fillFirst (s : State) (t : ThreadRef) (micro : Bool) (e : TlbEntry) : State :=
  if micro then s.onCore (coreKey t) fun c => { c with microTlb := tlbFill 32 e c.microTlb }
  else s.onCluster t.cluster fun c => { c with tlb := tlbFill 256 e c.tlb }

/-- Every TLB of the module without the entries chosen (15_page R386, R394). -/
def State.dropTlbs (s : State) (f : TlbEntry → Bool) : State :=
  let keep (l : List TlbEntry) : List TlbEntry := l.filter fun e => !f e
  { s with
    cores := s.cores.map fun p => (p.1, { p.2 with microTlb := keep p.2.microTlb })
    clusters := s.clusters.map fun p => (p.1, { p.2 with tlb := keep p.2.tlb })
    dies := s.dies.map fun p => (p.1, { p.2 with tlb := keep p.2.tlb }) }

/-- The entry that the first TLB or, failing it, the die TLB holds for an address; the second fills the first (15_page
R379). -/
def State.findLeaf (s : State) (t : ThreadRef) (micro : Bool) (asid va : Nat) : Option TlbEntry × State :=
  let first := if micro then (s.core (coreKey t)).microTlb else (s.cluster t.cluster).tlb
  match first.find? fun e => e.covers asid va with
  | some e => (some e, s)
  | none =>
    match (s.die (dieOf t)).tlb.find? fun e => e.covers asid va with
    | some e => (some e, (s.fillFirst t micro e).onThread t fun x => x.count 9 1)
    | none => (none, s)

/-- The thread whose slot counts a requester's TLB misses: the requester itself, or the one that issued an engine's command (17_watch
R428). -/
def State.counted (s : State) : Requester → Option ThreadRef
  | .thread t _ => some t
  | .engine cl slot => ((s.cluster cl).engine.find? fun e => e.slot == slot).map (·.owner)
  | .timetable _ => none

/-- The event counts of a requester's TLB miss, whose walk is a new one or shared (17_watch R428). -/
def State.countMiss (s : State) (r : Requester) (new : Bool) : State :=
  match s.counted r with
  | some t => s.onThread t fun x => if new then (x.count 9 1).count 10 1 else x.count 9 1
  | none => s

/-- A walk is started for a requester, or the requester joins the walk of the page; a walk beyond the 64 that hold walkers waits its
turn, oldest first (15_page R380). -/
def State.startWalk (s : State) (die asid : Nat) (x : Waiter) : State :=
  let d := s.die die
  let same (w : Walk) : Bool := w.asid == asid && w.page == x.va.toNat / 65536
  if d.walks.any same then
    let join (w : Walk) : Walk :=
      if !same w then w
      else if w.waiters.any fun y => y.who == x.who then { w with waiters := w.waiters.map fun y => if y.who = x.who then x else y }
      else { w with waiters := w.waiters ++ [x] }
    let s1 := s.onDie die fun d => { d with walks := d.walks.map join }
    if d.walks.any fun w => same w && w.waiters.any fun y => y.who == x.who then s1 else s1.countMiss x.who false
  else
    (s.onDie die fun d =>
      { d with walks := d.walks ++ [{ asid := asid, page := x.va.toNat / 65536, waiters := [x] }] }).countMiss x.who true

/-! ### Reaching a place -/

/-- What becomes of an access. -/
inductive Reach where
  | place (p : Place)
  | deny
  | walk
deriving DecidableEq, Repr

/-- Whether a leaf's permissions allow an access (04_context R118, R124; 15_page R374). -/
def leafAllows (leaf : Word) (sys write fetch : Bool) : Bool :=
  (!write || bit leaf 4) && (!bit leaf 6 || sys) && (!fetch || bit leaf 5)

/-- The place of a virtual address under a leaf. -/
def State.placeOf (s : State) (a : Agent) (leaf : Word) (large : Bool) (va : Nat) : Option Place :=
  (s.frameLoc leaf large a.asid va).map fun l =>
    { loc := l, draft := if field leaf 9 8 ≤ 1 ∧ !bit leaf 7 then a.draft else none, cached := decide (field leaf 9 8 ≤ 1)
      direct := bit leaf 7 }

/-- The place of a window's location; in a scratchpad it keeps the location before shadow swapping, since the region is chosen when the
access is performed (10_buffer R266, 11_ordering R284). -/
def State.windowPlace (s : State) (l : Nat) : Place :=
  if 2 ^ 62 ≤ l ∧ l < 2 ^ 63 then
    { loc := l, via := some (Loc.scratch ((l - 2 ^ 62) / 2 ^ 20) (shadowOffset (s.cluster ((l - 2 ^ 62) / 2 ^ 20)) (l % 2 ^ 20))) }
  else { loc := l }

/-- A place as it stands now: a scratchpad's by its present swap bits (10_buffer R266, 11_ordering R284). -/
def State.placeNow (s : State) (p : Place) : Place :=
  match p.via with
  | some u => { p with loc := Loc.scratch ((u - 2 ^ 62) / 2 ^ 20) (shadowOffset (s.cluster ((u - 2 ^ 62) / 2 ^ 20)) (u % 2 ^ 20)) }
  | none => p

/-- An access of an agent to one address: window decode, translation and permission (04_context R118; 10_buffer R247; 15_page
R372-R380; 16_link R422). The state carries the TLB fills and the walk started. -/
def State.reach (s : State) (a : Agent) (r : Requester) (micro write fetch : Bool) (ea : Word) : Reach × State :=
  match s.windowOf a ea with
  | .deny => (.deny, s)
  | .loc l => (if fetch then .deny else .place (s.windowPlace l), s)
  | .translated =>
    if !s.sealed && a.asid == 0 then
      (if physNear ea.toNat || physFar ea.toNat then .place { loc := ea.toNat, cached := true, direct := true } else .deny, s)
    else
      match s.findLeaf a.who micro a.asid ea.toNat with
      | (some e, s1) =>
        if leafAllows e.leaf a.sys write fetch then
          match s1.placeOf a e.leaf e.large ea.toNat with
          | some p => (.place p, s1)
          | none => (.deny, s1)
        else (.deny, s1)
      | (none, s1) =>
        if !s.asidValid a.asid && !s.asidHeld a.asid then (.deny, s1)
        else (.walk, s1.startWalk (dieOf a.who) a.asid { who := r, va := ea, write := write, micro := micro })

/-! ### Watches -/

/-- A YIELDED thread is woken with a reason, once (14_barrier R371). -/
def State.wakeThread (s : State) (t : ThreadRef) (reason : Nat) : State :=
  s.onThread t fun x => { x with yield := x.yield.map fun y => if y.wake.isNone then { y with wake := some reason } else y }

/-- Whether a watched line and n bytes from a location meet. -/
def lineMeets (line l n : Nat) : Bool := decide (line < l + n) && decide (l < line + 64)

/-- The watches that a change of n bytes from a location meets, with the table they stand in emptied of them. -/
def splitWatches (l n : Nat) (ws : List (ThreadRef × Nat)) : List ThreadRef × List (ThreadRef × Nat) :=
  ((ws.filter fun w => lineMeets w.2 l n).map (·.1), ws.filter fun w => !lineMeets w.2 l n)

/-- Every watch on the n bytes from a location wakes with a reason (14_barrier R371). -/
def State.wakeWatches (s : State) (l n reason : Nat) : State :=
  if Loc.isStorage l then
    if l < 2 ^ 63 then
      let c := (l - 2 ^ 62) / 2 ^ 20
      match splitWatches l n (s.cluster c).scratchpad.watches with
      | ([], _) => s
      | (ts, rest) => ts.foldl (fun a t => a.wakeThread t reason)
          (s.onCluster c fun x => { x with scratchpad := { x.scratchpad with watches := rest } })
    else
      let k := (l - 2 ^ 63) / 2 ^ 18
      match splitWatches l n (s.core k).localStore.watches with
      | ([], _) => s
      | (ts, rest) => ts.foldl (fun a t => a.wakeThread t reason)
          (s.onCore k fun x => { x with localStore := { x.localStore with watches := rest } })
  else
    match splitWatches l n s.pkg.watches with
    | ([], _) => s
    | (ts, rest) => ts.foldl (fun a t => a.wakeThread t reason) (s.onPkg fun g => { g with watches := rest })

/-- Whether a watching thread belongs to a kernel of a version. -/
def State.watcherOf (s : State) (v : Nat) (t : ThreadRef) : Bool := s.versionOf (s.thread t).kernel == some v

/-- A draft write of n bytes from a location wakes the watches of the version's own kernels there (14_barrier R371). -/
def State.wakeVersion (s : State) (v l n : Nat) : State :=
  let hits := s.pkg.watches.filter fun w => lineMeets w.2 l n && s.watcherOf v w.1
  match hits with
  | [] => s
  | _ => (hits.map (·.1)).foldl (fun a t => a.wakeThread t 1)
      (s.onPkg fun g => { g with watches := g.watches.filter fun w => !hits.contains w })

/-! ### Accesses by device agents -/

/-- The place that a device agent reaches at a virtual address of an address space, none where the access fails (15_page
R372). -/
def State.devicePlace (s : State) (asid : Nat) (write : Bool) (va : Word) : Option Place :=
  if field va 63 55 ≠ 0 then none
  else if !s.sealed && asid == 0 then
    (if physNear va.toNat || physFar va.toNat then some { loc := va.toNat, cached := true, direct := true } else none)
  else
    match s.walk asid va.toNat with
    | .ok (_, leaf, large) =>
      if leafAllows leaf (asid == 0) write false then
        s.placeOf { who := s.cur, asid := asid, sys := asid == 0, draft := none } leaf large va.toNat
      else none
    | .error _ => none

/-- The place of a task control block: 64-byte aligned, on a translated DIRECT page, whose permissions the device does not ask for
(13_queue R350, 12_kernel R325). -/
def State.tcbPlace (s : State) (asid : Nat) (va : Word) : Option Place :=
  if va.toNat % 64 ≠ 0 ∨ field va 63 55 ≠ 0 then none
  else if !s.sealed && asid == 0 then s.devicePlace asid false va
  else
    match s.walk asid va.toNat with
    | .ok (_, leaf, large) =>
      (s.placeOf { who := s.cur, asid := asid, sys := true, draft := none } leaf large va.toNat).bind fun p =>
        if p.direct then some p else none
    | .error _ => none

/-- Word w of a block of words at a place, as committed data. -/
def State.blockWordAt (s : State) (p : Place) (w : Nat) : Word := BitVec.ofNat 64 (readPlace s { p with draft := none } (8 * w) 8)

/-- The event of an uncorrectable value met at a location (15_page R391, 16_link R416). -/
def State.errorAt (s : State) (l : Nat) : State :=
  if Loc.isPhys l then s.postEvent (memoryDie l) 8 (BitVec.ofNat 64 l) (if physNear l then 0#64 else 1#64) else s

/-- A device agent has read n bytes of its tables at a location: an uncorrectable line posts its event, and the agent goes on with the
bytes as they stand, which the spec leaves open (15_page R391; DESIGN CHOICE, log entry 45). -/
def State.noteRead (s : State) (l n : Nat) : State := if poisoned s l n then s.errorAt l else s

/-- The queues whose entry has a byte from offset a up to b among n bytes at a location (13_queue R337). -/
def State.entriesAt (s : State) (l n a b : Nat) : List Nat :=
  let base := s.pkg.qtbase.toNat % 2 ^ 60
  if s.sealed && decide (base < l + n) && decide (l < base + 2 ^ 22) then
    ((List.range ((l + n - 1) / 64 + 1 - l / 64)).map fun i => (l - base) / 64 + i).filter fun q =>
      decide (base + 64 * q + a < l + n) && decide (l < base + 64 * q + b)
  else []

/-- A write of n bytes over queue table entries: over word 4 the device's OVERRUN marks go, and over words 2 to 4 the home agents look
again at whether the queues have work (13_queue R337, R341, R342). -/
def State.noteEntry (s : State) (l n : Nat) : State :=
  let qs := s.entriesAt l n 16 40
  if qs.isEmpty then s
  else
    let ws := s.entriesAt l n 32 40
    s.onPkg fun g => { g with
      overrun := g.overrun.filter fun q => !ws.contains q
      rewritten := g.rewritten.filter (fun q => !qs.contains q) ++ qs }

/-- A write that is not a draft: its bytes reach memory. Behind a FAILED link nothing is written; in near and far memory that is an
uncorrectable error, and the lines take the poison marker (16_link R400; log entry 83). -/
def State.storeBytes (s : State) (l n x : Nat) : State :=
  if s.behind .failed l then
    if Loc.isPhys l then
      { s with poison := (List.range ((l + n - 1) / 64 + 1 - l / 64)).foldl (fun p i => insertNat (l / 64 + i) p) s.poison }.errorAt l
    else s
  else (writeDirect s l n x).noteEntry l n

/-- A device write of word w of a block at a place; watches on it wake (13_queue R350). -/
def State.writeWordAt (s : State) (p : Place) (w : Nat) (v : Word) : State :=
  (s.storeBytes (p.loc + 8 * w) 8 v.toNat).wakeWatches (p.loc + 8 * w) 8 1

/-- A kernel's task control block, if it has one that can be reached. -/
def State.tcbOf (s : State) (x : Kernel) : Option Place :=
  if x.word 6 = 0#64 then none else s.tcbPlace x.asid (x.word 6)

/-- Word w of the task control block of kernel k written (12_kernel R303). -/
def State.writeTcb (s : State) (k w : Nat) (v : Word) : State :=
  match (s.kernel k).bind s.tcbOf with
  | some p => s.writeWordAt p w v
  | none => s

/-- The state of a task control block: the low bits of its word 0 (13_queue R350). DESIGN CHOICE: the bits of word 0 and of the partition
table that the spec calls zero are not looked at where software has set them (00_scope R5; log entry 105). -/
def State.tcbState (s : State) (p : Place) : Nat := field (s.blockWordAt p 0) 2 0

/-- A task control block moves from one of the states given to another; in any other state it stays (13_queue R351). -/
def State.moveTcb (s : State) (p : Place) (from0 : List Nat) (to0 : Nat) : State :=
  if from0.contains (s.tcbState p) then (s.noteRead p.loc 64).writeWordAt p 0 (BitVec.ofNat 64 to0) else s.noteRead p.loc 64

/-- The move that a kernel's entry into a state gives its task control block, if any: from which states, and to which (12_kernel R303,
13_queue R351). -/
def KState.tcbMove : KState → Option (List Nat × Nat)
  | .armed => some ([0], 1)
  | .ready => some ([0, 1, 3, 4], 2)
  | .placing => some ([1, 2], 3)
  | .done => some ([3], 4)
  | .committed => some ([4], 5)
  | _ => none

/-- A kernel enters a state: its task control block's word 0 follows (12_kernel R303). -/
def State.enterState (s : State) (k : Nat) (st : KState) : State :=
  let s1 := s.onKernel k fun x => { x with state := st, phaseAt := s.now }
  match st.tcbMove, (s.kernel k).bind s.tcbOf with
  | some m, some p => s1.moveTcb p m.1 m.2
  | _, _ => s1

/-- A kernel enters READY under the ready sequence number given (13_queue R348). -/
def State.enterReady (s : State) (k seq : Nat) : State :=
  (s.onKernel k fun x => { x with readySeq := seq, readyAt := s.now }).enterState k .ready

/-- The next ready sequence number, and the state in which it is used up. -/
def State.takeReadySeq (s : State) : Nat × State :=
  (s.pkg.readySeq, s.onPkg fun p => { p with readySeq := p.readySeq + 1 })

end Sys2Proof.Machine
end

