-- ==== Sys2Proof/Machine/Ops.lean ====
section
/-! DEFINITION. The named operations on threads and kernels: aborting and cancelling a kernel (12_kernel R318, R319, R330), a
kernel's end of work (R304), taking a trap (05_traps R137) and returning from one (R156). -/

namespace Sys2Proof.Machine

/-! ### Removing a thread's work -/

/-- A core without the vector and tile queue entries of one of its slots. -/
def Core.dropSlot (c : Core) (slot : Nat) : Core :=
  { c with
    loadQ := c.loadQ.filter fun v => v.slot != slot
    arithQ := c.arithQ.filter fun v => v.slot != slot
    storeQ := c.storeQ.filter fun v => v.slot != slot
    tileQ := c.tileQ.filter fun v => v.slot != slot }

/-- A storage without the waits and watches of a thread. -/
def Storage.dropThread (x : Storage) (t : ThreadRef) : Storage :=
  { x with waits := x.waits.filter fun w => w.thread != t, watches := x.watches.filter fun w => w.1 != t }

/-- The module without the FE waits and YIELDW watches of a thread (10_buffer R254, 14_barrier R371). -/
def State.withdraw (s : State) (t : ThreadRef) : State :=
  { s with
    cores := s.cores.map fun p => (p.1, { p.2 with localStore := p.2.localStore.dropThread t })
    clusters := s.clusters.map fun p => (p.1, { p.2 with scratchpad := p.2.scratchpad.dropThread t })
    pkg := { s.pkg with watches := s.pkg.watches.filter fun w => w.1 != t } }

/-- Whether a walk or fault requester is a thread. -/
def Requester.isThread (r : Requester) (t : ThreadRef) : Bool :=
  match r with
  | .thread u _ => u == t
  | _ => false

/-- Whether a walk or fault requester is an engine command in one of the slots given of a cluster. -/
def Requester.isEngine (r : Requester) (cl : Nat) (slots : List Nat) : Bool :=
  match r with
  | .engine c k => c == cl && slots.contains k
  | _ => false

/-- The module without a requester's place among the waiters of walks and fault records (15_page R383). -/
def State.leaveWaiters (s : State) (f : Requester → Bool) : State :=
  s.mapDies fun d => { d with
    walks := d.walks.map fun w => { w with waiters := w.waiters.filter fun r => !f r.who }
    faults := d.faults.map fun w => { w with waiters := w.waiters.filter fun r => !f r } }

/-- An engine command slot list without the commands of a thread. -/
def dropEngine (t : ThreadRef) (l : List EngineCmd) : List EngineCmd := l.filter fun e => e.owner != t

/-- A slot of the accumulator store freed when its owner is the thread given (09_tile R227). -/
def TileSlot.freeIf (x : TileSlot) (f : TileSlot → Bool) : TileSlot := if x.state != .free && f x then {} else x

/-- The thread ends by an abort or a kill: RETIRED, its loads discarded, its drafts not yet visible dropped, its bindings
released (04_context R99, 13_queue R332). -/
def Thread.abandon (t : Thread) : Thread :=
  { t with
    phase := .retired, loads := [], fetch := [], yield := none, checking := none, owedTrap := none, parkedAt := none, parkFail := false
    inTable := false, refused := none
    failed := []
    stores := t.stores.filter fun x => x.place.draft.isNone
    queues := Vector.replicate 16 0#28
    tiles := Vector.replicate 16 .unbound }

/-- The packets of a thread gone from the drain buffers that hold them (05_traps R150). -/
def State.dropPackets (s : State) (t : ThreadRef) : State :=
  let holding (l : List HeldPacket) : Bool := l.any fun h => h.thread == t
  (s.clusters.filter fun p => holding p.2.drain).foldl
    (fun a p => a.onCluster p.1 fun c => { c with drain := c.drain.filter fun h => h.thread != t }) s

/-- Everything of a thread's accepted work is dropped and the thread is RETIRED (12_kernel R319). -/
def State.abandonThread (s : State) (t : ThreadRef) : State :=
  let s1 := s.onThread t Thread.abandon
  let s2 := s1.onCore (coreKey t) fun c => c.dropSlot t.slot
  let s3 := s2.onCluster t.cluster fun c => { c with
    engine := dropEngine t c.engine
    slots := c.slots.map fun x => x.freeIf fun y => y.owner == t && y.kernel == (s.thread t).kernel
    matrix := c.matrix.bind fun m => if m.1 == t.core && m.2.slot == t.slot then none else some m }
  let live (e : DecodeEngine) : DecodeEngine :=
    { e with jobs := e.jobs.filter fun j => (s3.cluster j.1).engine.any fun c => c.slot == j.2 }
  let s4 := (s3.dropPackets t).mapDies fun d => { d with engine0 := live d.engine0, engine1 := live d.engine1 }
  let copies := ((s.cluster t.cluster).engine.filter fun e => e.owner == t).map (·.slot)
  (s4.withdraw t).leaveWaiters fun r => r.isThread t || r.isEngine t.cluster copies

/-- The saved contexts of a switched partition with a kernel's threads and work dropped (12_kernel R319, 09_tile R227). -/
def Partition.dropKernel (p : Partition) (k : Nat) (ts : List ThreadRef) : Partition :=
  { p with
    savedThreads := p.savedThreads.filter fun x => x.2.kernel != some k
    toSave := p.toSave.filter fun u => !(ts.any fun t => u == .thread t)
    toRestore := p.toRestore.filter fun u => !(ts.any fun t => u == .thread t)
    savedCores := p.savedCores.map fun x =>
      (x.1, ts.foldl (fun c t => if coreKey t = x.1 then c.dropSlot t.slot else c) x.2)
    savedTiles := p.savedTiles.filter fun x => !ts.contains x.1
    savedDrain := p.savedDrain.map fun x => (x.1, x.2.filter fun h => !ts.contains h.thread)
    savedEngines := p.savedEngines.map fun x => (x.1, x.2.filter fun e => e.kernel != some k) }

/-! ### Ending a kernel -/

/-- The compute die from which a kernel's event is posted: the agent of its table entry (12_kernel R301). -/
def kernelDie (entry : Nat) : Nat := entry % 24

/-- The die and the hardware slot that hold a MAPPED queue, with the slot's number (13_queue R339). -/
def State.slotHolding (s : State) (q : Nat) : Option (Nat × Nat × QueueSlot) :=
  s.dies.findSome? fun d => (d.2.slots.find? fun p => p.2.queue == q).map fun p => (d.1, p.1, p.2)

/-- The hardware slot that holds a queue, by its number. -/
def State.queueSlot (s : State) (q : Nat) : Option (Nat × QueueSlot) := (s.slotHolding q).map (·.2)

/-- Word w of queue table entry q; word 4 stands in the slot while the queue is MAPPED (13_queue R337, R342). -/
def State.queueWord (s : State) (q w : Nat) : Word :=
  match if w = 4 then s.queueSlot q else none with
  | some (_, x) => x.word4
  | none => s.deviceWord (s.pkg.qtbase.toNat + 64 * q + 8 * w)

/-- The home die of a queue: that of its slot while it is MAPPED. -/
def State.queueDie (s : State) (q : Nat) : Nat := ((s.slotHolding q).map (·.1)).getD (field (s.queueWord q 4) 20 16)

/-- The state with the slot of queue q changed. -/
def State.onQueueSlot (s : State) (q : Nat) (f : QueueSlot → QueueSlot) : State :=
  s.onDie (s.queueDie q) fun d => { d with slots := d.slots.map fun p => if p.2.queue == q then (p.1, f p.2) else p }

/-- The Timetable's write of word w of queue table entry q; watches on it wake (14_barrier R371). -/
def State.writeQueueWord (s : State) (q w : Nat) (v : Word) : State :=
  let a := (s.pkg.qtbase.toNat + 64 * q + 8 * w) % 2 ^ 60
  (writeDirect s a 8 v.toNat).wakeWatches a 8 1

/-- HEAD of a queue: its slot's while it is MAPPED. -/
def State.queueHead (s : State) (q : Nat) : Nat :=
  match s.queueSlot q with
  | some (_, x) => x.head
  | none => (s.queueWord q 2).toNat

/-- TAIL of a queue. -/
def State.queueTail (s : State) (q : Nat) : Nat :=
  match s.queueSlot q with
  | some (_, x) => x.tail
  | none => (s.queueWord q 3).toNat

/-- ENDED of a dispatch queue follows the least position of its kernels that have not ended, else HEAD (13_queue R349). -/
def State.noteEnded (s : State) (q : Nat) : State :=
  let live := s.kernels.filterMap fun p =>
    match p.2.fromQueue with
    | some (r, n) => if r = q ∧ p.2.state ≠ .committed ∧ p.2.state ≠ .aborted then some n else none
    | none => none
  let ended := live.foldl min (s.queueHead q)
  match s.queueSlot q with
  | some _ => s.onQueueSlot q fun x => { x with ended := ended }
  | none => s.writeQueueWord q 6 (BitVec.ofNat 64 ended)

/-- ENDED of the queue that kernel k came from, if any, brought up to date. -/
def State.noteKernelEnded (s : State) (k : Nat) : State :=
  match (s.kernel k).bind (·.fromQueue) with
  | some (q, _) => s.noteEnded q
  | none => s

/-- A kernel is ABORTED and its event posted; its task control block stands, and the Timetable waits for no page of it (12_kernel R304,
15_page R383). -/
def State.endKernel (s : State) (k status : Nat) (cancelled : Bool) : State :=
  match s.kernel k with
  | none => s
  | some x =>
    ((((s.onKernel k fun y => { y with
      state := .aborted, status := status, cancelled := cancelled || y.cancelled, phaseAt := s.now }).leaveWaiters fun r =>
        r == .timetable k).noteKernelEnded k).postEvent (kernelDie k) 2 (handleOf k x) (BitVec.ofNat 64 status))

/-- The status word of a kernel's task control block written, and its state FAULTED unless it has ended already (12_kernel R303, R318;
13_queue R351). R303 gives FAULTED to the block of every kernel that ends ABORTED; the model writes it from FREE too, the state that the
block of a HELD kernel may have, which R351's table does not list (DEDUCED, log entry 104). -/
def State.faultBlock (s : State) (k : Nat) (status : Word) : State :=
  match (s.kernel k).bind s.tcbOf with
  | some p => (s.writeWordAt p 6 status).moveTcb p [0, 1, 2, 3, 4] 6
  | none => s

/-- A kernel ends ABORTED, not cancelled: its task control block is FAULTED with the status in word 6 (13_queue R351). -/
def State.endFaulted (s : State) (k status : Nat) : State :=
  (s.faultBlock k (BitVec.ofNat 64 status)).endKernel k status false

/-- The abort status of a parent's end (12_kernel R318). -/
def statusParent : Nat := 0x46

/-- Whether a kernel has not been placed: QUEUED, ARMED, HELD or READY (12_kernel R304). -/
def KState.unplaced : KState → Bool
  | .queued | .armed | .held | .ready => true
  | _ => false

/-- The accumulator slots that kernel k holds become FREE (09_tile R227). -/
def State.freeTiles (s : State) (k : Nat) : State :=
  { s with clusters := s.clusters.map fun p =>
      (p.1, { p.2 with slots := p.2.slots.map fun x => x.freeIf fun y => y.kernel == some k }) }

/-- One kernel in PLACING, RUNNING, DRAINING, DONE or COMMITTING enters ABORTING with the status given: its threads retire,
its work is dropped and its accumulator slots, LIVE and HELD, are FREE; its children that are not placed end with PARENTABORT (12_kernel
R318, R319, R322; 09_tile R227). -/
def State.abortOne (s : State) (k status : Nat) (cancelled : Bool) : State :=
  match s.kernel k with
  | none => s
  | some x =>
    let s0 := x.threads.foldl (fun a t => if (a.thread t).kernel = some k then a.abandonThread t else a) s
    let s1 := if (s.partition x.part).switched then s0.onPartition x.part fun p => p.dropKernel k x.threads else s0
    let s2 := (s1.freeTiles k).onKernel k fun y => { y with
      state := .aborting, status := status, cancelled := cancelled || y.cancelled, phaseAt := s.now }
    let s3 := s2.onPkg fun g => { g with sequencer := if g.sequencer = some k then none else g.sequencer }
    (s3.kernels.filter fun p => p.2.parent == some k && p.2.state.unplaced).foldl
      (fun a p => a.endFaulted p.1 statusParent) s3

/-- Whether a kernel is in a state in which an abort cause ends it (12_kernel R304). -/
def KState.abortable : KState → Bool
  | .placing | .running | .draining | .done => true
  | _ => false

/-- Whether a kernel is in a state in which an uncorrectable error in a draft line ends it: in phase 1 of its commit too (12_kernel
R304). -/
def KState.draftAbortable : KState → Bool
  | .placing | .running | .draining | .done | .committing => true
  | _ => false

/-- Whether kernel j is a descendant of kernel k, at most n generations down (12_kernel R322). -/
def State.descends (s : State) (k : Nat) : Nat → Nat → Bool
  | 0, _ => false
  | n + 1, j =>
    match (s.kernel j).bind (·.parent) with
    | some i => i == k || s.descends k n i
    | none => false

/-- The kernel in entry k, when it is in one of the states given, aborts with a status, and with it every member of its cohort and every
child in such a state: a kernel whose parent aborts takes PARENTABORT, the one that met the cause too, but for a KCANCEL of it; any other
member takes the same status (12_kernel R318, R322, R330; log entry 19). -/
def State.abortCohort (s : State) (f : KState → Bool) (k status : Nat) (cancelled : Bool) : State :=
  match s.kernel k with
  | none => s
  | some x =>
    if !f x.state then s
    else
      let members := s.kernels.filter fun p =>
        p.1 != k && f p.2.state && (x.tag.isSome && p.2.tag == x.tag || s.descends k 64 p.1)
      let aborts (j : Option Nat) : Bool := j.any fun i => i == k || members.any fun q => q.1 == i
      members.foldl (fun a p => a.abortOne p.1 (if aborts p.2.parent then statusParent else status) false)
        (s.abortOne k (if aborts x.parent && !cancelled then statusParent else status) cancelled)

/-- The kernel in entry k aborts for a cause that ends it in PLACING, RUNNING, DRAINING and DONE (12_kernel R304, R318). -/
def State.abortKernel (s : State) (k status : Nat) (cancelled : Bool) : State := s.abortCohort KState.abortable k status cancelled

/-- A kernel that is live is cancelled, its task control block apart; answers whether there was anything to cancel
(12_kernel R330). -/
def State.cancelEntry (s : State) (k : Nat) : Bool × State :=
  match s.kernel k with
  | none => (false, s)
  | some x =>
    match x.state with
    | .queued | .armed | .held | .ready => (true, s.endKernel k 0x43 true)
    | .placing | .running | .draining | .done => (true, s.abortKernel k 0x43 true)
    | _ => (false, s)

/-- The successors' addresses that a task control block lists (13_queue R350). -/
def State.successors (s : State) (asid : Nat) (p : Place) : List Word :=
  let n := min (s.blockWordAt p 3).toNat 4096
  (List.range n).map fun i =>
    match s.devicePlace asid false (s.blockWordAt p 2 + BitVec.ofNat 64 (8 * i)) with
    | some q => s.blockWordAt q 0
    | none => 0#64

/-- What a cascade does at one entry of a successor list: it enters the block there, or skips an entry that names none (13_queue R352,
R353). -/
inductive CascadeStep where
  | enter (block : Word)
  | skip (list entry : Word)
deriving DecidableEq, Repr

/-- The steps of a cascade from the list of a block, depth first in list order: a block that is COMMITTED, CANCELLED or already entered is
not entered, an entry of 0 is passed over, and one that names no block is skipped with an event (13_queue R352, R353). -/
def State.cascadeList (s : State) (asid : Nat) : Nat → Word → List CascadeStep → List Word → List CascadeStep
  | 0, _, seen, _ => seen
  | n + 1, at0, seen, l =>
    l.foldl (fun acc a =>
      if a = 0#64 then acc
      else
        match s.tcbPlace asid a with
        | none => acc ++ [.skip at0 a]
        | some p =>
          if acc.contains (.enter a) ∨ s.tcbState p = 5 ∨ s.tcbState p = 7 then acc
          else s.cascadeList asid n a (acc ++ [.enter a]) (s.successors asid p)) seen

/-- A cancelled kernel's status in word 6 of its task control block (12_kernel R318). -/
def State.cancelStatus (s : State) (p : Place) : State := s.writeWordAt p 6 0x43#64

/-- The live kernel that word 5 of a task control block names is cancelled, when it is of the address space given or system privilege acts
(12_kernel R330). -/
def State.cancelNamed (s : State) (asid : Nat) (sys : Bool) (p : Place) : State :=
  match s.kernelByHandle (s.blockWordAt p 5) with
  | some (k, x) =>
    if x.asid = asid ∨ sys then
      match s.cancelEntry k with
      | (true, s1) => if x.state.unplaced then s1.cancelStatus p else s1
      | (false, s1) => s1
    else s
  | none => s

/-- The task control block at a place becomes CANCELLED and its live kernel is cancelled (12_kernel R330). -/
def State.cancelAt (s : State) (asid : Nat) (sys : Bool) (p : Place) : State := (s.writeWordAt p 0 7#64).cancelNamed asid sys p

/-- One step of a cascade: a task control block becomes CANCELLED and its live kernel is cancelled, or event 0x0005 is posted (13_queue
R352, R353). -/
def State.cancelOne (s : State) (asid : Nat) (sys : Bool) (c : CascadeStep) : State :=
  match c with
  | .skip at0 e => s.postEvent (dieOf s.cur) 5 at0 e
  | .enter a =>
    match s.tcbPlace asid a with
    | none => s
    | some p => s.cancelAt asid sys p

/-- The cascade of CANCELLED from the task control block at an address and place to its successors (12_kernel R330, 13_queue R353). -/
def State.cascade (s : State) (asid : Nat) (sys : Bool) (at0 : Word) (p : Place) : State :=
  (s.cascadeList asid (s.mem.length + 1) at0 [] (s.successors asid p)).foldl (fun a t => a.cancelOne asid sys t) s

/-- The end of a kernel that was cancelled: its status stands in word 6 of its task control block, which is CANCELLED, and then the cascade
runs (12_kernel R303, R318; 13_queue R351). R303 gives CANCELLED to the block of every kernel that ends so; the model writes it from FREE,
RUNNING and DONE too, which R351's table does not list, and leaves a block that is COMMITTED or CANCELLED already (DEDUCED, log entry
104). -/
def State.endCancelled (s : State) (k : Nat) : State :=
  match (s.kernel k).bind fun x => (s.tcbOf x).map fun p => (x, p) with
  | some (x, p) =>
    let s1 := s.cancelStatus p
    if [0, 1, 2, 3, 4, 6].contains (s1.tcbState p) then (s1.writeWordAt p 0 7#64).cascade x.asid (x.asid == 0) (x.word 6) p else s1
  | none => s

/-! ### The end of a kernel's work -/

/-- Whether a thread's accepted work has all completed (12_kernel R304). -/
def State.threadIdle (s : State) (t : ThreadRef) : Bool :=
  let x := s.thread t
  let c := s.core (coreKey t)
  x.stores.isEmpty && x.loads.isEmpty && x.checking.isNone &&
  !(c.loadQ.any fun v => v.slot == t.slot) && !(c.arithQ.any fun v => v.slot == t.slot) &&
  !(c.storeQ.any fun v => v.slot == t.slot) && !(c.tileQ.any fun v => v.slot == t.slot) &&
  (match (s.cluster t.cluster).matrix with
    | some (k, v) => !(k == t.core && v.slot == t.slot)
    | none => true) &&
  !((s.cluster t.cluster).engine.any fun e => e.owner == t && e.state != .complete) &&
  !(s.kernels.any fun p => p.2.launcher == some t && p.2.state == .queued)

/-- A thread's slot returned to placement; the debugger's settings stay with it (04_context R99, R102), and its next context's operations
are numbered on from this one's, so that no copy-fault range of an earlier context names them (10_buffer R264). -/
def Thread.freed (t : Thread) : Thread := { dbgctl := t.dbgctl, status := t.status &&& 0x10#64, nextSeq := t.nextSeq }

/-- The slots of a kernel's RETIRED threads returned. -/
def State.freeSlotsOf (s : State) (k : Nat) (x : Kernel) : State :=
  x.threads.foldl (fun a t => if (a.thread t).kernel = some k then a.onThread t Thread.freed else a) s


/-- A DRAINING kernel whose last accepted operation has completed becomes DONE: its slots are free and its linked output
streams stand at their full length (12_kernel R304, R321). -/
def State.checkDrained (s : State) (k : Nat) : State :=
  match s.kernel k with
  | none => s
  | some x =>
    if x.state == .draining && !(s.partition x.part).switched && (s.partition x.part).killed.isEmpty && x.threads.all fun t => s.threadIdle t then
      let s1 := (s.freeSlotsOf k x).freeTiles k
      let s2 := s1.onKernel k fun y => { y with
        doneSeq := s.pkg.doneSeq
        streams := y.streams.map fun m => if m.link && decide (2 ≤ m.role) then { m with mark := m.length } else m }
      (s2.onPkg fun p => { p with doneSeq := p.doneSeq + 1 }).enterState k .done
    else s

/-- Whether a thread has tile work that has not completed (09_tile R232). -/
def State.tileBusy (s : State) (t : ThreadRef) : Bool :=
  let c := s.core (coreKey t)
  let moves (v : VCmd) : Bool := v.slot == t.slot && (match v.op with | .tld => true | .tst _ => true | _ => false)
  (c.tileQ.any fun v => v.slot == t.slot) || c.loadQ.any moves || c.storeQ.any moves ||
  match (s.cluster t.cluster).matrix with
  | some (k, v) => k == t.core && v.slot == t.slot
  | none => false

/-- The tile slots of a thread that has ended become FREE when its last tile command has completed (06_group R172, 09_tile
R227). -/
def State.settleTiles (s : State) (t : ThreadRef) : State :=
  if (s.thread t).phase == .retired && !s.tileBusy t then
    s.onCluster t.cluster fun c => { c with slots := c.slots.map fun x => x.freeIf fun y =>
      y.owner == t && y.kernel == (s.thread t).kernel && y.state == .live }
  else s

/-- After an operation of a thread has completed: its tiles and its kernel's end of work are looked at. -/
def State.settleThread (s : State) (t : ThreadRef) : State :=
  let s1 := s.settleTiles t
  match (s1.thread t).kernel with
  | some k => s1.checkDrained k
  | none => s1

/-- A thread's COPY bindings released, one queue register or all: completed commands leave their slots, and the results of
the others are discarded on arrival (13_queue R332, R335). -/
def State.releaseCopies (s : State) (t : ThreadRef) (q : Option Nat) : State :=
  let mine (e : EngineCmd) : Bool := e.owner == t && match e.via with
    | some (r, _) => q.isNone || q == some r
    | none => false
  s.onCluster t.cluster fun c => { c with
    engine := (c.engine.filter fun e => !(mine e && e.state == .complete)).map fun e =>
      if mine e then { e with via := none, reported := true, unbound := true } else e }

/-- A thread's kernel enters DRAINING when its last thread has retired (12_kernel R304). -/
def State.checkRetired (s : State) (k : Nat) : State :=
  match s.kernel k with
  | none => s
  | some x =>
    if x.state == .running && (s.partition x.part).killed.isEmpty && !(s.partition x.part).switched &&
        x.threads.all fun t => (s.thread t).phase == .retired then
      (s.enterState k .draining).checkDrained k
    else s

/-- A thread ends fatally: its kernel aborts with the status given, and a thread of no kernel stops and is reported
(04_context R105, 12_kernel R329). -/
def State.fatal (s : State) (t : ThreadRef) (status cause : Nat) (pc value : Word) : State :=
  match (s.thread t).kernel with
  | some k => (s.onThread t fun x => { x with phase := .retired, fetch := [] }).abortKernel k status false
  | none => (s.onThread t fun x => { x with phase := .retired, fetch := [] }).onPkg fun g =>
      { g with reports := g.reports ++ [.bootStop t cause pc value] }

/-! ### Taking a trap and returning -/

/-- Whether a trap is not delivered (04_context R105, 05_traps R137). -/
def Thread.trapFatal (t : Thread) : Bool := t.tvec == 0#64 || (bit t.status 0 && !bit t.status 1)

/-- The context right after the delivery of a trap (05_traps R137): a trap in handler mode sets VLOSS, the trap CSRs and
the handler bank are written, VSTART is 0, HM is set, HTE cleared, and PC is TVEC; the fetch buffer is empty. -/
def Thread.enterTrap (t : Thread) (code : Nat) (epc value : Word) : Thread :=
  let st1 := if bit t.status 0 then setBit t.status 2 true else t.status
  { t with
    status := setBit (setBit st1 0 true) 1 false
    epc := epc, cause := BitVec.ofNat 64 code, tval := value
    hvl := t.vl, hvtype := t.vtype, hvstart := t.vstart
    vstart := 0#64
    pc := t.tvec
    phase := .ready, fetch := [], execExempt := false }

/-- A trap of thread t is delivered as one event (05_traps R137). -/
def State.trapAt (s : State) (t : ThreadRef) (code : Nat) (epc value : Word) : State :=
  if (s.thread t).trapFatal then s.fatal t 0x44 code epc value
  else s.onThread t fun x => x.enterTrap code epc value

/-- The state of a thread as events see it: the recorded one of a STOPPED or SWITCHED thread (04_context R99, R100). -/
def Thread.recorded (x : Thread) : Phase :=
  match x.phase with
  | .stopped => x.stopPrior
  | .switched => if x.bellPrior = .stopped then x.stopPrior else x.bellPrior
  | p => p

/-- A thread that was STOPPED or SWITCHED as b says, recording the state that an event has left (04_context R100). -/
def Thread.record (b x : Thread) : Thread :=
  if x.phase = .retired then x
  else
    let y := if x.phase = .stopped then x else { x with stopPrior := x.phase }
    if b.phase = .stopped then { y with phase := .stopped }
    else if b.bellPrior = .stopped then { y with phase := .switched, bellPrior := .stopped }
    else { x with phase := .switched, bellPrior := x.phase }

/-- A change of a thread by an event: one that falls on a STOPPED or SWITCHED thread is applied to the recorded state
(04_context R100). -/
def State.onRecorded (s : State) (t : ThreadRef) (f : State → State) : State :=
  let b := s.thread t
  match b.phase with
  | .stopped | .switched => (f (s.onThread t fun x => { x with phase := x.recorded })).onThread t (Thread.record b)
  | _ => f s

/-- A trap of an instruction that issued earlier is delivered, on the recorded state of a thread that is stopped or
switched out. -/
def State.trapLate (s : State) (t : ThreadRef) (code : Nat) (epc value : Word) : State :=
  s.onRecorded t fun a => a.trapAt t code epc value

/-- The running thread's instruction raises a trap with EPC at itself. -/
def State.trap (s : State) (code : Nat) (value : Word) : State := s.trapAt s.cur code s.ctx.pc value

/-- The cause codes of 05_traps R133. -/
def causeIllegal : Nat := 0x01
/-- PRIVILEGE. -/
def causePrivilege : Nat := 0x02
/-- MISALIGNED. -/
def causeMisaligned : Nat := 0x03
/-- PAGEFAULT. -/
def causePageFault : Nat := 0x04
/-- ACCESS. -/
def causeAccess : Nat := 0x05
/-- TILEFAULT. -/
def causeTileFault : Nat := 0x0B
/-- COPYFAULT. -/
def causeCopyFault : Nat := 0x0C
/-- QUEUEFAULT. -/
def causeQueueFault : Nat := 0x0D
/-- BREAK. -/
def causeBreak : Nat := 0x0E
/-- STEP. -/
def causeStep : Nat := 0x0F
/-- SYSCALL. -/
def causeSyscall : Nat := 0x10
/-- WATCH. -/
def causeWatch : Nat := 0x11

/-- ILLEGAL with TVAL = VTYPE (03_encoding R82). -/
def State.illegalType (s : State) : State := s.trap causeIllegal s.ctx.vtype

/-- The debugger's stop of a thread, its state recorded (04_context R99). -/
def Thread.stop (t : Thread) (prior : Phase) : Thread := { t with phase := .stopped, stopPrior := prior }

/-- BREAK or WATCH: to STOPPED when a debugger owns the thread, else the trap (05_traps R133). -/
def State.debugTrap (s : State) (code : Nat) (value : Word) : State :=
  if s.ctx.owned then s.onCtx fun t => t.stop .ready else s.trap code value

/-- The end of a single step of thread t, whose stepped instruction stood at the address given (17_watch R433). -/
def State.endStep (s : State) (t : ThreadRef) (stepped : Word) : State :=
  let x := s.thread t
  if !bit x.status 4 then s
  else if x.owned then s.onThread t fun y => if y.phase = .stopped then y else y.stop y.phase
  else if x.hm then s
  else s.trapAt t causeStep x.pc stepped

/-- Whether a breakpoint on issue matches at the thread's PC (17_watch R431). -/
def Thread.execMatch (t : Thread) : Bool :=
  !t.execExempt && bit t.bpctl 0 && (!t.hm || bit t.bpctl 4) && t.pc &&& t.bpmask == t.bpaddr &&& t.bpmask

/-- The number of elements in a block of VTYPE.BLK (07_vector R175). -/
def blockSize (code : Nat) : Nat :=
  match code with
  | 0 => 1
  | 1 => 16
  | 2 => 32
  | _ => 64

/-- Whether TRAPRET refuses the handler bank (05_traps R156). -/
def Thread.badBank (t : Thread) : Bool :=
  if bit t.hvtype 10 then
    field t.hvtype 4 0 == 31 || field t.hvtype 63 11 != 0
      || decide (t.vlmax * 8 / fmtWidth (field t.hvtype 4 0) < t.hvl.toNat)
      || t.hvl.toNat % blockSize (field t.hvtype 6 5) != 0 || decide (2 ^ 15 ≤ t.hvstart.toNat)
  else t.hvtype != 0#64 || t.hvl != 0#64 || decide (2 ^ 15 ≤ t.hvstart.toNat)

/-- The context after a return from a trap (05_traps R156); the instruction reached is not tested by EXEC (17_watch
R431). -/
def Thread.leaveTrap (t : Thread) : Thread :=
  { t.retireTo t.epc with
    vl := t.hvl, vtype := t.hvtype, vstart := t.hvstart
    status := if bit t.status 2 then setBit t.status 2 false else setBit t.status 0 false
    execExempt := true }

end Sys2Proof.Machine
end

