-- ==== Sys2Proof/Machine/Access.lean ====
section
/-! DEFINITION. The checks of a scalar access (04_context R118, 17_watch R431), and the performing of reads and writes, with
drafts and the conflicts among them (12_kernel R308-R316). -/

namespace Sys2Proof.Machine

/-! ### The checks of a scalar access -/

/-- The first byte of an access that a read or write breakpoint matches (17_watch R431). -/
def Thread.watchHit (t : Thread) (reads writes : Bool) (ea : Word) (n : Nat) : Option Word :=
  if (!t.hm || bit t.bpctl 4) && ((reads && bit t.bpctl 1) || (writes && bit t.bpctl 2)) then
    ((List.range n).map fun i => ea + BitVec.ofNat 64 i).find? fun b => b &&& t.bpmask == t.bpaddr &&& t.bpmask
  else none

/-- How the checks of a scalar access end: with its place, or with the instruction stopped by a trap or a wait. -/
inductive Checked where
  | ok (p : Place) (s : State)
  | stop (s : State)
deriving DecidableEq, Repr

/-- The checks of a scalar, FE, AMO, barrier or rendezvous access of n bytes, in the order MISALIGNED, ACCESS, PAGEFAULT,
WATCH (05_traps R134), for an instruction that raises ACCESS at some places. -/
def State.scalarCheck (s : State) (ea : Word) (n : Nat) (write watchRead watchWrite : Bool) (denied : Place → Bool) : Checked :=
  if ea.toNat % n ≠ 0 then .stop (s.trap causeMisaligned ea)
  else
    match s.reach s.agent (.thread s.cur false) true write false ea with
    | (.deny, s1) => .stop (s1.trap causeAccess ea)
    | (.walk, s1) => .stop s1.block
    | (.place p, s1) =>
      if denied p then .stop (s1.trap causeAccess ea)
      else
      match s1.ctx.watchHit watchRead watchWrite ea n with
      | some b => .stop (s1.debugTrap causeWatch b)
      | none => .ok p s1

/-- The checks of a scalar access that every place allows (05_traps R134). -/
def State.scalarAccess (s : State) (ea : Word) (n : Nat) (write watchRead watchWrite : Bool) : Checked :=
  s.scalarCheck ea n write watchRead watchWrite fun _ => false

/-! ### Reads and writes at a place -/

/-- Whether a location lies in a granule of the version that is committing (12_kernel R316). -/
def State.frozen (s : State) (l n : Nat) : Bool :=
  match s.pkg.sequencer.bind s.kernel with
  | some x =>
    (s.pkg.drafts.any fun d => some d.tag == x.tag && d.commit.isNone
      && decide (d.granule * 256 < l + n) && decide (l < d.granule * 256 + 256))
  | none => false

/-- Whether a committed line that is not folded yet holds all 64 bytes of the line of a location: its fold clears the line's marker
(12_kernel R317, 15_page R391). A read finds the marker under any other committed line, as it does after the fold (11_ordering R286). -/
def State.coveredLine (s : State) (l : Nat) : Bool :=
  s.pkg.drafts.any fun d => d.commit.isSome && d.granule == l / 256 &&
    (List.range 64).all fun i => (Table.find (l % 256 / 64 * 64 + i) d.bytes).isSome

/-- Whether the n bytes an access reads include a byte of a poisoned line that neither its own draft nor a committed line makes good
(15_page R391). -/
def State.readPoisoned (s : State) (p : Place) (n : Nat) : Bool :=
  !(s.poison.isEmpty && s.pkg.deadRows.isEmpty && s.pkg.links.isEmpty) && (List.range n).any fun o =>
    poisoned s (p.loc + o) 1 &&
    !((p.draft.bind fun v => draftByte s v (p.loc + o)).isSome || s.coveredLine (p.loc + o))

/-- How the performing of a write ends: performed; waiting at its target; or dropped with its kernel (12_kernel R313,
R314). -/
inductive WriteEnd where
  | done (s : State)
  | waits (s : State)
  | dropped (s : State)
deriving DecidableEq, Repr

/-- The least dispatch sequence number among the live kernels of a version, which ranks it against another (12_kernel
R313, R320; log entry 21). -/
def State.versionAge (s : State) (tag : Nat) : Nat :=
  let ks := s.kernels.filter fun p => p.2.tag == some tag && p.2.state.uncommitted
  (ks.map fun p => p.2.dispatchSeq).foldl min (2 ^ 64)

/-- The kernels of a version that have not ended. -/
def State.versionKernels (s : State) (tag : Nat) : List (Nat × Kernel) :=
  s.kernels.filter fun p => p.2.tag == some tag && p.2.state.uncommitted


/-- The draft slots of a pool that a version's kernels reserve (12_kernel R314, R320). -/
def State.reserved (s : State) (tag : Nat) : Nat :=
  ((s.versionKernels tag).map fun p => 32 * field (p.2.word 3) 63 32).foldl (· + ·) 0

/-- The lines of a version in a pool. -/
def State.linesIn (s : State) (tag pool : Nat) : Nat :=
  (s.pkg.drafts.filter fun d => d.tag == tag && poolOf (d.granule * 256) == pool).length

/-- The slots of a pool that are neither used nor reserved (12_kernel R314). -/
def State.freeSlots (s : State) (pool : Nat) : Nat :=
  let tags := (List.range 63).map (· + 1)
  s.poolSlots - (tags.map fun v => max (s.linesIn v pool) (s.reserved v)).foldl (· + ·) 0

/-- Whether a version may allocate a line for a location now (12_kernel R314). -/
def State.slotFor (s : State) (tag l : Nat) : Bool :=
  decide (s.linesIn tag (poolOf l) < s.reserved tag) || decide (0 < s.freeSlots (poolOf l))

/-- Whether a location lies on a page that migrates (15_page R386). -/
def State.migrating (s : State) (l : Nat) : Bool :=
  (s.pkg.migrations.flatMap fun p => p.2).any fun m => l / 65536 == m.old / 65536 || l / 65536 == m.new / 65536

/-- Whether a write of a version is stalled for want of a slot in a pool (12_kernel R314). -/
def State.overflows (s : State) (tag pool : Nat) : Bool := (s.versionKernels tag).any fun p => p.2.overflow.contains pool

/-- Whether a draft write of a kernel finds no slot in a pool is noted (12_kernel R314). -/
def State.noteOverflow (s : State) (kernel : Option Nat) (pool : Nat) (full : Bool) : State :=
  match kernel with
  | some k => s.onKernel k fun x => { x with
      overflow := (x.overflow.filter fun p => p != pool) ++ if full then [pool] else [] }
  | none => s

/-- The kernels of a version wait for the kernel given before they are launched again (12_kernel R304). -/
def State.waitBehind (s : State) (tag : Nat) (k : Option Nat) : State :=
  (s.versionKernels tag).foldl (fun a p => a.onKernel p.1 fun y => { y with behind := k }) s

/-- A draft write: the conflict rules of 12_kernel R313 with each other uncommitted version on the granule in turn, then the
slot of R314; a write that finds no slot stalls, and with it the version's later writes to that pool. -/
def State.draftWrite (s : State) (kernel : Option Nat) (tag l n x : Nat) : WriteEnd :=
  let holders := ((s.pkg.drafts.filter fun d => d.granule == l / 256 && d.commit.isNone && d.tag != tag).map (·.tag))
  let older (u : Nat) : Bool := decide (s.versionAge tag < s.versionAge u)
  match holders with
  | [] =>
    let own := s.pkg.drafts.any fun d => d.tag == tag && d.granule == l / 256 && d.commit.isNone
    let full := !s.slotFor tag l
    if own && !(full && s.overflows tag (poolOf l)) then .done (writeDraft s tag l n x)
    else if !own && s.migrating l then .waits s
    else if full then .waits (s.noteOverflow kernel (poolOf l) true)
    else .done (writeDraft (s.noteOverflow kernel (poolOf l) false) tag l n x)
  | u :: _ =>
    let ks := s.versionKernels u
    if older u then
      if ks.any fun p => p.2.state == .committing || p.2.state == .aborting then .waits s
      else .waits ((ks.head?.map fun p => (s.waitBehind u kernel).abortKernel p.1 0x40 false).getD s)
    else
      match kernel.bind fun k => (s.kernel k).map fun y => (k, y) with
      | some (k, y) =>
        if bit (y.word 2) 4 then .waits s
        else .dropped ((s.waitBehind tag (ks.head?.map (·.1))).abortKernel k 0x40 false)
      | none => .waits s

/-- The watches that a write of n bytes at a place wakes when it is performed at its home: a draft's only among its own version's
kernels (14_barrier R371). -/
def State.wakePlace (s : State) (p : Place) (n : Nat) : State :=
  match p.draft with
  | some v => s.wakeVersion v p.loc n
  | none => s.wakeWatches p.loc n 1

/-- The performing of a write of n bytes, all in one 256-byte granule, by an agent of a kernel: a draft by its version, or
direct (12_kernel R309-R314, R316). A draft line behind a FAILED link is uncorrectable, and its kernel aborts (16_link R400, 12_kernel
R318; log entry 83). -/
def State.writeQuiet (s : State) (kernel : Option Nat) (p : Place) (n x : Nat) : WriteEnd :=
  if Loc.isPhys p.loc && s.frozen p.loc n then .waits s
  else
    match p.draft, kernel with
    | some v, some k =>
      if s.linkState (.nearDie (poolOf p.loc)) == .failed then .dropped ((s.errorAt p.loc).abortKernel k 0x42 false)
      else s.draftWrite kernel v p.loc n x
    | some v, none => s.draftWrite kernel v p.loc n x
    | none, _ => .done (s.storeBytes p.loc n x)

/-- A write performed at its home: watches on the bytes wake (12_kernel R309-R314, R316; 14_barrier R371). -/
def State.writePlace (s : State) (kernel : Option Nat) (p : Place) (n x : Nat) : WriteEnd :=
  match s.writeQuiet kernel p n x with
  | .done s1 => .done (s1.wakePlace p n)
  | r => r

/-! ### Caches and banks -/

/-- Whether a line that is held answers a version: its tag is 0 or the version's own (12_kernel R312). -/
def CacheLine.answers (e : CacheLine) (line version : Nat) : Bool := e.line == line && (e.tag == 0 || e.tag == version)

/-- A set-associative cache, most recently used first, with a line put first in its set of the given number of ways, and the lines of
the set that it replaces (04_context R464, 01_module R463). -/
def cachePut (sets ways : Nat) (e : CacheLine) (l : List CacheLine) : List CacheLine × List CacheLine :=
  let others := l.filter fun x => x.line != e.line
  let inSet := e :: others.filter fun x => x.line % sets == e.line % sets
  (inSet.take ways ++ others.filter fun x => x.line % sets != e.line % sets, inSet.drop ways)

/-- The ways that serve the set of a line in the cache of a die (01_module R463, 15_page R392; log entry 84). -/
def Die.ways (d : Die) (line : Nat) : Nat :=
  16 - (d.lostWays.filter fun p => p.1 == line % 32 && p.2 % 32 == line / 32 % 2048 / 64).length

/-- A dirty line is written to its home, or into its version's draft line: its stores are performed there, and watches wake
(04_context R464, 12_kernel R312, 14_barrier R371). -/
def State.writeHome (s : State) (e : CacheLine) : State :=
  if e.writers.isEmpty then s
  else if e.tag = 0 then s.wakeWatches (e.line * 64) 64 1 else s.wakeVersion e.tag (e.line * 64) 64

/-- A line put into a die's cache: a present line of another version, and the lines that it replaces, are written back first
(01_module R463). -/
def State.diePut (s : State) (die : Nat) (e : CacheLine) : State :=
  let old := (s.die die).cache.find? fun x => x.line == e.line
  let same := (old.any fun x => x.tag == e.tag)
  let kept := if same then (old.map (·.writers)).getD [] else []
  let s1 := if same then s else (old.map s.writeHome).getD s
  let q := cachePut 65536 ((s.die die).ways e.line) { e with writers := e.writers ++ kept.filter fun t => !e.writers.contains t }
    (s.die die).cache
  q.2.foldl State.writeHome (s1.onDie die fun d => { d with cache := q.1 })

/-- A dirty line leaves a scalar data cache: to the die cache with tag 0, into its draft line otherwise (04_context R464). -/
def State.coreBack (s : State) (die : Nat) (e : CacheLine) : State :=
  if e.writers.isEmpty then s else if e.tag = 0 then s.diePut die e else s.writeHome e

/-- A level read of a walk, or the fill of a scalar data cache line, in a die's cache: whether it hits, and the cache after it
(01_module R463). -/
def State.dieRead (s : State) (die line version : Nat) : Bool × State :=
  match (s.die die).cache.find? fun e => e.answers line version with
  | some e => (true, s.diePut die e)
  | none => (false, s.diePut die { line := line, tag := version })

/-- A line as thread t leaves it: a store of a version gives it the version's tag and makes it dirty (12_kernel R312). -/
def CacheLine.touched (e : CacheLine) (t : ThreadRef) (version : Nat) (write : Bool) : CacheLine :=
  if !write then e
  else { line := e.line, tag := version, writers := t :: if e.tag = version then e.writers.filter fun u => u != t else [] }

/-- The line of a place in the scalar data cache of thread t's core, filled on a miss from the die's cache, read or written; and
whether the core's cache and the die's cache held it (04_context R119, R464; 01_module R463; 12_kernel R312). -/
def State.cacheLine (s : State) (t : ThreadRef) (p : Place) (write : Bool) : Bool × Bool × State :=
  let line := p.loc / 64
  let v := p.draft.getD 0
  let old := (s.core (coreKey t)).dcache.find? fun e => e.line == line
  let put (a : State) (e : CacheLine) : State :=
    let q := cachePut 64 4 e (a.core (coreKey t)).dcache
    q.2.foldl (fun b x => b.coreBack (dieOf t) x) (a.onCore (coreKey t) fun c => { c with dcache := q.1 })
  match old.filter fun e => e.answers line v with
  | some e =>
    let s1 := if write && e.tag != v then s.coreBack (dieOf t) e else s
    (true, true, put s1 (e.touched t v write))
  | none =>
    let s1 := (old.map fun e => s.coreBack (dieOf t) e).getD s
    let r := s1.dieRead (dieOf t) line v
    (false, r.1, put r.2 (CacheLine.touched { line := line, tag := v } t v write))

/-- Whether an access to a place goes through the caches (04_context R119; 15_page R386). -/
def State.throughCaches (s : State) (p : Place) : Bool := p.cached && !s.migrating p.loc

/-- A cached scalar access of thread t touches the scalar data cache of its core and, on a miss, its die's cache; the misses
are counted (04_context R119, R464; 01_module R463; 17_watch R428). -/
def State.touchCaches (s : State) (t : ThreadRef) (p : Place) : State :=
  if !s.throughCaches p then s
  else
    match s.cacheLine t p false with
    | (true, _, s1) => s1
    | (false, true, s1) => s1.onThread t fun x => x.count 7 1
    | (false, false, s1) => s1.onThread t fun x => (x.count 7 1).count 8 1

/-- A scalar store of thread t has written its bytes: in its core's scalar data cache the line is dirty; a store that bypasses the
caches has been performed at its home (04_context R464, 11_ordering R291). -/
def State.settleStore (s : State) (t : ThreadRef) (p : Place) (n : Nat) : State :=
  if s.throughCaches p then (s.cacheLine t p true).2.2 else s.wakePlace p n

/-- The copies of a line in every scalar data cache and die cache. -/
def State.copiesOf (s : State) (line : Nat) : List CacheLine :=
  (s.cores.flatMap fun p => p.2.dcache.filter fun e => e.line == line) ++
    s.dies.flatMap fun p => p.2.cache.filter fun e => e.line == line

/-- The caches with a function on every list of lines they hold. -/
def State.mapCaches (s : State) (f : List CacheLine → List CacheLine) : State :=
  { s with
    cores := s.cores.map fun p => (p.1, { p.2 with dcache := f p.2.dcache })
    dies := s.dies.map fun p => (p.1, { p.2 with cache := f p.2.cache }) }

/-- The snooped copies of a line are written back: a dirty one in a scalar data cache to its die's cache, which takes the line, or into its
draft line, and then a dirty one in a die's cache to its home (04_context R464, 01_module R463; 07_vector R193, 11_ordering R297). -/
def State.snoopLine (s : State) (line : Nat) : State :=
  let s1 := s.cores.foldl (fun a p => (p.2.dcache.filter fun e => e.line == line).foldl (fun b e => b.coreBack (p.1 / 8 / Config.sites) e) a) s
  (s1.dies.flatMap fun p => p.2.cache.filter fun e => e.line == line).foldl State.writeHome s1

/-- Every scalar data cache and die cache without the line of a location: dirty copies are written back first (11_ordering R297,
07_vector R193). -/
def State.dropCached (s : State) (l : Nat) : State :=
  if (s.copiesOf (l / 64)).isEmpty then s
  else (s.snoopLine (l / 64)).mapCaches fun c => c.filter fun e => e.line != l / 64

/-- A vector load snoops the line of a location: dirty copies are written back and stay (07_vector R193). -/
def State.snoopRead (s : State) (l : Nat) : State :=
  if (s.copiesOf (l / 64)).all fun e => e.writers.isEmpty then s
  else (s.snoopLine (l / 64)).mapCaches fun c => c.map fun e => if e.line = l / 64 then { e with writers := [] } else e

/-- A line is dirty with a store of thread t. -/
def CacheLine.dirtyBy (e : CacheLine) (t : ThreadRef) : Bool := e.writers.contains t

/-- The lines that hold stores of thread t, clean. -/
def cleaned (t : ThreadRef) (l : List CacheLine) : List CacheLine :=
  l.map fun e => if e.dirtyBy t then { e with writers := [] } else e

/-- The stores of thread t performed at a scope: at .clu or wider its dirty lines leave the scalar data cache of its core, at .pkg or
.sys they leave its die's cache too (11_ordering R291; 04_context R464; 01_module R463). -/
def State.flush (s : State) (t : ThreadRef) (scope : Nat) : State :=
  let mine := (s.core (coreKey t)).dcache.filter fun e => e.dirtyBy t
  let s1 := if scope = 0 ∨ mine.isEmpty then s
    else mine.foldl (fun a e => a.coreBack (dieOf t) e) (s.onCore (coreKey t) fun c => { c with dcache := cleaned t c.dcache })
  let far := (s1.die (dieOf t)).cache.filter fun e => e.dirtyBy t
  if scope < 3 ∨ far.isEmpty then s1
  else far.foldl State.writeHome (s1.onDie (dieOf t) fun d => { d with cache := cleaned t d.cache })

/-- Whether a line that is dirty in a cache holds a location: what it holds has not been performed at its home (11_ordering R291). -/
def State.dirtyAt (s : State) (l : Nat) : Bool := (s.copiesOf (l / 64)).any fun e => !e.writers.isEmpty

/-- Whether a resource is a cache that a cached access of thread t to a location goes through: its core's scalar data cache, or the
slice of its die's cache (15_page R392). -/
def onCachePath (t : ThreadRef) (l : Nat) (r : Resource) : Bool :=
  match r with
  | .scalarCache c k _ _ => c * 8 + k == coreKey t
  | .dieCache d x _ _ => d == dieOf t && x == l / 64 % 32
  | _ => false

/-- BIDLE as a timer that starts now takes it: the last value written 1,024 cycles or more ago, else the reset value (15_page R390). -/
def State.bidleNow (s : State) : Nat :=
  ((s.pkg.bidleLog.find? fun w => decide (w.1 + 1024 ≤ s.now)).map fun w => w.2.toNat).getD 48

/-- The writes of BIDLE that some timer may still go by: back to the latest that applies now (15_page R390). -/
def State.bidleWrites (s : State) : List (Nat × BitVec 8) :=
  (s.pkg.bidleLog.filter fun w => decide (s.now < w.1 + 1024)) ++ (s.pkg.bidleLog.find? fun w => decide (w.1 + 1024 ≤ s.now)).toList

/-- An access opens its row in its bank and restarts the bank's idle timer; with BIDLE 0 the bank precharges at once (15_page
R389, R390). -/
def State.touchBank (s : State) (l : Nat) : State :=
  if Loc.isPhys l && physNear l then
    if s.bidleNow = 0 then s.onPkg fun g => { g with banks := Table.erase (bankKey l) g.banks }
    else s.onPkg fun g => { g with banks := Table.set (bankKey l) (.openRow (Config.rowOf l) s.now s.bidleNow) g.banks }
  else s

/-- The state in which a write's performing has ended. -/
def WriteEnd.state : WriteEnd → State
  | .done s => s
  | .waits s => s
  | .dropped s => s

end Sys2Proof.Machine
end

