-- ==== Sys2Proof/WellFormed.lean ====
section
/-! DEFINITION. The checks that decide whether the fields of an instruction hold assigned codes (03_encoding R63-R78).
Events carry no encoding and are well formed. -/

namespace Sys2Proof

/-- The CSR numbers that some chapter assigns (04_context R102, 15_page R390, 16_link R423, 17_watch R425). -/
def csrAssigned (c : BitVec 12) : Bool :=
  let n := c.toNat
  decide (n ≤ 0x006) || (decide (0x010 ≤ n) && decide (n ≤ 0x018)) || (decide (0x020 ≤ n) && decide (n ≤ 0x022)) ||
  (decide (0x030 ≤ n) && decide (n ≤ 0x034)) || (decide (0x040 ≤ n) && decide (n ≤ 0x046)) ||
  (decide (0x050 ≤ n) && decide (n ≤ 0x053)) || (decide (0x060 ≤ n) && decide (n ≤ 0x063)) ||
  (decide (0x070 ≤ n) && decide (n ≤ 0x07E)) || (decide (0x108 ≤ n) && decide (n ≤ 0x10F))

/-- A scope code of 03_encoding R74: 0 .core to 4 .sys. -/
def scopeOk (s : BitVec 3) : Bool := decide (s.toNat ≤ 4)

/-- A scalar rounding code of 02_numbers R39: 0 to 4, or 7 for the dynamic mode. -/
def roundingOk (m : BitVec 3) : Bool := decide (m.toNat ≤ 4) || m == 7

/-- The instructions of a base class that accept the rsz and sf modifiers of LV, with the field reuse of 08_vector_ops
R201 that still holds in the first word (R206). VSLUP and VSLDN have rows of their own. -/
def longFormAccepts (cls : BitVec 3) (fn : BitVec 5) (vd : BitVec 6) : Bool :=
  match cls.toNat with
  | 0 => decide (fn.toNat ≤ 19)
  | 1 => decide (fn.toNat ≤ 11) && !(fn == 7)
  | 2 => (fn == 0 && decide (vd.toNat / 8 < 6)) || (fn == 1 && decide (vd.toNat / 8 < 4)) || fn == 9
  | 3 => fn == 6
  | 4 => decide (fn.toNat ≤ 7)
  | _ => false

/-- The second word of LV (03_encoding R67): sf = 1 requires rsz = 00 and vb = 0, and gs is zero when sf = 0. DEDUCED: ridx, to which no
description assigns a meaning while rsz = 00, is reserved there (03_encoding R77, 08_vector_ops R206; log entry 26). -/
def longFormOk (cls : BitVec 3) (fn : BitVec 5) (vd vb : BitVec 6) (rsz : BitVec 2) (ridx : BitVec 11) (sf : BitVec 1)
    (gs : BitVec 5) : Bool :=
  longFormAccepts cls fn vd && (if sf == 1 then rsz == 0 && vb == 0 else gs == 0) && (rsz != 0 || ridx == 0)

/-- Every code field of an instruction holds an assigned value (03_encoding R77, R78). -/
def Instr.wellFormed : Instr → Bool
  | .add _ _ _ _ => true
  | .sub _ _ _ _ => true
  | .and _ _ _ => true
  | .or _ _ _ => true
  | .xor _ _ _ => true
  | .sll _ _ _ _ => true
  | .srl _ _ _ _ => true
  | .sra _ _ _ _ => true
  | .slt _ _ _ => true
  | .sltu _ _ _ => true
  | .min _ _ _ => true
  | .max _ _ _ => true
  | .minu _ _ _ => true
  | .maxu _ _ _ => true
  | .mul _ _ _ _ => true
  | .mulh _ _ _ => true
  | .mulhu _ _ _ => true
  | .div _ _ _ _ => true
  | .divu _ _ _ _ => true
  | .rem _ _ _ _ => true
  | .remu _ _ _ _ => true
  | .clz _ _ _ => true
  | .ctz _ _ _ => true
  | .popc _ _ _ => true
  | .rol _ _ _ _ => true
  | .ror _ _ _ _ => true
  | .andn _ _ _ => true
  | .addi _ _ _ => true
  | .andi _ _ _ => true
  | .ori _ _ _ => true
  | .xori _ _ _ => true
  | .slti _ _ _ => true
  | .sltiu _ _ _ => true
  | .slli _ _ _ => true
  | .srli _ _ _ => true
  | .srai _ _ _ => true
  | .rori _ _ _ => true
  | .lui _ _ => true
  | .addpc _ _ => true
  | .liw _ _ => true
  | .lih _ _ => true
  | .lb _ _ _ => true
  | .lbu _ _ _ => true
  | .lh _ _ _ => true
  | .lhu _ _ _ => true
  | .lw _ _ _ => true
  | .lwu _ _ _ => true
  | .ld _ _ _ => true
  | .sb _ _ _ => true
  | .sh _ _ _ => true
  | .sw _ _ _ => true
  | .sd _ _ _ => true
  | .beq _ _ _ => true
  | .bne _ _ _ => true
  | .blt _ _ _ => true
  | .bge _ _ _ => true
  | .bltu _ _ _ => true
  | .bgeu _ _ _ => true
  | .bp _ _ => true
  | .bnp _ _ => true
  | .jal _ _ => true
  | .jalr _ _ _ => true
  | .pcmp _ _ _ c => decide (c.toNat < 6)
  | .pand _ _ _ => true
  | .por _ _ _ => true
  | .pxor _ _ _ => true
  | .pnot _ _ => true
  | .sel _ _ _ _ => true
  | .pmovFromPredicates _ => true
  | .pmovToPredicates _ => true
  | .fadd _ _ _ m _ => roundingOk m
  | .fsub _ _ _ m _ => roundingOk m
  | .fmul _ _ _ m _ => roundingOk m
  | .fdiv _ _ _ m _ => roundingOk m
  | .fsqrt _ _ m _ => roundingOk m
  | .fmin _ _ _ _ => true
  | .fmax _ _ _ _ => true
  | .feq _ _ _ _ => true
  | .flt _ _ _ _ => true
  | .fle _ _ _ _ => true
  | .fclass _ _ _ => true
  | .fsgnj _ _ _ _ => true
  | .fsgnjn _ _ _ _ => true
  | .fsgnjx _ _ _ _ => true
  | .fcvtFi _ _ _ m _ => roundingOk m
  | .fcvtFn _ _ _ m _ => roundingOk m
  | .fcvtIf _ _ _ m _ => roundingOk m
  | .fcvtNf _ _ _ m _ => roundingOk m
  | .fcvtFf _ _ _ m _ => roundingOk m
  | .fma _ _ _ _ _ _ => true
  | .fms _ _ _ _ _ _ => true
  | .fnma _ _ _ _ _ _ => true
  | .fnms _ _ _ _ _ _ => true
  | .csrr _ c => csrAssigned c
  | .csrw _ _ c => csrAssigned c
  | .csrs _ _ c => csrAssigned c
  | .csrc _ _ c => csrAssigned c
  | .syscall _ => true
  | .brk _ => true
  | .trapret => true
  | .fence s _ => scopeOk s
  | .wait _ _ _ _ => true
  | .yield => true
  | .yieldw _ _ _ => true
  | .exit => true
  | .time _ => true
  | .isync => true
  | .amoadd _ _ _ _ _ s => scopeOk s
  | .amoand _ _ _ _ _ s => scopeOk s
  | .amoor _ _ _ _ _ s => scopeOk s
  | .amoxor _ _ _ _ _ s => scopeOk s
  | .amomin _ _ _ _ _ s => scopeOk s
  | .amomax _ _ _ _ _ s => scopeOk s
  | .amominu _ _ _ _ _ s => scopeOk s
  | .amomaxu _ _ _ _ _ s => scopeOk s
  | .amoswap _ _ _ _ _ s => scopeOk s
  | .amocas _ _ _ _ _ s => scopeOk s
  | .lda _ _ _ s => scopeOk s
  | .strel _ _ _ s => scopeOk s
  | .amofadd _ _ _ _ _ s => scopeOk s
  | .barinit _ _ _ s => scopeOk s
  | .bararr _ _ s => scopeOk s
  | .bartest _ _ _ s => scopeOk s
  | .bardrop _ _ s => scopeOk s
  | .rdvput _ _ _ s => scopeOk s
  | .rdvget _ _ _ s => scopeOk s
  | .qbind _ _ _ => true
  | .qunbind _ => true
  | .qpush _ _ => true
  | .qpop _ _ => true
  | .qpusht _ _ _ => true
  | .qpopt _ _ _ => true
  | .qstat _ _ => true
  | .tqpush _ _ _ => true
  | .tqpop _ _ _ => true
  | .launch _ _ => true
  | .take _ _ => true
  | .wmark _ _ => true
  | .wmread _ _ => true
  | .tdep _ _ => true
  | .tarm _ _ _ => true
  | .kstat _ _ => true
  | .kabort => true
  | .kcancel _ _ => true
  | .kcancelTcb _ _ => true
  | .ldf _ _ _ => true
  | .ldfTry _ _ _ _ => true
  | .ldfc _ _ _ => true
  | .ldfcTry _ _ _ _ => true
  | .stf _ _ _ => true
  | .stfTry _ _ _ _ => true
  | .stfw _ _ _ => true
  | .stfwTry _ _ _ _ => true
  | .feset _ _ => true
  | .fesetTry _ _ _ => true
  | .feclr _ _ => true
  | .feclrTry _ _ _ => true
  | .fetest _ _ _ => true
  | .tlbinv _ _ => true
  | .tlbinva _ => true
  | .pgprobe _ _ _ => true
  | .migrate _ _ => true
  | .vcfg _ n => decide (n.toNat < 5)
  | .setvl _ _ f _ _ _ => decide (f.toNat < 31)
  | .vld _ _ _ => true
  | .vlds _ _ _ _ => true
  | .vldx _ _ _ _ => true
  | .vlseg _ _ _ f => decide (0 < f.toNat)
  | .vldff _ _ _ => true
  | .vldp _ _ _ _ => true
  | .vst _ _ _ => true
  | .vsts _ _ _ _ => true
  | .vstx _ _ _ _ => true
  | .vsseg _ _ _ f => decide (0 < f.toNat)
  | .vstp _ _ _ _ => true
  | .vadd _ _ _ _ => true
  | .vsub _ _ _ _ => true
  | .vmul _ _ _ _ => true
  | .vmulh _ _ _ _ => true
  | .vmin _ _ _ _ => true
  | .vmax _ _ _ _ => true
  | .vminu _ _ _ _ => true
  | .vmaxu _ _ _ _ => true
  | .vand _ _ _ _ => true
  | .vor _ _ _ _ => true
  | .vxor _ _ _ _ => true
  | .vsll _ _ _ _ => true
  | .vsrl _ _ _ _ => true
  | .vsra _ _ _ _ => true
  | .vsadd _ _ _ _ => true
  | .vssub _ _ _ _ => true
  | .vsaddu _ _ _ _ => true
  | .vssubu _ _ _ _ => true
  | .vmacc _ _ _ _ => true
  | .vdot4 _ _ _ _ => true
  | .vfadd _ _ _ _ => true
  | .vfsub _ _ _ _ => true
  | .vfmul _ _ _ _ => true
  | .vfma _ _ _ _ => true
  | .vfms _ _ _ _ => true
  | .vfnma _ _ _ _ => true
  | .vfdiv _ _ _ _ => true
  | .vfsqrt _ _ _ => true
  | .vfmin _ _ _ _ => true
  | .vfmax _ _ _ _ => true
  | .vfsgnj _ _ _ _ => true
  | .vfsgnjn _ _ _ _ => true
  | .vcmp c _ _ _ _ => decide (c.toNat < 6)
  | .vfeq c _ _ _ _ => decide (c.toNat < 4)
  | .mand _ _ _ => true
  | .mor _ _ _ => true
  | .mxor _ _ _ => true
  | .mandn _ _ _ => true
  | .mpopc _ _ _ => true
  | .mfirst _ _ _ => true
  | .mset _ _ _ _ => true
  | .vmerge _ _ _ _ => true
  | .vmv _ _ _ => true
  | .vmvs _ _ _ => true
  | .vext _ _ _ => true
  | .vins _ _ _ => true
  | .vslup _ _ _ _ => true
  | .vslupImm _ _ _ _ _ => true
  | .vsldn _ _ _ _ => true
  | .vsldnImm _ _ _ _ _ => true
  | .vgath _ _ _ _ => true
  | .vcomp _ _ _ => true
  | .viota _ _ _ => true
  | .lvLongForm d _ b _ f k z x q g => longFormOk k f d b z x q g
  | .vredsum _ _ _ _ => true
  | .vredmin _ _ _ _ => true
  | .vredmax _ _ _ _ => true
  | .vredand _ _ _ _ => true
  | .vredor _ _ _ _ => true
  | .vfredsum _ _ _ _ => true
  | .vfredmax _ _ _ _ => true
  | .vfredmin _ _ _ _ => true
  | .vcvt _ _ f _ => decide (f.toNat < 31)
  | .vqnt _ _ f => decide (f.toNat < 31)
  | .vdqnt _ _ f _ => decide (f.toNat < 31)
  | .vrot _ _ _ => true
  | .vplx _ _ _ _ => true
  | .vpli _ _ _ _ => true
  | .mopa _ _ _ _ _ => true
  | .mops _ _ _ _ _ => true
  | .mopan _ _ _ _ _ => true
  | .mprom _ => true
  | .mzero _ => true
  | .mma16 _ _ _ _ _ _ => true
  | .mma16s _ _ _ _ _ _ _ _ => true
  | .trdv _ _ _ _ => true
  | .trdc _ _ _ _ => true
  | .twrv _ _ _ _ => true
  | .twrc _ _ _ _ => true
  | .tst _ _ _ _ _ => true
  | .tstx _ _ _ _ _ => true
  | .tld _ _ _ _ _ => true
  | .talloc _ _ => true
  | .tfree _ => true
  | .tsave _ _ => true
  | .trest _ _ => true
  | .cpy _ _ _ _ _ _ _ n => decide (n.toNat < 2)
  | .cpyx _ _ _ _ _ _ _ n => decide (n.toNat < 2)
  | .cpym _ _ _ _ _ _ _ n _ => decide (n.toNat < 2)
  | .pub _ _ s => scopeOk s
  | .dec _ _ n _ => decide (n.toNat < 2)
  | .decst _ _ => true
  | .fetchGrant _ => true
  | .instructionLineFill _ _ => true
  | .loadResponse _ _ => true
  | .storeVisible _ _ => true
  | .amoAtHome _ _ => true
  | .walkComplete _ _ => true
  | .faultQueueHeadAdvance _ => true
  | .faultResolve _ _ => true
  | .yieldWake _ => true
  | .yieldwWatchRegistration _ => true
  | .yieldwTimeout _ => true
  | .vectorChecksEnd _ => true
  | .laneGroupBind _ => true
  | .vectorChunkResult _ _ _ => true
  | .wholeOperandComplete _ _ _ => true
  | .matrixUnitStart _ => true
  | .tileCommandComplete _ => true
  | .copyStart _ => true
  | .copyBeatArrival _ _ _ => true
  | .copyComplete _ _ => true
  | .engineBarrierArrival _ _ => true
  | .decJobStart _ _ => true
  | .decFrameComplete _ _ _ => true
  | .feRequestResend _ => true
  | .launchQueued _ => true
  | .dispatch _ => true
  | .placementPrepared _ => true
  | .commitStart _ => true
  | .commitPhase2End => true
  | .successorWalkStep _ => true
  | .abortDiscardEnd _ => true
  | .draftEscalation _ => true
  | .draftFold _ => true
  | .kernelEntryRelease _ => true
  | .watermarkStallEnd _ _ _ => true
  | .partitionSwitchDecision _ => true
  | .bell _ => true
  | .saveUnitComplete _ _ => true
  | .restoreUnitComplete _ _ => true
  | .resumeBell _ => true
  | .killArrival _ _ => true
  | .taskRecordTake _ => true
  | .queueMap _ => true
  | .queueFetchArrival _ => true
  | .queueQuantumEnd _ => true
  | .hostQueueControlSnoop _ _ => true
  | .hostQueuePciePoll _ => true
  | .migrationEntry _ => true
  | .migrationStep _ => true
  | .migrationComplete _ => true
  | .bankIdleTimerExpiry _ _ => true
  | .bankRefresh _ _ => true
  | .uncorrectableError _ => true
  | .selfTestComplete _ _ => true
  | .linkTrainingEnd _ _ => true
  | .linkIdleTimeout _ => true
  | .linkManagementReset _ => true
  | .syncExchangeTimer _ => true
  | .sync _ => true
  | .followUp _ => true
  | .delayRequest _ => true
  | .delayResponse _ => true
  | .syncExchangeMissed _ => true
  | .hostMemoryRequest _ _ _ => true
  | .peerRequest _ _ => true
  | .eventRingHeadMove _ => true
  | .eventRingSetup _ _ => true
  | .spdmMeasurement _ => true
  | .powerUp _ => true
  | .rcstateSeal => true
  | .sealComplete => true
  | .pcselWrite _ _ => true
  | .pcReductionComplete _ => true
  | .debugOwn _ => true
  | .debugRelease _ => true
  | .debugStop _ => true
  | .debugResume _ => true
  | .debugRead _ _ => true
  | .debugWrite _ _ _ => true
  | .debugStep _ _ => true
  | .debugHoldchild _ _ => true
  | .illegalWord _ _ => true
  | .fetchFaultIssue _ => true
  | .correctedError _ => true
  | .debuggerKernelRelease _ => true
  | .hostLineSnoop _ _ => true
  | .residencyMigrationStart _ => true
  | .powerOff => true

end Sys2Proof
end

