-- ==== Sys2Proof/Decode.lean ====
section
/-! DEFINITION. The decoder, total on any words and bytes, rejecting by name, and the encoder, both written from the
field tables of 03_encoding R65-R78 and of the instruction descriptions. A word is a Nat below 2^32; bit fields are read
by division. -/

namespace Sys2Proof

/-- Why a word is not an instruction (03_encoding R78). -/
inductive Reject where
  | unassigned      -- an unassigned major, selector or code
  | reservedField   -- a nonzero reserved field
  | tooShort        -- fewer bytes than the instruction has
deriving DecidableEq, Repr

/-- The n bits of w from bit lo, as a number. -/
def fld (w lo n : Nat) : Nat := w / 2 ^ lo % 2 ^ n

/-- The n bits of w from bit lo, as a field. -/
def bits (w lo n : Nat) : BitVec n := BitVec.ofNat n (w / 2 ^ lo)

/-- A field placed at bit lo. -/
def put {n : Nat} (b : BitVec n) (lo : Nat) : Nat := b.toNat * 2 ^ lo

/-- Accept an instruction whose reserved fields are zero and whose codes are assigned. -/
def accept (fieldsZero : Bool) (i : Instr) : Except Reject Instr :=
  if fieldsZero then (if i.wellFormed then .ok i else .error .unassigned) else .error .reservedField

/-- Major 0x01. -/
def decodeInt (w : Nat) : Except Reject Instr :=
  match fld w 5 6 with
  | 0 => accept (decide (fld w 1 4 = 0)) (.add (bits w 21 5) (bits w 16 5) (bits w 11 5) (bits w 0 1))
  | 1 => accept (decide (fld w 1 4 = 0)) (.sub (bits w 21 5) (bits w 16 5) (bits w 11 5) (bits w 0 1))
  | 2 => accept (decide (fld w 0 5 = 0)) (.and (bits w 21 5) (bits w 16 5) (bits w 11 5))
  | 3 => accept (decide (fld w 0 5 = 0)) (.or (bits w 21 5) (bits w 16 5) (bits w 11 5))
  | 4 => accept (decide (fld w 0 5 = 0)) (.xor (bits w 21 5) (bits w 16 5) (bits w 11 5))
  | 5 => accept (decide (fld w 1 4 = 0)) (.sll (bits w 21 5) (bits w 16 5) (bits w 11 5) (bits w 0 1))
  | 6 => accept (decide (fld w 1 4 = 0)) (.srl (bits w 21 5) (bits w 16 5) (bits w 11 5) (bits w 0 1))
  | 7 => accept (decide (fld w 1 4 = 0)) (.sra (bits w 21 5) (bits w 16 5) (bits w 11 5) (bits w 0 1))
  | 8 => accept (decide (fld w 0 5 = 0)) (.slt (bits w 21 5) (bits w 16 5) (bits w 11 5))
  | 9 => accept (decide (fld w 0 5 = 0)) (.sltu (bits w 21 5) (bits w 16 5) (bits w 11 5))
  | 10 => accept (decide (fld w 0 5 = 0)) (.min (bits w 21 5) (bits w 16 5) (bits w 11 5))
  | 11 => accept (decide (fld w 0 5 = 0)) (.max (bits w 21 5) (bits w 16 5) (bits w 11 5))
  | 12 => accept (decide (fld w 0 5 = 0)) (.minu (bits w 21 5) (bits w 16 5) (bits w 11 5))
  | 13 => accept (decide (fld w 0 5 = 0)) (.maxu (bits w 21 5) (bits w 16 5) (bits w 11 5))
  | 14 => accept (decide (fld w 1 4 = 0)) (.mul (bits w 21 5) (bits w 16 5) (bits w 11 5) (bits w 0 1))
  | 15 => accept (decide (fld w 0 5 = 0)) (.mulh (bits w 21 5) (bits w 16 5) (bits w 11 5))
  | 16 => accept (decide (fld w 0 5 = 0)) (.mulhu (bits w 21 5) (bits w 16 5) (bits w 11 5))
  | 17 => accept (decide (fld w 1 4 = 0)) (.div (bits w 21 5) (bits w 16 5) (bits w 11 5) (bits w 0 1))
  | 18 => accept (decide (fld w 1 4 = 0)) (.divu (bits w 21 5) (bits w 16 5) (bits w 11 5) (bits w 0 1))
  | 19 => accept (decide (fld w 1 4 = 0)) (.rem (bits w 21 5) (bits w 16 5) (bits w 11 5) (bits w 0 1))
  | 20 => accept (decide (fld w 1 4 = 0)) (.remu (bits w 21 5) (bits w 16 5) (bits w 11 5) (bits w 0 1))
  | 21 => accept (decide (fld w 11 5 = 0 ∧ fld w 1 4 = 0)) (.clz (bits w 21 5) (bits w 16 5) (bits w 0 1))
  | 22 => accept (decide (fld w 11 5 = 0 ∧ fld w 1 4 = 0)) (.ctz (bits w 21 5) (bits w 16 5) (bits w 0 1))
  | 23 => accept (decide (fld w 11 5 = 0 ∧ fld w 1 4 = 0)) (.popc (bits w 21 5) (bits w 16 5) (bits w 0 1))
  | 24 => accept (decide (fld w 1 4 = 0)) (.rol (bits w 21 5) (bits w 16 5) (bits w 11 5) (bits w 0 1))
  | 25 => accept (decide (fld w 1 4 = 0)) (.ror (bits w 21 5) (bits w 16 5) (bits w 11 5) (bits w 0 1))
  | 26 => accept (decide (fld w 0 5 = 0)) (.andn (bits w 21 5) (bits w 16 5) (bits w 11 5))
  | _ => .error .unassigned

/-- Major 0x02. -/
def decodeAddi (w : Nat) : Except Reject Instr :=
  accept (true) (.addi (bits w 21 5) (bits w 16 5) (bits w 0 16))

/-- Major 0x03. -/
def decodeAndi (w : Nat) : Except Reject Instr :=
  accept (true) (.andi (bits w 21 5) (bits w 16 5) (bits w 0 16))

/-- Major 0x04. -/
def decodeOri (w : Nat) : Except Reject Instr :=
  accept (true) (.ori (bits w 21 5) (bits w 16 5) (bits w 0 16))

/-- Major 0x05. -/
def decodeXori (w : Nat) : Except Reject Instr :=
  accept (true) (.xori (bits w 21 5) (bits w 16 5) (bits w 0 16))

/-- Major 0x06. -/
def decodeSlti (w : Nat) : Except Reject Instr :=
  accept (true) (.slti (bits w 21 5) (bits w 16 5) (bits w 0 16))

/-- Major 0x07. -/
def decodeSltiu (w : Nat) : Except Reject Instr :=
  accept (true) (.sltiu (bits w 21 5) (bits w 16 5) (bits w 0 16))

/-- Major 0x08. -/
def decodeShift (w : Nat) : Except Reject Instr :=
  match fld w 14 2 with
  | 0 => accept (decide (fld w 6 8 = 0)) (.slli (bits w 21 5) (bits w 16 5) (bits w 0 6))
  | 1 => accept (decide (fld w 6 8 = 0)) (.srli (bits w 21 5) (bits w 16 5) (bits w 0 6))
  | 2 => accept (decide (fld w 6 8 = 0)) (.srai (bits w 21 5) (bits w 16 5) (bits w 0 6))
  | 3 => accept (decide (fld w 6 8 = 0)) (.rori (bits w 21 5) (bits w 16 5) (bits w 0 6))
  | _ => .error .unassigned

/-- Major 0x09. -/
def decodeLui (w : Nat) : Except Reject Instr :=
  accept (decide (fld w 16 5 = 0)) (.lui (bits w 21 5) (bits w 0 16))

/-- Major 0x0A. -/
def decodeAddpc (w : Nat) : Except Reject Instr :=
  accept (decide (fld w 16 5 = 0)) (.addpc (bits w 21 5) (bits w 0 16))

/-- Major 0x0B. -/
def decodeLoad (w : Nat) : Except Reject Instr :=
  match fld w 13 3 with
  | 0 => accept (true) (.lb (bits w 21 5) (bits w 16 5) (bits w 0 13))
  | 1 => accept (true) (.lbu (bits w 21 5) (bits w 16 5) (bits w 0 13))
  | 2 => accept (true) (.lh (bits w 21 5) (bits w 16 5) (bits w 0 13))
  | 3 => accept (true) (.lhu (bits w 21 5) (bits w 16 5) (bits w 0 13))
  | 4 => accept (true) (.lw (bits w 21 5) (bits w 16 5) (bits w 0 13))
  | 5 => accept (true) (.lwu (bits w 21 5) (bits w 16 5) (bits w 0 13))
  | 6 => accept (true) (.ld (bits w 21 5) (bits w 16 5) (bits w 0 13))
  | _ => .error .unassigned

/-- Major 0x0C. -/
def decodeStore (w : Nat) : Except Reject Instr :=
  match fld w 13 3 with
  | 0 => accept (true) (.sb (bits w 21 5) (bits w 16 5) (bits w 0 13))
  | 2 => accept (true) (.sh (bits w 21 5) (bits w 16 5) (bits w 0 13))
  | 4 => accept (true) (.sw (bits w 21 5) (bits w 16 5) (bits w 0 13))
  | 6 => accept (true) (.sd (bits w 21 5) (bits w 16 5) (bits w 0 13))
  | _ => .error .unassigned

/-- Major 0x0D. -/
def decodeBranch (w : Nat) : Except Reject Instr :=
  match fld w 13 3 with
  | 0 => accept (true) (.beq (bits w 21 5) (bits w 16 5) (bits w 0 13))
  | 1 => accept (true) (.bne (bits w 21 5) (bits w 16 5) (bits w 0 13))
  | 2 => accept (true) (.blt (bits w 21 5) (bits w 16 5) (bits w 0 13))
  | 3 => accept (true) (.bge (bits w 21 5) (bits w 16 5) (bits w 0 13))
  | 4 => accept (true) (.bltu (bits w 21 5) (bits w 16 5) (bits w 0 13))
  | 5 => accept (true) (.bgeu (bits w 21 5) (bits w 16 5) (bits w 0 13))
  | 6 => accept (decide (fld w 19 7 = 0)) (.bp (bits w 16 3) (bits w 0 13))
  | 7 => accept (decide (fld w 19 7 = 0)) (.bnp (bits w 16 3) (bits w 0 13))
  | _ => .error .unassigned

/-- Major 0x0E. -/
def decodeJal (w : Nat) : Except Reject Instr :=
  accept (true) (.jal (bits w 21 5) (bits w 0 21))

/-- Major 0x0F. -/
def decodeJalr (w : Nat) : Except Reject Instr :=
  accept (true) (.jalr (bits w 21 5) (bits w 16 5) (bits w 0 16))

/-- Major 0x10. -/
def decodePred (w : Nat) : Except Reject Instr :=
  match fld w 5 6 with
  | 0 => accept (decide (fld w 3 2 = 0 ∧ fld w 24 2 = 0)) (.pcmp (bits w 21 3) (bits w 16 5) (bits w 11 5) (bits w 0 3))
  | 1 => accept (decide (fld w 0 5 = 0 ∧ fld w 14 2 = 0 ∧ fld w 19 2 = 0 ∧ fld w 24 2 = 0)) (.pand (bits w 21 3) (bits w 16 3) (bits w 11 3))
  | 2 => accept (decide (fld w 0 5 = 0 ∧ fld w 14 2 = 0 ∧ fld w 19 2 = 0 ∧ fld w 24 2 = 0)) (.por (bits w 21 3) (bits w 16 3) (bits w 11 3))
  | 3 => accept (decide (fld w 0 5 = 0 ∧ fld w 14 2 = 0 ∧ fld w 19 2 = 0 ∧ fld w 24 2 = 0)) (.pxor (bits w 21 3) (bits w 16 3) (bits w 11 3))
  | 4 => accept (decide (fld w 11 5 = 0 ∧ fld w 0 5 = 0 ∧ fld w 19 2 = 0 ∧ fld w 24 2 = 0)) (.pnot (bits w 21 3) (bits w 16 3))
  | 5 => accept (decide (fld w 3 2 = 0)) (.sel (bits w 21 5) (bits w 16 5) (bits w 11 5) (bits w 0 3))
  | 6 =>
    if fld w 0 1 = 1 then
      accept (decide (fld w 11 5 = 0 ∧ fld w 1 4 = 0 ∧ fld w 21 5 = 0)) (.pmovToPredicates (bits w 16 5))
    else accept (decide (fld w 11 10 = 0 ∧ fld w 1 4 = 0)) (.pmovFromPredicates (bits w 21 5))
  | _ => .error .unassigned

/-- Major 0x11. -/
def decodeFp (w : Nat) : Except Reject Instr :=
  match fld w 5 6 with
  | 0 => accept (true) (.fadd (bits w 21 5) (bits w 16 5) (bits w 11 5) (bits w 2 3) (bits w 0 2))
  | 1 => accept (true) (.fsub (bits w 21 5) (bits w 16 5) (bits w 11 5) (bits w 2 3) (bits w 0 2))
  | 2 => accept (true) (.fmul (bits w 21 5) (bits w 16 5) (bits w 11 5) (bits w 2 3) (bits w 0 2))
  | 3 => accept (true) (.fdiv (bits w 21 5) (bits w 16 5) (bits w 11 5) (bits w 2 3) (bits w 0 2))
  | 4 => accept (decide (fld w 11 5 = 0)) (.fsqrt (bits w 21 5) (bits w 16 5) (bits w 2 3) (bits w 0 2))
  | 5 => accept (decide (fld w 2 3 = 0)) (.fmin (bits w 21 5) (bits w 16 5) (bits w 11 5) (bits w 0 2))
  | 6 => accept (decide (fld w 2 3 = 0)) (.fmax (bits w 21 5) (bits w 16 5) (bits w 11 5) (bits w 0 2))
  | 7 => accept (decide (fld w 2 3 = 0)) (.feq (bits w 21 5) (bits w 16 5) (bits w 11 5) (bits w 0 2))
  | 8 => accept (decide (fld w 2 3 = 0)) (.flt (bits w 21 5) (bits w 16 5) (bits w 11 5) (bits w 0 2))
  | 9 => accept (decide (fld w 2 3 = 0)) (.fle (bits w 21 5) (bits w 16 5) (bits w 11 5) (bits w 0 2))
  | 10 => accept (decide (fld w 11 5 = 0 ∧ fld w 2 3 = 0)) (.fclass (bits w 21 5) (bits w 16 5) (bits w 0 2))
  | 11 => accept (decide (fld w 2 3 = 0)) (.fsgnj (bits w 21 5) (bits w 16 5) (bits w 11 5) (bits w 0 2))
  | 12 => accept (decide (fld w 2 3 = 0)) (.fsgnjn (bits w 21 5) (bits w 16 5) (bits w 11 5) (bits w 0 2))
  | 13 => accept (decide (fld w 2 3 = 0)) (.fsgnjx (bits w 21 5) (bits w 16 5) (bits w 11 5) (bits w 0 2))
  | 14 => accept (decide (fld w 13 3 = 0)) (.fcvtFi (bits w 21 5) (bits w 16 5) (bits w 11 2) (bits w 2 3) (bits w 0 2))
  | 15 => accept (decide (fld w 13 3 = 0)) (.fcvtFn (bits w 21 5) (bits w 16 5) (bits w 11 2) (bits w 2 3) (bits w 0 2))
  | 16 => accept (decide (fld w 13 3 = 0)) (.fcvtIf (bits w 21 5) (bits w 16 5) (bits w 11 2) (bits w 2 3) (bits w 0 2))
  | 17 => accept (decide (fld w 13 3 = 0)) (.fcvtNf (bits w 21 5) (bits w 16 5) (bits w 11 2) (bits w 2 3) (bits w 0 2))
  | 18 => accept (decide (fld w 13 3 = 0)) (.fcvtFf (bits w 21 5) (bits w 16 5) (bits w 11 2) (bits w 2 3) (bits w 0 2))
  | _ => .error .unassigned

/-- Major 0x12. -/
def decodeFma (w : Nat) : Except Reject Instr :=
  match fld w 2 2 with
  | 0 => accept (true) (.fma (bits w 21 5) (bits w 16 5) (bits w 11 5) (bits w 6 5) (bits w 4 2) (bits w 0 2))
  | 1 => accept (true) (.fms (bits w 21 5) (bits w 16 5) (bits w 11 5) (bits w 6 5) (bits w 4 2) (bits w 0 2))
  | 2 => accept (true) (.fnma (bits w 21 5) (bits w 16 5) (bits w 11 5) (bits w 6 5) (bits w 4 2) (bits w 0 2))
  | 3 => accept (true) (.fnms (bits w 21 5) (bits w 16 5) (bits w 11 5) (bits w 6 5) (bits w 4 2) (bits w 0 2))
  | _ => .error .unassigned

/-- Major 0x13. -/
def decodeSys (w : Nat) : Except Reject Instr :=
  match fld w 12 4 with
  | 0 => accept (decide (fld w 16 5 = 0)) (.csrr (bits w 21 5) (bits w 0 12))
  | 1 => accept (true) (.csrw (bits w 21 5) (bits w 16 5) (bits w 0 12))
  | 2 => accept (true) (.csrs (bits w 21 5) (bits w 16 5) (bits w 0 12))
  | 3 => accept (true) (.csrc (bits w 21 5) (bits w 16 5) (bits w 0 12))
  | 4 => accept (decide (fld w 16 10 = 0)) (.syscall (bits w 0 12))
  | 5 => accept (decide (fld w 16 10 = 0)) (.brk (bits w 0 12))
  | 6 => accept (decide (fld w 16 10 = 0 ∧ fld w 0 12 = 0)) (.trapret)
  | 7 => accept (decide (fld w 7 2 = 0 ∧ fld w 16 10 = 0)) (.fence (bits w 9 3) (bits w 0 7))
  | 8 => accept (decide (fld w 16 10 = 0)) (.wait (bits w 9 3) (bits w 6 3) (bits w 3 3) (bits w 0 3))
  | 9 => accept (decide (fld w 16 10 = 0 ∧ fld w 0 12 = 0)) (.yield)
  | 10 => accept (true) (.yieldw (bits w 21 5) (bits w 16 5) (bits w 0 12))
  | 11 => accept (decide (fld w 16 10 = 0 ∧ fld w 0 12 = 0)) (.exit)
  | 12 => accept (decide (fld w 16 5 = 0 ∧ fld w 0 12 = 0)) (.time (bits w 21 5))
  | 13 => accept (decide (fld w 16 10 = 0 ∧ fld w 0 12 = 0)) (.isync)
  | _ => .error .unassigned

/-- Major 0x14. -/
def decodeAmo (w : Nat) : Except Reject Instr :=
  match fld w 5 5 with
  | 0 => accept (true) (.amoadd (bits w 21 5) (bits w 16 5) (bits w 11 5) (bits w 10 1) (bits w 3 2) (bits w 0 3))
  | 1 => accept (true) (.amoand (bits w 21 5) (bits w 16 5) (bits w 11 5) (bits w 10 1) (bits w 3 2) (bits w 0 3))
  | 2 => accept (true) (.amoor (bits w 21 5) (bits w 16 5) (bits w 11 5) (bits w 10 1) (bits w 3 2) (bits w 0 3))
  | 3 => accept (true) (.amoxor (bits w 21 5) (bits w 16 5) (bits w 11 5) (bits w 10 1) (bits w 3 2) (bits w 0 3))
  | 4 => accept (true) (.amomin (bits w 21 5) (bits w 16 5) (bits w 11 5) (bits w 10 1) (bits w 3 2) (bits w 0 3))
  | 5 => accept (true) (.amomax (bits w 21 5) (bits w 16 5) (bits w 11 5) (bits w 10 1) (bits w 3 2) (bits w 0 3))
  | 6 => accept (true) (.amominu (bits w 21 5) (bits w 16 5) (bits w 11 5) (bits w 10 1) (bits w 3 2) (bits w 0 3))
  | 7 => accept (true) (.amomaxu (bits w 21 5) (bits w 16 5) (bits w 11 5) (bits w 10 1) (bits w 3 2) (bits w 0 3))
  | 8 => accept (true) (.amoswap (bits w 21 5) (bits w 16 5) (bits w 11 5) (bits w 10 1) (bits w 3 2) (bits w 0 3))
  | 9 => accept (true) (.amocas (bits w 21 5) (bits w 16 5) (bits w 11 5) (bits w 10 1) (bits w 3 2) (bits w 0 3))
  | 10 => accept (decide (fld w 3 2 = 1 ∧ fld w 11 5 = 0)) (.lda (bits w 21 5) (bits w 16 5) (bits w 10 1) (bits w 0 3))
  | 11 => accept (decide (fld w 3 2 = 2 ∧ fld w 21 5 = 0)) (.strel (bits w 16 5) (bits w 11 5) (bits w 10 1) (bits w 0 3))
  | 12 => accept (true) (.amofadd (bits w 21 5) (bits w 16 5) (bits w 11 5) (bits w 10 1) (bits w 3 2) (bits w 0 3))
  | _ => .error .unassigned

/-- Major 0x15. -/
def decodeBar (w : Nat) : Except Reject Instr :=
  match fld w 5 6 with
  | 0 => accept (decide (fld w 3 2 = 0)) (.barinit (bits w 21 5) (bits w 16 5) (bits w 11 5) (bits w 0 3))
  | 1 => accept (decide (fld w 11 5 = 0 ∧ fld w 3 2 = 0)) (.bararr (bits w 21 5) (bits w 16 5) (bits w 0 3))
  | 2 => accept (decide (fld w 3 2 = 0 ∧ fld w 24 2 = 0)) (.bartest (bits w 21 3) (bits w 16 5) (bits w 11 5) (bits w 0 3))
  | 3 => accept (decide (fld w 11 5 = 0 ∧ fld w 3 2 = 0)) (.bardrop (bits w 21 5) (bits w 16 5) (bits w 0 3))
  | 4 => accept (decide (fld w 3 2 = 0 ∧ fld w 24 2 = 0)) (.rdvput (bits w 21 3) (bits w 16 5) (bits w 11 5) (bits w 0 3))
  | 5 => accept (decide (fld w 3 2 = 0 ∧ fld w 14 2 = 0)) (.rdvget (bits w 21 5) (bits w 16 5) (bits w 11 3) (bits w 0 3))
  | _ => .error .unassigned

/-- Major 0x16. -/
def decodeQueue (w : Nat) : Except Reject Instr :=
  match fld w 5 6 with
  | 0 => accept (decide (fld w 0 5 = 0 ∧ fld w 14 2 = 0 ∧ fld w 25 1 = 0)) (.qbind (bits w 21 4) (bits w 16 5) (bits w 11 3))
  | 1 => accept (decide (fld w 11 10 = 0 ∧ fld w 0 5 = 0 ∧ fld w 25 1 = 0)) (.qunbind (bits w 21 4))
  | 2 => accept (decide (fld w 11 5 = 0 ∧ fld w 0 5 = 0 ∧ fld w 25 1 = 0)) (.qpush (bits w 21 4) (bits w 16 5))
  | 3 => accept (decide (fld w 11 5 = 0 ∧ fld w 0 5 = 0 ∧ fld w 20 1 = 0)) (.qpop (bits w 21 5) (bits w 16 4))
  | 4 => accept (decide (fld w 0 5 = 0 ∧ fld w 14 2 = 0 ∧ fld w 25 1 = 0)) (.qpusht (bits w 21 4) (bits w 16 5) (bits w 11 3))
  | 5 => accept (decide (fld w 0 5 = 0 ∧ fld w 14 2 = 0 ∧ fld w 20 1 = 0)) (.qpopt (bits w 21 5) (bits w 16 4) (bits w 11 3))
  | 6 => accept (decide (fld w 11 5 = 0 ∧ fld w 0 5 = 0 ∧ fld w 20 1 = 0)) (.qstat (bits w 21 5) (bits w 16 4))
  | 7 => accept (decide (fld w 0 5 = 0 ∧ fld w 14 2 = 0 ∧ fld w 25 1 = 0)) (.tqpush (bits w 21 4) (bits w 16 5) (bits w 11 3))
  | 8 => accept (decide (fld w 0 5 = 0 ∧ fld w 14 2 = 0 ∧ fld w 25 1 = 0)) (.tqpop (bits w 21 4) (bits w 16 5) (bits w 11 3))
  | _ => .error .unassigned

/-- Major 0x17. -/
def decodeKernel (w : Nat) : Except Reject Instr :=
  match fld w 5 6 with
  | 0 => accept (decide (fld w 11 5 = 0 ∧ fld w 0 5 = 0)) (.launch (bits w 21 5) (bits w 16 5))
  | 1 => accept (decide (fld w 0 5 = 0 ∧ fld w 14 7 = 0)) (.take (bits w 21 5) (bits w 11 3))
  | 2 => accept (decide (fld w 0 5 = 0 ∧ fld w 15 1 = 0 ∧ fld w 21 5 = 0)) (.wmark (bits w 16 5) (bits w 11 4))
  | 3 => accept (decide (fld w 0 5 = 0 ∧ fld w 15 6 = 0)) (.wmread (bits w 21 5) (bits w 11 4))
  | 4 => accept (decide (fld w 11 5 = 0 ∧ fld w 0 5 = 0)) (.tdep (bits w 21 5) (bits w 16 5))
  | 5 => accept (decide (fld w 0 5 = 0)) (.tarm (bits w 21 5) (bits w 16 5) (bits w 11 5))
  | 6 => accept (decide (fld w 11 5 = 0 ∧ fld w 0 5 = 0)) (.kstat (bits w 21 5) (bits w 16 5))
  | 7 => accept (decide (fld w 11 15 = 0 ∧ fld w 0 5 = 0)) (.kabort)
  | 8 =>
    if fld w 0 1 = 1 then
      accept (decide (fld w 11 5 = 0 ∧ fld w 1 4 = 0)) (.kcancelTcb (bits w 21 5) (bits w 16 5))
    else accept (decide (fld w 11 5 = 0 ∧ fld w 1 4 = 0)) (.kcancel (bits w 21 5) (bits w 16 5))
  | _ => .error .unassigned

/-- Major 0x18. -/
def decodeFe (w : Nat) : Except Reject Instr :=
  match fld w 13 3 with
  | 0 =>
    if fld w 12 1 = 1 then
      accept (true) (.ldfTry (bits w 21 5) (bits w 16 5) (bits w 9 3) (bits w 0 9))
    else accept (decide (fld w 9 3 = 0)) (.ldf (bits w 21 5) (bits w 16 5) (bits w 0 9))
  | 1 =>
    if fld w 12 1 = 1 then
      accept (true) (.ldfcTry (bits w 21 5) (bits w 16 5) (bits w 9 3) (bits w 0 9))
    else accept (decide (fld w 9 3 = 0)) (.ldfc (bits w 21 5) (bits w 16 5) (bits w 0 9))
  | 2 =>
    if fld w 12 1 = 1 then
      accept (true) (.stfTry (bits w 21 5) (bits w 16 5) (bits w 9 3) (bits w 0 9))
    else accept (decide (fld w 9 3 = 0)) (.stf (bits w 21 5) (bits w 16 5) (bits w 0 9))
  | 3 =>
    if fld w 12 1 = 1 then
      accept (true) (.stfwTry (bits w 21 5) (bits w 16 5) (bits w 9 3) (bits w 0 9))
    else accept (decide (fld w 9 3 = 0)) (.stfw (bits w 21 5) (bits w 16 5) (bits w 0 9))
  | 4 =>
    if fld w 12 1 = 1 then
      accept (decide (fld w 21 5 = 0)) (.fesetTry (bits w 16 5) (bits w 9 3) (bits w 0 9))
    else accept (decide (fld w 9 3 = 0 ∧ fld w 21 5 = 0)) (.feset (bits w 16 5) (bits w 0 9))
  | 5 =>
    if fld w 12 1 = 1 then
      accept (decide (fld w 21 5 = 0)) (.feclrTry (bits w 16 5) (bits w 9 3) (bits w 0 9))
    else accept (decide (fld w 9 3 = 0 ∧ fld w 21 5 = 0)) (.feclr (bits w 16 5) (bits w 0 9))
  | 6 => accept (decide (fld w 12 1 = 0 ∧ fld w 21 5 = 0)) (.fetest (bits w 16 5) (bits w 9 3) (bits w 0 9))
  | _ => .error .unassigned

/-- Major 0x19. -/
def decodePage (w : Nat) : Except Reject Instr :=
  match fld w 5 6 with
  | 0 => accept (decide (fld w 0 5 = 0 ∧ fld w 21 5 = 0)) (.tlbinv (bits w 16 5) (bits w 11 5))
  | 1 => accept (decide (fld w 0 5 = 0 ∧ fld w 16 10 = 0)) (.tlbinva (bits w 11 5))
  | 2 => accept (decide (fld w 0 5 = 0)) (.pgprobe (bits w 21 5) (bits w 16 5) (bits w 11 5))
  | 3 => accept (decide (fld w 11 5 = 0 ∧ fld w 0 5 = 0)) (.migrate (bits w 21 5) (bits w 16 5))
  | _ => .error .unassigned

/-- Major 0x20. -/
def decodeVcfg (w : Nat) : Except Reject Instr :=
  match fld w 5 6 with
  | 0 => accept (decide (fld w 11 10 = 0 ∧ fld w 3 2 = 0)) (.vcfg (bits w 21 5) (bits w 0 3))
  | 1 => accept (true) (.setvl (bits w 21 5) (bits w 16 5) (bits w 11 5) (bits w 3 2) (bits w 1 2) (bits w 0 1))
  | _ => .error .unassigned

/-- Major 0x21. -/
def decodeVload (w : Nat) : Except Reject Instr :=
  match fld w 3 3 with
  | 0 => accept (decide (fld w 0 3 = 0 ∧ fld w 9 6 = 0)) (.vld (bits w 20 6) (bits w 15 5) (bits w 6 3))
  | 1 => accept (decide (fld w 0 3 = 0 ∧ fld w 14 1 = 0)) (.vlds (bits w 20 6) (bits w 15 5) (bits w 9 5) (bits w 6 3))
  | 2 => accept (decide (fld w 0 3 = 0)) (.vldx (bits w 20 6) (bits w 15 5) (bits w 9 6) (bits w 6 3))
  | 3 => accept (decide (fld w 9 6 = 0)) (.vlseg (bits w 20 6) (bits w 15 5) (bits w 6 3) (bits w 0 3))
  | 4 => accept (decide (fld w 0 3 = 0 ∧ fld w 9 6 = 0)) (.vldff (bits w 20 6) (bits w 15 5) (bits w 6 3))
  | 5 => accept (decide (fld w 0 3 = 0 ∧ fld w 14 1 = 0)) (.vldp (bits w 20 6) (bits w 15 5) (bits w 9 5) (bits w 6 3))
  | _ => .error .unassigned

/-- Major 0x22. -/
def decodeVstore (w : Nat) : Except Reject Instr :=
  match fld w 3 3 with
  | 0 => accept (decide (fld w 0 3 = 0 ∧ fld w 9 6 = 0)) (.vst (bits w 20 6) (bits w 15 5) (bits w 6 3))
  | 1 => accept (decide (fld w 0 3 = 0 ∧ fld w 14 1 = 0)) (.vsts (bits w 20 6) (bits w 15 5) (bits w 9 5) (bits w 6 3))
  | 2 => accept (decide (fld w 0 3 = 0)) (.vstx (bits w 20 6) (bits w 15 5) (bits w 9 6) (bits w 6 3))
  | 3 => accept (decide (fld w 9 6 = 0)) (.vsseg (bits w 20 6) (bits w 15 5) (bits w 6 3) (bits w 0 3))
  | 4 => accept (decide (fld w 0 3 = 0 ∧ fld w 14 1 = 0)) (.vstp (bits w 20 6) (bits w 15 5) (bits w 9 5) (bits w 6 3))
  | _ => .error .unassigned

/-- Major 0x23. -/
def decodeVint (w : Nat) : Except Reject Instr :=
  match fld w 0 5 with
  | 0 => accept (true) (.vadd (bits w 20 6) (bits w 14 6) (bits w 8 6) (bits w 5 3))
  | 1 => accept (true) (.vsub (bits w 20 6) (bits w 14 6) (bits w 8 6) (bits w 5 3))
  | 2 => accept (true) (.vmul (bits w 20 6) (bits w 14 6) (bits w 8 6) (bits w 5 3))
  | 3 => accept (true) (.vmulh (bits w 20 6) (bits w 14 6) (bits w 8 6) (bits w 5 3))
  | 4 => accept (true) (.vmin (bits w 20 6) (bits w 14 6) (bits w 8 6) (bits w 5 3))
  | 5 => accept (true) (.vmax (bits w 20 6) (bits w 14 6) (bits w 8 6) (bits w 5 3))
  | 6 => accept (true) (.vminu (bits w 20 6) (bits w 14 6) (bits w 8 6) (bits w 5 3))
  | 7 => accept (true) (.vmaxu (bits w 20 6) (bits w 14 6) (bits w 8 6) (bits w 5 3))
  | 8 => accept (true) (.vand (bits w 20 6) (bits w 14 6) (bits w 8 6) (bits w 5 3))
  | 9 => accept (true) (.vor (bits w 20 6) (bits w 14 6) (bits w 8 6) (bits w 5 3))
  | 10 => accept (true) (.vxor (bits w 20 6) (bits w 14 6) (bits w 8 6) (bits w 5 3))
  | 11 => accept (true) (.vsll (bits w 20 6) (bits w 14 6) (bits w 8 6) (bits w 5 3))
  | 12 => accept (true) (.vsrl (bits w 20 6) (bits w 14 6) (bits w 8 6) (bits w 5 3))
  | 13 => accept (true) (.vsra (bits w 20 6) (bits w 14 6) (bits w 8 6) (bits w 5 3))
  | 14 => accept (true) (.vsadd (bits w 20 6) (bits w 14 6) (bits w 8 6) (bits w 5 3))
  | 15 => accept (true) (.vssub (bits w 20 6) (bits w 14 6) (bits w 8 6) (bits w 5 3))
  | 16 => accept (true) (.vsaddu (bits w 20 6) (bits w 14 6) (bits w 8 6) (bits w 5 3))
  | 17 => accept (true) (.vssubu (bits w 20 6) (bits w 14 6) (bits w 8 6) (bits w 5 3))
  | 18 => accept (true) (.vmacc (bits w 20 6) (bits w 14 6) (bits w 8 6) (bits w 5 3))
  | 19 => accept (true) (.vdot4 (bits w 20 6) (bits w 14 6) (bits w 8 6) (bits w 5 3))
  | _ => .error .unassigned

/-- Major 0x24. -/
def decodeVfp (w : Nat) : Except Reject Instr :=
  match fld w 0 5 with
  | 0 => accept (true) (.vfadd (bits w 20 6) (bits w 14 6) (bits w 8 6) (bits w 5 3))
  | 1 => accept (true) (.vfsub (bits w 20 6) (bits w 14 6) (bits w 8 6) (bits w 5 3))
  | 2 => accept (true) (.vfmul (bits w 20 6) (bits w 14 6) (bits w 8 6) (bits w 5 3))
  | 3 => accept (true) (.vfma (bits w 20 6) (bits w 14 6) (bits w 8 6) (bits w 5 3))
  | 4 => accept (true) (.vfms (bits w 20 6) (bits w 14 6) (bits w 8 6) (bits w 5 3))
  | 5 => accept (true) (.vfnma (bits w 20 6) (bits w 14 6) (bits w 8 6) (bits w 5 3))
  | 6 => accept (true) (.vfdiv (bits w 20 6) (bits w 14 6) (bits w 8 6) (bits w 5 3))
  | 7 => accept (decide (fld w 8 6 = 0)) (.vfsqrt (bits w 20 6) (bits w 14 6) (bits w 5 3))
  | 8 => accept (true) (.vfmin (bits w 20 6) (bits w 14 6) (bits w 8 6) (bits w 5 3))
  | 9 => accept (true) (.vfmax (bits w 20 6) (bits w 14 6) (bits w 8 6) (bits w 5 3))
  | 10 => accept (true) (.vfsgnj (bits w 20 6) (bits w 14 6) (bits w 8 6) (bits w 5 3))
  | 11 => accept (true) (.vfsgnjn (bits w 20 6) (bits w 14 6) (bits w 8 6) (bits w 5 3))
  | _ => .error .unassigned

/-- Major 0x25. -/
def decodeVmask (w : Nat) : Except Reject Instr :=
  match fld w 0 5 with
  | 0 => accept (true) (.vcmp (bits w 23 3) (bits w 20 3) (bits w 14 6) (bits w 8 6) (bits w 5 3))
  | 1 => accept (true) (.vfeq (bits w 23 3) (bits w 20 3) (bits w 14 6) (bits w 8 6) (bits w 5 3))
  | 2 => accept (decide (fld w 5 3 = 0 ∧ fld w 11 3 = 0 ∧ fld w 17 3 = 0 ∧ fld w 23 3 = 0)) (.mand (bits w 20 3) (bits w 14 3) (bits w 8 3))
  | 3 => accept (decide (fld w 5 3 = 0 ∧ fld w 11 3 = 0 ∧ fld w 17 3 = 0 ∧ fld w 23 3 = 0)) (.mor (bits w 20 3) (bits w 14 3) (bits w 8 3))
  | 4 => accept (decide (fld w 5 3 = 0 ∧ fld w 11 3 = 0 ∧ fld w 17 3 = 0 ∧ fld w 23 3 = 0)) (.mxor (bits w 20 3) (bits w 14 3) (bits w 8 3))
  | 5 => accept (decide (fld w 5 3 = 0 ∧ fld w 11 3 = 0 ∧ fld w 17 3 = 0 ∧ fld w 23 3 = 0)) (.mandn (bits w 20 3) (bits w 14 3) (bits w 8 3))
  | 6 => accept (decide (fld w 8 6 = 0 ∧ fld w 17 3 = 0 ∧ fld w 25 1 = 0)) (.mpopc (bits w 20 5) (bits w 14 3) (bits w 5 3))
  | 7 => accept (decide (fld w 8 6 = 0 ∧ fld w 17 3 = 0 ∧ fld w 25 1 = 0)) (.mfirst (bits w 20 5) (bits w 14 3) (bits w 5 3))
  | 8 => accept (decide (fld w 10 4 = 0 ∧ fld w 17 3 = 0 ∧ fld w 23 3 = 0)) (.mset (bits w 20 3) (bits w 14 3) (bits w 8 2) (bits w 5 3))
  | 9 => accept (true) (.vmerge (bits w 20 6) (bits w 14 6) (bits w 8 6) (bits w 5 3))
  | _ => .error .unassigned

/-- Major 0x26. -/
def decodeVperm (w : Nat) : Except Reject Instr :=
  match fld w 0 5 with
  | 0 => accept (decide (fld w 8 6 = 0)) (.vmv (bits w 20 6) (bits w 14 6) (bits w 5 3))
  | 1 => accept (decide (fld w 8 6 = 0 ∧ fld w 19 1 = 0)) (.vmvs (bits w 20 6) (bits w 14 5) (bits w 5 3))
  | 2 => accept (decide (fld w 5 3 = 0 ∧ fld w 13 1 = 0 ∧ fld w 25 1 = 0)) (.vext (bits w 20 5) (bits w 14 6) (bits w 8 5))
  | 3 => accept (decide (fld w 5 3 = 0 ∧ fld w 13 1 = 0 ∧ fld w 19 1 = 0)) (.vins (bits w 20 6) (bits w 14 5) (bits w 8 5))
  | 4 => accept (decide (fld w 13 1 = 0)) (.vslup (bits w 20 6) (bits w 14 6) (bits w 8 5) (bits w 5 3))
  | 5 => accept (decide (fld w 13 1 = 0)) (.vsldn (bits w 20 6) (bits w 14 6) (bits w 8 5) (bits w 5 3))
  | 6 => accept (true) (.vgath (bits w 20 6) (bits w 14 6) (bits w 8 6) (bits w 5 3))
  | 7 => accept (decide (fld w 8 6 = 0)) (.vcomp (bits w 20 6) (bits w 14 6) (bits w 5 3))
  | 8 => accept (decide (fld w 8 6 = 0 ∧ fld w 17 3 = 0)) (.viota (bits w 20 6) (bits w 14 3) (bits w 5 3))
  | _ => .error .unassigned

/-- Major 0x27. -/
def decodeVred (w : Nat) : Except Reject Instr :=
  match fld w 0 5 with
  | 0 => accept (true) (.vredsum (bits w 20 6) (bits w 14 6) (bits w 8 6) (bits w 5 3))
  | 1 => accept (true) (.vredmin (bits w 20 6) (bits w 14 6) (bits w 8 6) (bits w 5 3))
  | 2 => accept (true) (.vredmax (bits w 20 6) (bits w 14 6) (bits w 8 6) (bits w 5 3))
  | 3 => accept (true) (.vredand (bits w 20 6) (bits w 14 6) (bits w 8 6) (bits w 5 3))
  | 4 => accept (true) (.vredor (bits w 20 6) (bits w 14 6) (bits w 8 6) (bits w 5 3))
  | 5 => accept (true) (.vfredsum (bits w 20 6) (bits w 14 6) (bits w 8 6) (bits w 5 3))
  | 6 => accept (true) (.vfredmax (bits w 20 6) (bits w 14 6) (bits w 8 6) (bits w 5 3))
  | 7 => accept (true) (.vfredmin (bits w 20 6) (bits w 14 6) (bits w 8 6) (bits w 5 3))
  | _ => .error .unassigned

/-- Major 0x28. -/
def decodeVcvt (w : Nat) : Except Reject Instr :=
  match fld w 0 5 with
  | 0 => accept (decide (fld w 13 1 = 0)) (.vcvt (bits w 20 6) (bits w 14 6) (bits w 8 5) (bits w 5 3))
  | 1 => accept (decide (fld w 5 3 = 0 ∧ fld w 13 1 = 0)) (.vqnt (bits w 20 6) (bits w 14 6) (bits w 8 5))
  | 2 => accept (decide (fld w 13 1 = 0)) (.vdqnt (bits w 20 6) (bits w 14 6) (bits w 8 5) (bits w 5 3))
  | 3 => accept (decide (fld w 8 6 = 0)) (.vrot (bits w 20 6) (bits w 14 6) (bits w 5 3))
  | 4 => accept (decide (fld w 11 3 = 0)) (.vplx (bits w 20 6) (bits w 14 6) (bits w 8 3) (bits w 5 3))
  | 5 => accept (decide (fld w 11 3 = 0)) (.vpli (bits w 20 6) (bits w 14 6) (bits w 8 3) (bits w 5 3))
  | _ => .error .unassigned

/-- Major 0x30. -/
def decodeTop (w : Nat) : Except Reject Instr :=
  match fld w 0 4 with
  | 0 => accept (true) (.mopa (bits w 22 4) (bits w 16 6) (bits w 10 6) (bits w 7 3) (bits w 4 3))
  | 1 => accept (true) (.mops (bits w 22 4) (bits w 16 6) (bits w 10 6) (bits w 7 3) (bits w 4 3))
  | 2 => accept (true) (.mopan (bits w 22 4) (bits w 16 6) (bits w 10 6) (bits w 7 3) (bits w 4 3))
  | 3 => accept (decide (fld w 4 18 = 0)) (.mprom (bits w 22 4))
  | 4 => accept (decide (fld w 4 18 = 0)) (.mzero (bits w 22 4))
  | _ => .error .unassigned

/-- Major 0x31. -/
noncomputable def decodeTmove (w : Nat) : Except Reject Instr :=
  match fld w 0 4 with
  | 0 => accept (decide (fld w 7 3 = 0 ∧ fld w 14 2 = 0)) (.trdv (bits w 22 4) (bits w 16 6) (bits w 10 4) (bits w 4 3))
  | 1 => accept (decide (fld w 4 3 = 0 ∧ fld w 14 2 = 0)) (.trdc (bits w 22 4) (bits w 16 6) (bits w 10 4) (bits w 7 3))
  | 2 => accept (decide (fld w 7 3 = 0 ∧ fld w 14 2 = 0)) (.twrv (bits w 22 4) (bits w 16 6) (bits w 10 4) (bits w 4 3))
  | 3 => accept (decide (fld w 4 3 = 0 ∧ fld w 14 2 = 0)) (.twrc (bits w 22 4) (bits w 16 6) (bits w 10 4) (bits w 7 3))
  | 4 => accept (decide (fld w 15 1 = 0 ∧ fld w 21 1 = 0)) (.tst (bits w 22 4) (bits w 16 5) (bits w 10 5) (bits w 7 3) (bits w 4 3))
  | 5 => accept (decide (fld w 21 1 = 0)) (.tstx (bits w 22 4) (bits w 16 5) (bits w 10 6) (bits w 7 3) (bits w 4 3))
  | 6 => accept (decide (fld w 15 1 = 0 ∧ fld w 21 1 = 0)) (.tld (bits w 22 4) (bits w 16 5) (bits w 10 5) (bits w 7 3) (bits w 4 3))
  | _ => .error .unassigned

/-- Major 0x32. -/
noncomputable def decodeTctrl (w : Nat) : Except Reject Instr :=
  match fld w 0 4 with
  | 0 => accept (decide (fld w 4 12 = 0 ∧ fld w 19 3 = 0)) (.talloc (bits w 22 4) (bits w 16 3))
  | 1 => accept (decide (fld w 4 18 = 0)) (.tfree (bits w 22 4))
  | 2 => accept (decide (fld w 4 12 = 0 ∧ fld w 21 1 = 0)) (.tsave (bits w 22 4) (bits w 16 5))
  | 3 => accept (decide (fld w 4 12 = 0 ∧ fld w 21 1 = 0)) (.trest (bits w 22 4) (bits w 16 5))
  | _ => .error .unassigned

/-- Major 0x3C, LV (R67, R206): the second word x names the base class; VSLUP and VSLDN take imm10. -/
def decodeLv (w x : Nat) : Except Reject Instr :=
  if fld x 29 3 = 3 ∧ fld w 0 5 = 4 then accept (decide (fld w 13 1 = 0 ∧ fld x 10 19 = 0)) (.vslupImm (bits w 20 6) (bits w 14 6) (bits w 8 5) (bits w 5 3) (bits x 0 10))
  else if fld x 29 3 = 3 ∧ fld w 0 5 = 5 then accept (decide (fld w 13 1 = 0 ∧ fld x 10 19 = 0)) (.vsldnImm (bits w 20 6) (bits w 14 6) (bits w 8 5) (bits w 5 3) (bits x 0 10))
  else accept (decide (fld x 0 10 = 0)) (.lvLongForm (bits w 20 6) (bits w 14 6) (bits w 8 6) (bits w 5 3) (bits w 0 5) (bits x 29 3) (bits x 27 2) (bits x 16 11) (bits x 15 1) (bits x 10 5))

/-- Major 0x3D, LI (R68). -/
def decodeLi (w x : Nat) : Except Reject Instr :=
  match fld w 16 5 with
  | 0 => accept (decide (fld w 0 16 = 0)) (.liw (bits w 21 5) (bits x 0 32))
  | 1 => accept (decide (fld w 0 16 = 0)) (.lih (bits w 21 5) (bits x 0 32))
  | _ => .error .unassigned

/-- Major 0x3E, LC (R69, R267, R269, R273). -/
noncomputable def decodeLc (w x : Nat) : Except Reject Instr :=
  match fld w 22 4 with
  | 0 => accept (decide (fld w 0 2 = 0 ∧ fld x 0 23 = 0)) (.cpy (bits w 17 5) (bits w 12 5) (bits w 7 5) (bits w 2 5) (bits x 31 1) (bits x 30 1) (bits x 25 5) (bits x 23 2))
  | 1 => accept (decide (fld w 0 2 = 0 ∧ fld x 0 23 = 0)) (.cpyx (bits w 17 5) (bits w 12 5) (bits w 7 5) (bits w 2 5) (bits x 31 1) (bits x 30 1) (bits x 25 5) (bits x 23 2))
  | 2 => accept (decide (fld w 0 2 = 0 ∧ fld x 0 18 = 0)) (.cpym (bits w 17 5) (bits w 12 5) (bits w 7 5) (bits w 2 5) (bits x 31 1) (bits x 30 1) (bits x 25 5) (bits x 23 2) (bits x 18 5))
  | 3 => accept (decide (fld w 0 7 = 0 ∧ fld w 12 5 = 0 ∧ fld x 3 29 = 0)) (.pub (bits w 17 5) (bits w 7 5) (bits x 0 3))
  | 4 => accept (decide (fld w 0 12 = 0 ∧ fld x 0 21 = 0 ∧ fld x 22 1 = 0 ∧ fld x 25 7 = 0)) (.dec (bits w 17 5) (bits w 12 5) (bits x 23 2) (bits x 21 1))
  | 5 => accept (decide (fld w 0 12 = 0 ∧ fld x 0 32 = 0)) (.decst (bits w 17 5) (bits w 12 5))
  | _ => .error .unassigned

/-- Major 0x3F, LT (R70). -/
noncomputable def decodeLt (w x : Nat) : Except Reject Instr :=
  match fld w 0 4 with
  | 0 => accept (decide (fld x 0 29 = 0)) (.mma16 (bits w 22 4) (bits w 16 6) (bits w 10 6) (bits w 7 3) (bits w 4 3) (bits x 29 3))
  | 1 => accept (decide (fld x 0 17 = 0)) (.mma16s (bits w 22 4) (bits w 16 6) (bits w 10 6) (bits w 7 3) (bits w 4 3) (bits x 29 3) (bits x 23 6) (bits x 17 6))
  | _ => .error .unassigned

/-- The instruction classes of two words: majors 0x3C to 0x3F (R64). -/
def isLong (w : Nat) : Bool := decide (0x3C ≤ fld w 26 6)

/-- The instruction read from a first word w and, for the long classes, a second word x (R71). -/
noncomputable def decodeWords (w x : Nat) : Except Reject Instr :=
  match fld w 26 6 with
  | 0x01 => decodeInt w
  | 0x02 => decodeAddi w
  | 0x03 => decodeAndi w
  | 0x04 => decodeOri w
  | 0x05 => decodeXori w
  | 0x06 => decodeSlti w
  | 0x07 => decodeSltiu w
  | 0x08 => decodeShift w
  | 0x09 => decodeLui w
  | 0x0A => decodeAddpc w
  | 0x0B => decodeLoad w
  | 0x0C => decodeStore w
  | 0x0D => decodeBranch w
  | 0x0E => decodeJal w
  | 0x0F => decodeJalr w
  | 0x10 => decodePred w
  | 0x11 => decodeFp w
  | 0x12 => decodeFma w
  | 0x13 => decodeSys w
  | 0x14 => decodeAmo w
  | 0x15 => decodeBar w
  | 0x16 => decodeQueue w
  | 0x17 => decodeKernel w
  | 0x18 => decodeFe w
  | 0x19 => decodePage w
  | 0x20 => decodeVcfg w
  | 0x21 => decodeVload w
  | 0x22 => decodeVstore w
  | 0x23 => decodeVint w
  | 0x24 => decodeVfp w
  | 0x25 => decodeVmask w
  | 0x26 => decodeVperm w
  | 0x27 => decodeVred w
  | 0x28 => decodeVcvt w
  | 0x30 => decodeTop w
  | 0x31 => decodeTmove w
  | 0x32 => decodeTctrl w
  | 0x3C => decodeLv w x
  | 0x3D => decodeLi w x
  | 0x3E => decodeLc w x
  | 0x3F => decodeLt w x
  | _ => .error .unassigned

/-- A little-endian number of the bytes given (00_scope R7). -/
def leNat : List Byte → Nat
  | [] => 0
  | b :: bs => b.toNat + 256 * leNat bs

/-- The n little-endian bytes of a number (00_scope R7). -/
def leBytes : Nat → Nat → List Byte
  | 0, _ => []
  | n + 1, x => BitVec.ofNat 8 x :: leBytes n (x / 256)

/-- Read one instruction from the front of a byte string; answers the instruction and how many bytes it took. -/
noncomputable def decodeBytes (bs : List Byte) : Except Reject (Instr × Nat) :=
  if bs.length < 4 then .error .tooShort
  else
    let w := leNat (bs.take 4)
    if isLong w then
      if bs.length < 8 then .error .tooShort
      else (decodeWords w (leNat ((bs.drop 4).take 4))).map (fun i => (i, 8))
    else (decodeWords w 0).map (fun i => (i, 4))

/-- The instruction that this decoder reads from a table word of nbits bits, numbered as the opcode table numbers them;
bits above nbits are zero. -/
noncomputable def decodeTableWord (nbits w : Nat) : Option Instr :=
  match decodeBytes (leBytes 8 (w % 2 ^ nbits)) with
  | .ok (i, _) => some i
  | .error _ => none

/-- The words of a well-formed instruction; an event has none (R65-R76). -/
def encode : Instr → Option (Nat × Option Nat)
  | .add d a b w => some (0x04000000 + put d 21 + put a 16 + put b 11 + put w 0, none)
  | .sub d a b w => some (0x04000020 + put d 21 + put a 16 + put b 11 + put w 0, none)
  | .and d a b => some (0x04000040 + put d 21 + put a 16 + put b 11, none)
  | .or d a b => some (0x04000060 + put d 21 + put a 16 + put b 11, none)
  | .xor d a b => some (0x04000080 + put d 21 + put a 16 + put b 11, none)
  | .sll d a b w => some (0x040000A0 + put d 21 + put a 16 + put b 11 + put w 0, none)
  | .srl d a b w => some (0x040000C0 + put d 21 + put a 16 + put b 11 + put w 0, none)
  | .sra d a b w => some (0x040000E0 + put d 21 + put a 16 + put b 11 + put w 0, none)
  | .slt d a b => some (0x04000100 + put d 21 + put a 16 + put b 11, none)
  | .sltu d a b => some (0x04000120 + put d 21 + put a 16 + put b 11, none)
  | .min d a b => some (0x04000140 + put d 21 + put a 16 + put b 11, none)
  | .max d a b => some (0x04000160 + put d 21 + put a 16 + put b 11, none)
  | .minu d a b => some (0x04000180 + put d 21 + put a 16 + put b 11, none)
  | .maxu d a b => some (0x040001A0 + put d 21 + put a 16 + put b 11, none)
  | .mul d a b w => some (0x040001C0 + put d 21 + put a 16 + put b 11 + put w 0, none)
  | .mulh d a b => some (0x040001E0 + put d 21 + put a 16 + put b 11, none)
  | .mulhu d a b => some (0x04000200 + put d 21 + put a 16 + put b 11, none)
  | .div d a b w => some (0x04000220 + put d 21 + put a 16 + put b 11 + put w 0, none)
  | .divu d a b w => some (0x04000240 + put d 21 + put a 16 + put b 11 + put w 0, none)
  | .rem d a b w => some (0x04000260 + put d 21 + put a 16 + put b 11 + put w 0, none)
  | .remu d a b w => some (0x04000280 + put d 21 + put a 16 + put b 11 + put w 0, none)
  | .clz d a w => some (0x040002A0 + put d 21 + put a 16 + put w 0, none)
  | .ctz d a w => some (0x040002C0 + put d 21 + put a 16 + put w 0, none)
  | .popc d a w => some (0x040002E0 + put d 21 + put a 16 + put w 0, none)
  | .rol d a b w => some (0x04000300 + put d 21 + put a 16 + put b 11 + put w 0, none)
  | .ror d a b w => some (0x04000320 + put d 21 + put a 16 + put b 11 + put w 0, none)
  | .andn d a b => some (0x04000340 + put d 21 + put a 16 + put b 11, none)
  | .addi d a i => some (0x08000000 + put d 21 + put a 16 + put i 0, none)
  | .andi d a i => some (0x0C000000 + put d 21 + put a 16 + put i 0, none)
  | .ori d a i => some (0x10000000 + put d 21 + put a 16 + put i 0, none)
  | .xori d a i => some (0x14000000 + put d 21 + put a 16 + put i 0, none)
  | .slti d a i => some (0x18000000 + put d 21 + put a 16 + put i 0, none)
  | .sltiu d a i => some (0x1C000000 + put d 21 + put a 16 + put i 0, none)
  | .slli d a s => some (0x20000000 + put d 21 + put a 16 + put s 0, none)
  | .srli d a s => some (0x20004000 + put d 21 + put a 16 + put s 0, none)
  | .srai d a s => some (0x20008000 + put d 21 + put a 16 + put s 0, none)
  | .rori d a s => some (0x2000C000 + put d 21 + put a 16 + put s 0, none)
  | .lui d i => some (0x24000000 + put d 21 + put i 0, none)
  | .addpc d i => some (0x28000000 + put d 21 + put i 0, none)
  | .liw d i => some (0xF4000000 + put d 21, some (0x00000000 + put i 0))
  | .lih d i => some (0xF4010000 + put d 21, some (0x00000000 + put i 0))
  | .lb d a o => some (0x2C000000 + put d 21 + put a 16 + put o 0, none)
  | .lbu d a o => some (0x2C002000 + put d 21 + put a 16 + put o 0, none)
  | .lh d a o => some (0x2C004000 + put d 21 + put a 16 + put o 0, none)
  | .lhu d a o => some (0x2C006000 + put d 21 + put a 16 + put o 0, none)
  | .lw d a o => some (0x2C008000 + put d 21 + put a 16 + put o 0, none)
  | .lwu d a o => some (0x2C00A000 + put d 21 + put a 16 + put o 0, none)
  | .ld d a o => some (0x2C00C000 + put d 21 + put a 16 + put o 0, none)
  | .sb s a o => some (0x30000000 + put s 21 + put a 16 + put o 0, none)
  | .sh s a o => some (0x30004000 + put s 21 + put a 16 + put o 0, none)
  | .sw s a o => some (0x30008000 + put s 21 + put a 16 + put o 0, none)
  | .sd s a o => some (0x3000C000 + put s 21 + put a 16 + put o 0, none)
  | .beq a b o => some (0x34000000 + put a 21 + put b 16 + put o 0, none)
  | .bne a b o => some (0x34002000 + put a 21 + put b 16 + put o 0, none)
  | .blt a b o => some (0x34004000 + put a 21 + put b 16 + put o 0, none)
  | .bge a b o => some (0x34006000 + put a 21 + put b 16 + put o 0, none)
  | .bltu a b o => some (0x34008000 + put a 21 + put b 16 + put o 0, none)
  | .bgeu a b o => some (0x3400A000 + put a 21 + put b 16 + put o 0, none)
  | .bp p o => some (0x3400C000 + put p 16 + put o 0, none)
  | .bnp p o => some (0x3400E000 + put p 16 + put o 0, none)
  | .jal d o => some (0x38000000 + put d 21 + put o 0, none)
  | .jalr d a i => some (0x3C000000 + put d 21 + put a 16 + put i 0, none)
  | .pcmp p a b c => some (0x40000000 + put p 21 + put a 16 + put b 11 + put c 0, none)
  | .pand d a b => some (0x40000020 + put d 21 + put a 16 + put b 11, none)
  | .por d a b => some (0x40000040 + put d 21 + put a 16 + put b 11, none)
  | .pxor d a b => some (0x40000060 + put d 21 + put a 16 + put b 11, none)
  | .pnot d a => some (0x40000080 + put d 21 + put a 16, none)
  | .sel d a b p => some (0x400000A0 + put d 21 + put a 16 + put b 11 + put p 0, none)
  | .pmovFromPredicates d => some (0x400000C0 + put d 21, none)
  | .pmovToPredicates a => some (0x400000C1 + put a 16, none)
  | .fadd d a b m f => some (0x44000000 + put d 21 + put a 16 + put b 11 + put m 2 + put f 0, none)
  | .fsub d a b m f => some (0x44000020 + put d 21 + put a 16 + put b 11 + put m 2 + put f 0, none)
  | .fmul d a b m f => some (0x44000040 + put d 21 + put a 16 + put b 11 + put m 2 + put f 0, none)
  | .fdiv d a b m f => some (0x44000060 + put d 21 + put a 16 + put b 11 + put m 2 + put f 0, none)
  | .fsqrt d a m f => some (0x44000080 + put d 21 + put a 16 + put m 2 + put f 0, none)
  | .fmin d a b f => some (0x440000A0 + put d 21 + put a 16 + put b 11 + put f 0, none)
  | .fmax d a b f => some (0x440000C0 + put d 21 + put a 16 + put b 11 + put f 0, none)
  | .feq d a b f => some (0x440000E0 + put d 21 + put a 16 + put b 11 + put f 0, none)
  | .flt d a b f => some (0x44000100 + put d 21 + put a 16 + put b 11 + put f 0, none)
  | .fle d a b f => some (0x44000120 + put d 21 + put a 16 + put b 11 + put f 0, none)
  | .fclass d a f => some (0x44000140 + put d 21 + put a 16 + put f 0, none)
  | .fsgnj d a b f => some (0x44000160 + put d 21 + put a 16 + put b 11 + put f 0, none)
  | .fsgnjn d a b f => some (0x44000180 + put d 21 + put a 16 + put b 11 + put f 0, none)
  | .fsgnjx d a b f => some (0x440001A0 + put d 21 + put a 16 + put b 11 + put f 0, none)
  | .fcvtFi d a w m f => some (0x440001C0 + put d 21 + put a 16 + put w 11 + put m 2 + put f 0, none)
  | .fcvtFn d a w m f => some (0x440001E0 + put d 21 + put a 16 + put w 11 + put m 2 + put f 0, none)
  | .fcvtIf d a w m f => some (0x44000200 + put d 21 + put a 16 + put w 11 + put m 2 + put f 0, none)
  | .fcvtNf d a w m f => some (0x44000220 + put d 21 + put a 16 + put w 11 + put m 2 + put f 0, none)
  | .fcvtFf d a s m f => some (0x44000240 + put d 21 + put a 16 + put s 11 + put m 2 + put f 0, none)
  | .fma d a b c f m => some (0x48000000 + put d 21 + put a 16 + put b 11 + put c 6 + put f 4 + put m 0, none)
  | .fms d a b c f m => some (0x48000004 + put d 21 + put a 16 + put b 11 + put c 6 + put f 4 + put m 0, none)
  | .fnma d a b c f m => some (0x48000008 + put d 21 + put a 16 + put b 11 + put c 6 + put f 4 + put m 0, none)
  | .fnms d a b c f m => some (0x4800000C + put d 21 + put a 16 + put b 11 + put c 6 + put f 4 + put m 0, none)
  | .csrr d c => some (0x4C000000 + put d 21 + put c 0, none)
  | .csrw d a c => some (0x4C001000 + put d 21 + put a 16 + put c 0, none)
  | .csrs d a c => some (0x4C002000 + put d 21 + put a 16 + put c 0, none)
  | .csrc d a c => some (0x4C003000 + put d 21 + put a 16 + put c 0, none)
  | .syscall c => some (0x4C004000 + put c 0, none)
  | .brk c => some (0x4C005000 + put c 0, none)
  | .trapret => some (0x4C006000, none)
  | .fence s b => some (0x4C007000 + put s 9 + put b 0, none)
  | .wait l s c t => some (0x4C008000 + put l 9 + put s 6 + put c 3 + put t 0, none)
  | .yield => some (0x4C009000, none)
  | .yieldw d a t => some (0x4C00A000 + put d 21 + put a 16 + put t 0, none)
  | .exit => some (0x4C00B000, none)
  | .time d => some (0x4C00C000 + put d 21, none)
  | .isync => some (0x4C00D000, none)
  | .amoadd d a b z o s => some (0x50000000 + put d 21 + put a 16 + put b 11 + put z 10 + put o 3 + put s 0, none)
  | .amoand d a b z o s => some (0x50000020 + put d 21 + put a 16 + put b 11 + put z 10 + put o 3 + put s 0, none)
  | .amoor d a b z o s => some (0x50000040 + put d 21 + put a 16 + put b 11 + put z 10 + put o 3 + put s 0, none)
  | .amoxor d a b z o s => some (0x50000060 + put d 21 + put a 16 + put b 11 + put z 10 + put o 3 + put s 0, none)
  | .amomin d a b z o s => some (0x50000080 + put d 21 + put a 16 + put b 11 + put z 10 + put o 3 + put s 0, none)
  | .amomax d a b z o s => some (0x500000A0 + put d 21 + put a 16 + put b 11 + put z 10 + put o 3 + put s 0, none)
  | .amominu d a b z o s => some (0x500000C0 + put d 21 + put a 16 + put b 11 + put z 10 + put o 3 + put s 0, none)
  | .amomaxu d a b z o s => some (0x500000E0 + put d 21 + put a 16 + put b 11 + put z 10 + put o 3 + put s 0, none)
  | .amoswap d a b z o s => some (0x50000100 + put d 21 + put a 16 + put b 11 + put z 10 + put o 3 + put s 0, none)
  | .amocas d a b z o s => some (0x50000120 + put d 21 + put a 16 + put b 11 + put z 10 + put o 3 + put s 0, none)
  | .lda d a z s => some (0x50000148 + put d 21 + put a 16 + put z 10 + put s 0, none)
  | .strel a b z s => some (0x50000170 + put a 16 + put b 11 + put z 10 + put s 0, none)
  | .amofadd d a b z o s => some (0x50000180 + put d 21 + put a 16 + put b 11 + put z 10 + put o 3 + put s 0, none)
  | .barinit d a b s => some (0x54000000 + put d 21 + put a 16 + put b 11 + put s 0, none)
  | .bararr d a s => some (0x54000020 + put d 21 + put a 16 + put s 0, none)
  | .bartest p a b s => some (0x54000040 + put p 21 + put a 16 + put b 11 + put s 0, none)
  | .bardrop d a s => some (0x54000060 + put d 21 + put a 16 + put s 0, none)
  | .rdvput p a b s => some (0x54000080 + put p 21 + put a 16 + put b 11 + put s 0, none)
  | .rdvget d a p s => some (0x540000A0 + put d 21 + put a 16 + put p 11 + put s 0, none)
  | .qbind q a p => some (0x58000000 + put q 21 + put a 16 + put p 11, none)
  | .qunbind q => some (0x58000020 + put q 21, none)
  | .qpush q a => some (0x58000040 + put q 21 + put a 16, none)
  | .qpop d q => some (0x58000060 + put d 21 + put q 16, none)
  | .qpusht q a p => some (0x58000080 + put q 21 + put a 16 + put p 11, none)
  | .qpopt d q p => some (0x580000A0 + put d 21 + put q 16 + put p 11, none)
  | .qstat d q => some (0x580000C0 + put d 21 + put q 16, none)
  | .tqpush q a p => some (0x580000E0 + put q 21 + put a 16 + put p 11, none)
  | .tqpop q a p => some (0x58000100 + put q 21 + put a 16 + put p 11, none)
  | .launch d a => some (0x5C000000 + put d 21 + put a 16, none)
  | .take d p => some (0x5C000020 + put d 21 + put p 11, none)
  | .wmark a h => some (0x5C000040 + put a 16 + put h 11, none)
  | .wmread d h => some (0x5C000060 + put d 21 + put h 11, none)
  | .tdep d a => some (0x5C000080 + put d 21 + put a 16, none)
  | .tarm d a b => some (0x5C0000A0 + put d 21 + put a 16 + put b 11, none)
  | .kstat d a => some (0x5C0000C0 + put d 21 + put a 16, none)
  | .kabort => some (0x5C0000E0, none)
  | .kcancel d a => some (0x5C000100 + put d 21 + put a 16, none)
  | .kcancelTcb d a => some (0x5C000101 + put d 21 + put a 16, none)
  | .ldf d a o => some (0x60000000 + put d 21 + put a 16 + put o 0, none)
  | .ldfTry d a p o => some (0x60001000 + put d 21 + put a 16 + put p 9 + put o 0, none)
  | .ldfc d a o => some (0x60002000 + put d 21 + put a 16 + put o 0, none)
  | .ldfcTry d a p o => some (0x60003000 + put d 21 + put a 16 + put p 9 + put o 0, none)
  | .stf s a o => some (0x60004000 + put s 21 + put a 16 + put o 0, none)
  | .stfTry s a p o => some (0x60005000 + put s 21 + put a 16 + put p 9 + put o 0, none)
  | .stfw s a o => some (0x60006000 + put s 21 + put a 16 + put o 0, none)
  | .stfwTry s a p o => some (0x60007000 + put s 21 + put a 16 + put p 9 + put o 0, none)
  | .feset a o => some (0x60008000 + put a 16 + put o 0, none)
  | .fesetTry a p o => some (0x60009000 + put a 16 + put p 9 + put o 0, none)
  | .feclr a o => some (0x6000A000 + put a 16 + put o 0, none)
  | .feclrTry a p o => some (0x6000B000 + put a 16 + put p 9 + put o 0, none)
  | .fetest a p o => some (0x6000C000 + put a 16 + put p 9 + put o 0, none)
  | .tlbinv a b => some (0x64000000 + put a 16 + put b 11, none)
  | .tlbinva b => some (0x64000020 + put b 11, none)
  | .pgprobe d a b => some (0x64000040 + put d 21 + put a 16 + put b 11, none)
  | .migrate d a => some (0x64000060 + put d 21 + put a 16, none)
  | .vcfg d n => some (0x80000000 + put d 21 + put n 0, none)
  | .setvl d a f b r s => some (0x80000020 + put d 21 + put a 16 + put f 11 + put b 3 + put r 1 + put s 0, none)
  | .vld d a m => some (0x84000000 + put d 20 + put a 15 + put m 6, none)
  | .vlds d a s m => some (0x84000008 + put d 20 + put a 15 + put s 9 + put m 6, none)
  | .vldx d a x m => some (0x84000010 + put d 20 + put a 15 + put x 9 + put m 6, none)
  | .vlseg d a m f => some (0x84000018 + put d 20 + put a 15 + put m 6 + put f 0, none)
  | .vldff d a m => some (0x84000020 + put d 20 + put a 15 + put m 6, none)
  | .vldp d a s m => some (0x84000028 + put d 20 + put a 15 + put s 9 + put m 6, none)
  | .vst d a m => some (0x88000000 + put d 20 + put a 15 + put m 6, none)
  | .vsts d a s m => some (0x88000008 + put d 20 + put a 15 + put s 9 + put m 6, none)
  | .vstx d a x m => some (0x88000010 + put d 20 + put a 15 + put x 9 + put m 6, none)
  | .vsseg d a m f => some (0x88000018 + put d 20 + put a 15 + put m 6 + put f 0, none)
  | .vstp d a s m => some (0x88000020 + put d 20 + put a 15 + put s 9 + put m 6, none)
  | .vadd d a b m => some (0x8C000000 + put d 20 + put a 14 + put b 8 + put m 5, none)
  | .vsub d a b m => some (0x8C000001 + put d 20 + put a 14 + put b 8 + put m 5, none)
  | .vmul d a b m => some (0x8C000002 + put d 20 + put a 14 + put b 8 + put m 5, none)
  | .vmulh d a b m => some (0x8C000003 + put d 20 + put a 14 + put b 8 + put m 5, none)
  | .vmin d a b m => some (0x8C000004 + put d 20 + put a 14 + put b 8 + put m 5, none)
  | .vmax d a b m => some (0x8C000005 + put d 20 + put a 14 + put b 8 + put m 5, none)
  | .vminu d a b m => some (0x8C000006 + put d 20 + put a 14 + put b 8 + put m 5, none)
  | .vmaxu d a b m => some (0x8C000007 + put d 20 + put a 14 + put b 8 + put m 5, none)
  | .vand d a b m => some (0x8C000008 + put d 20 + put a 14 + put b 8 + put m 5, none)
  | .vor d a b m => some (0x8C000009 + put d 20 + put a 14 + put b 8 + put m 5, none)
  | .vxor d a b m => some (0x8C00000A + put d 20 + put a 14 + put b 8 + put m 5, none)
  | .vsll d a b m => some (0x8C00000B + put d 20 + put a 14 + put b 8 + put m 5, none)
  | .vsrl d a b m => some (0x8C00000C + put d 20 + put a 14 + put b 8 + put m 5, none)
  | .vsra d a b m => some (0x8C00000D + put d 20 + put a 14 + put b 8 + put m 5, none)
  | .vsadd d a b m => some (0x8C00000E + put d 20 + put a 14 + put b 8 + put m 5, none)
  | .vssub d a b m => some (0x8C00000F + put d 20 + put a 14 + put b 8 + put m 5, none)
  | .vsaddu d a b m => some (0x8C000010 + put d 20 + put a 14 + put b 8 + put m 5, none)
  | .vssubu d a b m => some (0x8C000011 + put d 20 + put a 14 + put b 8 + put m 5, none)
  | .vmacc d a b m => some (0x8C000012 + put d 20 + put a 14 + put b 8 + put m 5, none)
  | .vdot4 d a b m => some (0x8C000013 + put d 20 + put a 14 + put b 8 + put m 5, none)
  | .vfadd d a b m => some (0x90000000 + put d 20 + put a 14 + put b 8 + put m 5, none)
  | .vfsub d a b m => some (0x90000001 + put d 20 + put a 14 + put b 8 + put m 5, none)
  | .vfmul d a b m => some (0x90000002 + put d 20 + put a 14 + put b 8 + put m 5, none)
  | .vfma d a b m => some (0x90000003 + put d 20 + put a 14 + put b 8 + put m 5, none)
  | .vfms d a b m => some (0x90000004 + put d 20 + put a 14 + put b 8 + put m 5, none)
  | .vfnma d a b m => some (0x90000005 + put d 20 + put a 14 + put b 8 + put m 5, none)
  | .vfdiv d a b m => some (0x90000006 + put d 20 + put a 14 + put b 8 + put m 5, none)
  | .vfsqrt d a m => some (0x90000007 + put d 20 + put a 14 + put m 5, none)
  | .vfmin d a b m => some (0x90000008 + put d 20 + put a 14 + put b 8 + put m 5, none)
  | .vfmax d a b m => some (0x90000009 + put d 20 + put a 14 + put b 8 + put m 5, none)
  | .vfsgnj d a b m => some (0x9000000A + put d 20 + put a 14 + put b 8 + put m 5, none)
  | .vfsgnjn d a b m => some (0x9000000B + put d 20 + put a 14 + put b 8 + put m 5, none)
  | .vcmp c d a b m => some (0x94000000 + put c 23 + put d 20 + put a 14 + put b 8 + put m 5, none)
  | .vfeq c d a b m => some (0x94000001 + put c 23 + put d 20 + put a 14 + put b 8 + put m 5, none)
  | .mand d a b => some (0x94000002 + put d 20 + put a 14 + put b 8, none)
  | .mor d a b => some (0x94000003 + put d 20 + put a 14 + put b 8, none)
  | .mxor d a b => some (0x94000004 + put d 20 + put a 14 + put b 8, none)
  | .mandn d a b => some (0x94000005 + put d 20 + put a 14 + put b 8, none)
  | .mpopc d a m => some (0x94000006 + put d 20 + put a 14 + put m 5, none)
  | .mfirst d a m => some (0x94000007 + put d 20 + put a 14 + put m 5, none)
  | .mset d a k m => some (0x94000008 + put d 20 + put a 14 + put k 8 + put m 5, none)
  | .vmerge d a b m => some (0x94000009 + put d 20 + put a 14 + put b 8 + put m 5, none)
  | .vmv d a m => some (0x98000000 + put d 20 + put a 14 + put m 5, none)
  | .vmvs d a m => some (0x98000001 + put d 20 + put a 14 + put m 5, none)
  | .vext d a i => some (0x98000002 + put d 20 + put a 14 + put i 8, none)
  | .vins d a i => some (0x98000003 + put d 20 + put a 14 + put i 8, none)
  | .vslup d a s m => some (0x98000004 + put d 20 + put a 14 + put s 8 + put m 5, none)
  | .vslupImm d a s m n => some (0xF0000004 + put d 20 + put a 14 + put s 8 + put m 5, some (0x60000000 + put n 0))
  | .vsldn d a s m => some (0x98000005 + put d 20 + put a 14 + put s 8 + put m 5, none)
  | .vsldnImm d a s m n => some (0xF0000005 + put d 20 + put a 14 + put s 8 + put m 5, some (0x60000000 + put n 0))
  | .vgath d a b m => some (0x98000006 + put d 20 + put a 14 + put b 8 + put m 5, none)
  | .vcomp d a m => some (0x98000007 + put d 20 + put a 14 + put m 5, none)
  | .viota d a m => some (0x98000008 + put d 20 + put a 14 + put m 5, none)
  | .lvLongForm d a b m f k z x q g => some (0xF0000000 + put d 20 + put a 14 + put b 8 + put m 5 + put f 0, some (0x00000000 + put k 29 + put z 27 + put x 16 + put q 15 + put g 10))
  | .vredsum d a b m => some (0x9C000000 + put d 20 + put a 14 + put b 8 + put m 5, none)
  | .vredmin d a b m => some (0x9C000001 + put d 20 + put a 14 + put b 8 + put m 5, none)
  | .vredmax d a b m => some (0x9C000002 + put d 20 + put a 14 + put b 8 + put m 5, none)
  | .vredand d a b m => some (0x9C000003 + put d 20 + put a 14 + put b 8 + put m 5, none)
  | .vredor d a b m => some (0x9C000004 + put d 20 + put a 14 + put b 8 + put m 5, none)
  | .vfredsum d a b m => some (0x9C000005 + put d 20 + put a 14 + put b 8 + put m 5, none)
  | .vfredmax d a b m => some (0x9C000006 + put d 20 + put a 14 + put b 8 + put m 5, none)
  | .vfredmin d a b m => some (0x9C000007 + put d 20 + put a 14 + put b 8 + put m 5, none)
  | .vcvt d a f m => some (0xA0000000 + put d 20 + put a 14 + put f 8 + put m 5, none)
  | .vqnt d a f => some (0xA0000001 + put d 20 + put a 14 + put f 8, none)
  | .vdqnt d a f m => some (0xA0000002 + put d 20 + put a 14 + put f 8 + put m 5, none)
  | .vrot d a m => some (0xA0000003 + put d 20 + put a 14 + put m 5, none)
  | .vplx d a j m => some (0xA0000004 + put d 20 + put a 14 + put j 8 + put m 5, none)
  | .vpli d a j m => some (0xA0000005 + put d 20 + put a 14 + put j 8 + put m 5, none)
  | .mopa t a b r c => some (0xC0000000 + put t 22 + put a 16 + put b 10 + put r 7 + put c 4, none)
  | .mops t a b r c => some (0xC0000001 + put t 22 + put a 16 + put b 10 + put r 7 + put c 4, none)
  | .mopan t a b r c => some (0xC0000002 + put t 22 + put a 16 + put b 10 + put r 7 + put c 4, none)
  | .mprom t => some (0xC0000003 + put t 22, none)
  | .mzero t => some (0xC0000004 + put t 22, none)
  | .mma16 t a b r c k => some (0xFC000000 + put t 22 + put a 16 + put b 10 + put r 7 + put c 4, some (0x00000000 + put k 29))
  | .mma16s t a b r c k x y => some (0xFC000001 + put t 22 + put a 16 + put b 10 + put r 7 + put c 4, some (0x00000000 + put k 29 + put x 23 + put y 17))
  | .trdv t d r c => some (0xC4000000 + put t 22 + put d 16 + put r 10 + put c 4, none)
  | .trdc t d c r => some (0xC4000001 + put t 22 + put d 16 + put c 10 + put r 7, none)
  | .twrv t a r c => some (0xC4000002 + put t 22 + put a 16 + put r 10 + put c 4, none)
  | .twrc t a c r => some (0xC4000003 + put t 22 + put a 16 + put c 10 + put r 7, none)
  | .tst t a s r c => some (0xC4000004 + put t 22 + put a 16 + put s 10 + put r 7 + put c 4, none)
  | .tstx t a x r c => some (0xC4000005 + put t 22 + put a 16 + put x 10 + put r 7 + put c 4, none)
  | .tld t a s r c => some (0xC4000006 + put t 22 + put a 16 + put s 10 + put r 7 + put c 4, none)
  | .talloc t p => some (0xC8000000 + put t 22 + put p 16, none)
  | .tfree t => some (0xC8000001 + put t 22, none)
  | .tsave t a => some (0xC8000002 + put t 22 + put a 16, none)
  | .trest t a => some (0xC8000003 + put t 22 + put a 16, none)
  | .cpy d a h t e w g n => some (0xF8000000 + put d 17 + put a 12 + put h 7 + put t 2, some (0x00000000 + put e 31 + put w 30 + put g 25 + put n 23))
  | .cpyx d a h t e w g n => some (0xF8400000 + put d 17 + put a 12 + put h 7 + put t 2, some (0x00000000 + put e 31 + put w 30 + put g 25 + put n 23))
  | .cpym d a h t e w g n s => some (0xF8800000 + put d 17 + put a 12 + put h 7 + put t 2, some (0x00000000 + put e 31 + put w 30 + put g 25 + put n 23 + put s 18))
  | .pub d h s => some (0xF8C00000 + put d 17 + put h 7, some (0x00000000 + put s 0))
  | .dec d a n e => some (0xF9000000 + put d 17 + put a 12, some (0x00000000 + put n 23 + put e 21))
  | .decst d a => some (0xF9400000 + put d 17 + put a 12, some (0x00000000))
  | .fetchGrant _ => none
  | .instructionLineFill _ _ => none
  | .loadResponse _ _ => none
  | .storeVisible _ _ => none
  | .amoAtHome _ _ => none
  | .walkComplete _ _ => none
  | .faultQueueHeadAdvance _ => none
  | .faultResolve _ _ => none
  | .yieldWake _ => none
  | .yieldwWatchRegistration _ => none
  | .yieldwTimeout _ => none
  | .vectorChecksEnd _ => none
  | .laneGroupBind _ => none
  | .vectorChunkResult _ _ _ => none
  | .wholeOperandComplete _ _ _ => none
  | .matrixUnitStart _ => none
  | .tileCommandComplete _ => none
  | .copyStart _ => none
  | .copyBeatArrival _ _ _ => none
  | .copyComplete _ _ => none
  | .engineBarrierArrival _ _ => none
  | .decJobStart _ _ => none
  | .decFrameComplete _ _ _ => none
  | .feRequestResend _ => none
  | .launchQueued _ => none
  | .dispatch _ => none
  | .placementPrepared _ => none
  | .commitStart _ => none
  | .commitPhase2End => none
  | .successorWalkStep _ => none
  | .abortDiscardEnd _ => none
  | .draftEscalation _ => none
  | .draftFold _ => none
  | .kernelEntryRelease _ => none
  | .watermarkStallEnd _ _ _ => none
  | .partitionSwitchDecision _ => none
  | .bell _ => none
  | .saveUnitComplete _ _ => none
  | .restoreUnitComplete _ _ => none
  | .resumeBell _ => none
  | .killArrival _ _ => none
  | .taskRecordTake _ => none
  | .queueMap _ => none
  | .queueFetchArrival _ => none
  | .queueQuantumEnd _ => none
  | .hostQueueControlSnoop _ _ => none
  | .hostQueuePciePoll _ => none
  | .migrationEntry _ => none
  | .migrationStep _ => none
  | .migrationComplete _ => none
  | .bankIdleTimerExpiry _ _ => none
  | .bankRefresh _ _ => none
  | .uncorrectableError _ => none
  | .selfTestComplete _ _ => none
  | .linkTrainingEnd _ _ => none
  | .linkIdleTimeout _ => none
  | .linkManagementReset _ => none
  | .syncExchangeTimer _ => none
  | .sync _ => none
  | .followUp _ => none
  | .delayRequest _ => none
  | .delayResponse _ => none
  | .syncExchangeMissed _ => none
  | .hostMemoryRequest _ _ _ => none
  | .peerRequest _ _ => none
  | .eventRingHeadMove _ => none
  | .eventRingSetup _ _ => none
  | .spdmMeasurement _ => none
  | .powerUp _ => none
  | .rcstateSeal => none
  | .sealComplete => none
  | .pcselWrite _ _ => none
  | .pcReductionComplete _ => none
  | .debugOwn _ => none
  | .debugRelease _ => none
  | .debugStop _ => none
  | .debugResume _ => none
  | .debugRead _ _ => none
  | .debugWrite _ _ _ => none
  | .debugStep _ _ => none
  | .debugHoldchild _ _ => none
  | .illegalWord _ _ => none
  | .fetchFaultIssue _ => none
  | .correctedError _ => none
  | .debuggerKernelRelease _ => none
  | .hostLineSnoop _ _ => none
  | .residencyMigrationStart _ => none
  | .powerOff => none

/-- The bytes of an encoded instruction, each word little-endian, the first word at the lower address (R64). -/
def encodeBytes (i : Instr) : Option (List Byte) :=
  match encode i with
  | some (w, none) => some (leBytes 4 w)
  | some (w, some x) => some (leBytes 4 w ++ leBytes 4 x)
  | none => none

end Sys2Proof
end

