-- ==== Sys2Proof/Machine/Operands.lean ====
section
/-! DEFINITION. Operand forms: which registers an instruction names (for the interlock of 04_context R108), immediates and
effective addresses (R114-R118, R122), the words a trap value holds (03_encoding R78, R79), and the checks of vector
operands (08_vector_ops R202, R203; 03_encoding R82). -/

namespace Sys2Proof.Machine

open Sys2Proof

/-- The g registers that an instruction names, as sources or destination: it issues only when none of them is owed a value
(04_context R108). An LV long form reads gs with sf = 1, and the g registers of the base form. -/
def gRegs : Instr → List Nat
  | .add d a b _ => [d.toNat, a.toNat, b.toNat]
  | .sub d a b _ => [d.toNat, a.toNat, b.toNat]
  | .and d a b => [d.toNat, a.toNat, b.toNat]
  | .or d a b => [d.toNat, a.toNat, b.toNat]
  | .xor d a b => [d.toNat, a.toNat, b.toNat]
  | .sll d a b _ => [d.toNat, a.toNat, b.toNat]
  | .srl d a b _ => [d.toNat, a.toNat, b.toNat]
  | .sra d a b _ => [d.toNat, a.toNat, b.toNat]
  | .slt d a b => [d.toNat, a.toNat, b.toNat]
  | .sltu d a b => [d.toNat, a.toNat, b.toNat]
  | .min d a b => [d.toNat, a.toNat, b.toNat]
  | .max d a b => [d.toNat, a.toNat, b.toNat]
  | .minu d a b => [d.toNat, a.toNat, b.toNat]
  | .maxu d a b => [d.toNat, a.toNat, b.toNat]
  | .mul d a b _ => [d.toNat, a.toNat, b.toNat]
  | .mulh d a b => [d.toNat, a.toNat, b.toNat]
  | .mulhu d a b => [d.toNat, a.toNat, b.toNat]
  | .div d a b _ => [d.toNat, a.toNat, b.toNat]
  | .divu d a b _ => [d.toNat, a.toNat, b.toNat]
  | .rem d a b _ => [d.toNat, a.toNat, b.toNat]
  | .remu d a b _ => [d.toNat, a.toNat, b.toNat]
  | .clz d a _ => [d.toNat, a.toNat]
  | .ctz d a _ => [d.toNat, a.toNat]
  | .popc d a _ => [d.toNat, a.toNat]
  | .rol d a b _ => [d.toNat, a.toNat, b.toNat]
  | .ror d a b _ => [d.toNat, a.toNat, b.toNat]
  | .andn d a b => [d.toNat, a.toNat, b.toNat]
  | .addi d a _ => [d.toNat, a.toNat]
  | .andi d a _ => [d.toNat, a.toNat]
  | .ori d a _ => [d.toNat, a.toNat]
  | .xori d a _ => [d.toNat, a.toNat]
  | .slti d a _ => [d.toNat, a.toNat]
  | .sltiu d a _ => [d.toNat, a.toNat]
  | .slli d a _ => [d.toNat, a.toNat]
  | .srli d a _ => [d.toNat, a.toNat]
  | .srai d a _ => [d.toNat, a.toNat]
  | .rori d a _ => [d.toNat, a.toNat]
  | .lui d _ => [d.toNat]
  | .addpc d _ => [d.toNat]
  | .liw d _ => [d.toNat]
  | .lih d _ => [d.toNat]
  | .lb d a _ => [d.toNat, a.toNat]
  | .lbu d a _ => [d.toNat, a.toNat]
  | .lh d a _ => [d.toNat, a.toNat]
  | .lhu d a _ => [d.toNat, a.toNat]
  | .lw d a _ => [d.toNat, a.toNat]
  | .lwu d a _ => [d.toNat, a.toNat]
  | .ld d a _ => [d.toNat, a.toNat]
  | .sb s a _ => [s.toNat, a.toNat]
  | .sh s a _ => [s.toNat, a.toNat]
  | .sw s a _ => [s.toNat, a.toNat]
  | .sd s a _ => [s.toNat, a.toNat]
  | .beq a b _ => [a.toNat, b.toNat]
  | .bne a b _ => [a.toNat, b.toNat]
  | .blt a b _ => [a.toNat, b.toNat]
  | .bge a b _ => [a.toNat, b.toNat]
  | .bltu a b _ => [a.toNat, b.toNat]
  | .bgeu a b _ => [a.toNat, b.toNat]
  | .jal d _ => [d.toNat]
  | .jalr d a _ => [d.toNat, a.toNat]
  | .pcmp _ a b _ => [a.toNat, b.toNat]
  | .sel d a b _ => [d.toNat, a.toNat, b.toNat]
  | .pmovFromPredicates d => [d.toNat]
  | .pmovToPredicates a => [a.toNat]
  | .fadd d a b _ _ => [d.toNat, a.toNat, b.toNat]
  | .fsub d a b _ _ => [d.toNat, a.toNat, b.toNat]
  | .fmul d a b _ _ => [d.toNat, a.toNat, b.toNat]
  | .fdiv d a b _ _ => [d.toNat, a.toNat, b.toNat]
  | .fsqrt d a _ _ => [d.toNat, a.toNat]
  | .fmin d a b _ => [d.toNat, a.toNat, b.toNat]
  | .fmax d a b _ => [d.toNat, a.toNat, b.toNat]
  | .feq d a b _ => [d.toNat, a.toNat, b.toNat]
  | .flt d a b _ => [d.toNat, a.toNat, b.toNat]
  | .fle d a b _ => [d.toNat, a.toNat, b.toNat]
  | .fclass d a _ => [d.toNat, a.toNat]
  | .fsgnj d a b _ => [d.toNat, a.toNat, b.toNat]
  | .fsgnjn d a b _ => [d.toNat, a.toNat, b.toNat]
  | .fsgnjx d a b _ => [d.toNat, a.toNat, b.toNat]
  | .fcvtFi d a _ _ _ => [d.toNat, a.toNat]
  | .fcvtFn d a _ _ _ => [d.toNat, a.toNat]
  | .fcvtIf d a _ _ _ => [d.toNat, a.toNat]
  | .fcvtNf d a _ _ _ => [d.toNat, a.toNat]
  | .fcvtFf d a _ _ _ => [d.toNat, a.toNat]
  | .fma d a b c _ _ => [d.toNat, a.toNat, b.toNat, c.toNat]
  | .fms d a b c _ _ => [d.toNat, a.toNat, b.toNat, c.toNat]
  | .fnma d a b c _ _ => [d.toNat, a.toNat, b.toNat, c.toNat]
  | .fnms d a b c _ _ => [d.toNat, a.toNat, b.toNat, c.toNat]
  | .csrr d _ => [d.toNat]
  | .csrw d a _ => [d.toNat, a.toNat]
  | .csrs d a _ => [d.toNat, a.toNat]
  | .csrc d a _ => [d.toNat, a.toNat]
  | .yieldw d a _ => [d.toNat, a.toNat]
  | .time d => [d.toNat]
  | .amoadd d a b _ _ _ => [d.toNat, a.toNat, b.toNat]
  | .amoand d a b _ _ _ => [d.toNat, a.toNat, b.toNat]
  | .amoor d a b _ _ _ => [d.toNat, a.toNat, b.toNat]
  | .amoxor d a b _ _ _ => [d.toNat, a.toNat, b.toNat]
  | .amomin d a b _ _ _ => [d.toNat, a.toNat, b.toNat]
  | .amomax d a b _ _ _ => [d.toNat, a.toNat, b.toNat]
  | .amominu d a b _ _ _ => [d.toNat, a.toNat, b.toNat]
  | .amomaxu d a b _ _ _ => [d.toNat, a.toNat, b.toNat]
  | .amoswap d a b _ _ _ => [d.toNat, a.toNat, b.toNat]
  | .amocas d a b _ _ _ => [d.toNat, a.toNat, b.toNat]
  | .lda d a _ _ => [d.toNat, a.toNat]
  | .strel a b _ _ => [a.toNat, b.toNat]
  | .amofadd d a b _ _ _ => [d.toNat, a.toNat, b.toNat]
  | .barinit d a b _ => [d.toNat, a.toNat, b.toNat]
  | .bararr d a _ => [d.toNat, a.toNat]
  | .bartest _ a b _ => [a.toNat, b.toNat]
  | .bardrop d a _ => [d.toNat, a.toNat]
  | .rdvput _ a b _ => [a.toNat, b.toNat]
  | .rdvget d a _ _ => [d.toNat, a.toNat]
  | .qbind _ a _ => [a.toNat]
  | .qpush _ a => [a.toNat]
  | .qpop d _ => [d.toNat]
  | .qpusht _ a _ => [a.toNat]
  | .qpopt d _ _ => [d.toNat]
  | .qstat d _ => [d.toNat]
  | .tqpush _ a _ => [a.toNat]
  | .tqpop _ a _ => [a.toNat]
  | .launch d a => [d.toNat, a.toNat]
  | .take d _ => [d.toNat]
  | .wmark a _ => [a.toNat]
  | .wmread d _ => [d.toNat]
  | .tdep d a => [d.toNat, a.toNat]
  | .tarm d a b => [d.toNat, a.toNat, b.toNat]
  | .kstat d a => [d.toNat, a.toNat]
  | .kcancel d a => [d.toNat, a.toNat]
  | .kcancelTcb d a => [d.toNat, a.toNat]
  | .ldf d a _ => [d.toNat, a.toNat]
  | .ldfTry d a _ _ => [d.toNat, a.toNat]
  | .ldfc d a _ => [d.toNat, a.toNat]
  | .ldfcTry d a _ _ => [d.toNat, a.toNat]
  | .stf s a _ => [s.toNat, a.toNat]
  | .stfTry s a _ _ => [s.toNat, a.toNat]
  | .stfw s a _ => [s.toNat, a.toNat]
  | .stfwTry s a _ _ => [s.toNat, a.toNat]
  | .feset a _ => [a.toNat]
  | .fesetTry a _ _ => [a.toNat]
  | .feclr a _ => [a.toNat]
  | .feclrTry a _ _ => [a.toNat]
  | .fetest a _ _ => [a.toNat]
  | .tlbinv a b => [a.toNat, b.toNat]
  | .tlbinva b => [b.toNat]
  | .pgprobe d a b => [d.toNat, a.toNat, b.toNat]
  | .migrate d a => [d.toNat, a.toNat]
  | .vcfg d _ => [d.toNat]
  | .setvl d a _ _ _ _ => [d.toNat, a.toNat]
  | .vld _ a _ => [a.toNat]
  | .vlds _ a s _ => [a.toNat, s.toNat]
  | .vldx _ a _ _ => [a.toNat]
  | .vlseg _ a _ _ => [a.toNat]
  | .vldff _ a _ => [a.toNat]
  | .vldp _ a s _ => [a.toNat, s.toNat]
  | .vst _ a _ => [a.toNat]
  | .vsts _ a s _ => [a.toNat, s.toNat]
  | .vstx _ a _ _ => [a.toNat]
  | .vsseg _ a _ _ => [a.toNat]
  | .vstp _ a s _ => [a.toNat, s.toNat]
  | .mpopc d _ _ => [d.toNat]
  | .mfirst d _ _ => [d.toNat]
  | .vmvs _ a _ => [a.toNat]
  | .vext d _ i => [d.toNat, i.toNat]
  | .vins _ a i => [a.toNat, i.toNat]
  | .vslup _ _ s _ => [s.toNat]
  | .vslupImm _ _ s _ _ => [s.toNat]
  | .vsldn _ _ s _ => [s.toNat]
  | .vsldnImm _ _ s _ _ => [s.toNat]
  | .lvLongForm _ _ _ _ _ _ _ _ q g => if q == 1 then [g.toNat] else []
  | .tsave _ a => [a.toNat]
  | .trest _ a => [a.toNat]
  | .tst _ a s _ _ => [a.toNat, s.toNat]
  | .tstx _ a _ _ _ => [a.toNat]
  | .tld _ a s _ _ => [a.toNat, s.toNat]
  | .cpy d a h t _ _ g _ => [d.toNat, a.toNat, h.toNat, t.toNat, g.toNat]
  | .cpyx d a h t _ _ g _ => [d.toNat, a.toNat, h.toNat, t.toNat, g.toNat]
  | .cpym d a h t _ _ g _ s => [d.toNat, a.toNat, h.toNat, t.toNat, s.toNat, g.toNat]
  | .pub d h _ => [d.toNat, h.toNat]
  | .dec d a _ _ => [d.toNat, a.toNat]
  | .decst d a => [d.toNat, a.toNat]
  | _ => []

/-- The predicates that an instruction names (04_context R108). PMOV names them all. -/
def pRegs : Instr → List Nat
  | .bp p _ => [p.toNat]
  | .bnp p _ => [p.toNat]
  | .pcmp p _ _ _ => [p.toNat]
  | .pand d a b => [d.toNat, a.toNat, b.toNat]
  | .por d a b => [d.toNat, a.toNat, b.toNat]
  | .pxor d a b => [d.toNat, a.toNat, b.toNat]
  | .pnot d a => [d.toNat, a.toNat]
  | .sel _ _ _ p => [p.toNat]
  | .pmovFromPredicates _ => [1, 2, 3, 4, 5, 6, 7]
  | .pmovToPredicates _ => [1, 2, 3, 4, 5, 6, 7]
  | .bartest p _ _ _ => [p.toNat]
  | .rdvput p _ _ _ => [p.toNat]
  | .rdvget _ _ p _ => [p.toNat]
  | .qbind _ _ p => [p.toNat]
  | .qpusht _ _ p => [p.toNat]
  | .qpopt _ _ p => [p.toNat]
  | .tqpush _ _ p => [p.toNat]
  | .tqpop _ _ p => [p.toNat]
  | .take _ p => [p.toNat]
  | .ldfTry _ _ p _ => [p.toNat]
  | .ldfcTry _ _ p _ => [p.toNat]
  | .stfTry _ _ p _ => [p.toNat]
  | .stfwTry _ _ p _ => [p.toNat]
  | .fesetTry _ p _ => [p.toNat]
  | .feclrTry _ p _ => [p.toNat]
  | .fetest _ p _ => [p.toNat]
  | .talloc _ p => [p.toNat]
  | _ => []

/-- Whether the running thread is owed a value in a register that an instruction names (04_context R108): by its pending
loads, or by a vector instruction that writes a g register (08_vector_ops R207). -/
def State.interlocked (s : State) (i : Instr) : Bool :=
  let gs := (gRegs i).filter fun n => n != 0
  let ps := (pRegs i).filter fun n => n != 0
  (s.ctx.loads.any fun l => gs.contains l.rd || ps.contains l.pred) ||
  (s.core (coreKey s.cur)).arithQ.any fun v =>
    v.slot == s.cur.slot && (v.op == .mpopc || v.op == .mfirst || v.op == .ext) && gs.contains v.vd

/-- The words of an instruction as a trap value: the first in [31:0], a second in [63:32] (03_encoding R78, R79). -/
def wordsValue (i : Instr) : Word :=
  match encode i with
  | some (w, some x) => BitVec.ofNat 64 (w + x * 2 ^ 32)
  | some (w, none) => BitVec.ofNat 64 w
  | none => 0#64

/-- The address register plus a signed byte offset (04_context R118). -/
def effective (base : Word) (o bits : Nat) : Word := base + sext o bits

/-- The target of a branch or jump: PC + 4 × the signed offset (04_context R122, R123). -/
def branchTarget (pc : Word) (o bits : Nat) : Word := pc + sext o bits * 4#64

/-- A comparison of 04_context R125 and 08_vector_ops R212 on n-bit values: eq, ne, lt, ge, ltu, geu. -/
def compareCode (c n a b : Nat) : Bool :=
  match c with
  | 0 => a == b
  | 1 => a != b
  | 2 => decide (toSigned a n < toSigned b n)
  | 3 => decide (toSigned b n ≤ toSigned a n)
  | 4 => decide (a < b)
  | _ => decide (b ≤ a)

/-- An n-bit value shifted left by s mod n (04_context R112). -/
def shiftLeft (n a s : Nat) : Nat := a * 2 ^ (s % n) % 2 ^ n

/-- An n-bit value shifted right by s mod n, zeros in. -/
def shiftRight (n a s : Nat) : Nat := a % 2 ^ n / 2 ^ (s % n)

/-- An n-bit value shifted right by s mod n, sign in. -/
def shiftRightSigned (n a s : Nat) : Nat := wrap (toSigned a n / (2 ^ (s % n) : Nat)) n

/-- An n-bit value rotated left by s mod n. -/
def rotateLeft (n a s : Nat) : Nat := (a % 2 ^ n * 2 ^ (s % n) + a % 2 ^ n / 2 ^ (n - s % n)) % 2 ^ n

/-- The registers of a group that holds VL elements of width w (08_vector_ops R202). -/
def groupSize (vl w vlmax : Nat) : Nat := max 1 (ceilDiv (vl * w) (8 * vlmax))

/-- Whether a group of k registers from r lies below VNREG (03_encoding R82). -/
def groupFits (t : Thread) (r k : Nat) : Bool := decide (r + k ≤ t.vnreg)

/-- Whether two register groups overlap (08_vector_ops R203). -/
def groupsMeet (a ka b kb : Nat) : Bool := decide (a < b + kb) && decide (b < a + ka)

/-- Whether a format code is one of I8 to N64 (02_numbers R34). -/
def isIntFmt (f : Nat) : Bool := decide (f < 8)

/-- Whether a format code is F16, BF16 or F32, which the V-FP unit accepts (02_numbers R34, 08_vector_ops R211). -/
def isVectorFloat (f : Nat) : Bool := f == 8 || f == 9 || f == 10

end Sys2Proof.Machine
end

