-- ==== Sys2Proof/Machine/Fetch.lean ====
section
/-! DEFINITION. Fetching: blocks granted into a thread's buffer (06_group R164-R166), lines of the cluster instruction cache
(05_traps R157), and the words of the next instruction with the faults that stand in their place (R168). -/

namespace Sys2Proof.Machine

open Sys2Proof

/-- The 64 committed bytes of a line by location (05_traps R157: fetch reads committed memory only). -/
def State.lineBytes (s : State) (line : Nat) : List Byte :=
  (List.range 64).map fun i => readPlaceByte s { loc := line * 64 } i

/-- The bytes of a line as the cluster instruction cache holds them. -/
def cachedLine (l : List InstrLine) (line : Nat) : Option (List Byte) := (l.find? fun x => x.line == line).map (·.bytes)

/-- The instruction cache with a line filled; it holds 1,024 lines (01_module R17; log entry 20). -/
def fillLine (x : InstrLine) (l : List InstrLine) : List InstrLine := (x :: l).take 1024

/-- Word i of a block that begins at offset o of a line's bytes. -/
def blockWord (bytes : List Byte) (o i : Nat) : FetchedWord :=
  .word (BitVec.ofNat 32 (leNat ((bytes.drop (o + 4 * i)).take 4)))

/-- The four words of a block at a location, from its line. -/
def blockWords (bytes : List Byte) (loc : Nat) : List FetchedWord :=
  (List.range 4).map fun i => blockWord bytes (loc % 64) i

/-- A block put into a buffer of two, in place of the older one (06_group R164). -/
def pushBlock (b : FetchBlock) (l : List FetchBlock) : List FetchBlock := b :: (l.filter fun x => x.base != b.base).take 1

/-- A block delivered to a thread's buffer. -/
def State.deliver (s : State) (t : ThreadRef) (b : FetchBlock) : State :=
  s.onThread t fun x => { x with fetch := pushBlock b x.fetch }

/-- The block of words that cannot be fetched (04_context R124). -/
def deniedBlock (base : Nat) : FetchBlock :=
  { base := base, words := (List.range 4).map fun i => .fault (.access (BitVec.ofNat 64 (base + 4 * i))) }

/-- A line brought into a cluster's instruction cache. -/
def State.fillInstrLine (s : State) (cl line : Nat) : State :=
  if (cachedLine (s.cluster cl).icache line).isSome then s
  else s.onCluster cl fun c => { c with icache := fillLine { line := line, bytes := s.lineBytes line } c.icache }

/-- Whether a line that is not in a cluster's instruction cache cannot be read (15_page R391). -/
def State.lineLost (s : State) (cl line : Nat) : Bool :=
  (cachedLine (s.cluster cl).icache line).isNone && poisoned s (line * 64) 64

/-- The word at an address in a buffer, if it is there. -/
def bufferWord (l : List FetchBlock) (a : Nat) : Option FetchedWord :=
  (l.find? fun b => b.base == a / 16 * 16).bind fun b => b.words[a / 4 % 4]?

/-- The next instruction of a thread as its fetch buffer holds it. -/
inductive Fetched where
  | words (w x : Nat)
  | fault (f : FetchFault)
  | missing
deriving DecidableEq, Repr

/-- The first word, and the second of a long instruction, at a thread's PC, or the fault that stands in the place of either
(06_group R164, R168; 03_encoding R64). -/
def Thread.fetched (t : Thread) : Fetched :=
  match bufferWord t.fetch t.pc.toNat with
  | none => .missing
  | some (.fault f) => .fault f
  | some (.word w) =>
    if isLong w.toNat then
      match bufferWord t.fetch (t.pc.toNat + 4) with
      | none => .missing
      | some (.fault f) => .fault f
      | some (.word x) => .words w.toNat x.toNat
    else .words w.toNat 0

/-- The fetch block that the thread requests, if it does (06_group R164). -/
def Thread.wantsBlock (x : Thread) : Option Nat :=
  if x.phase != .ready && x.phase != .waiting then none
  else
    let b := x.pc.toNat / 16 * 16
    let has (a : Nat) : Bool := x.fetch.any fun f => f.base == a
    if !has b then some b else if !has ((b + 16) % 2 ^ 64) then some ((b + 16) % 2 ^ 64) else none

/-- The thread's request in the cycle given: one for the block that it has requested before keeps its age (06_group R164, R165). -/
def Thread.noteRequest (now : Nat) (x : Thread) : Thread :=
  { x with request := x.wantsBlock.map fun b =>
      match x.request with
      | some (c, since) => if c = b then (b, since) else (b, now)
      | none => (b, now) }

/-- Since which cycle the thread's request has waited (06_group R165). -/
def Thread.requestedAt (x : Thread) (now : Nat) : Nat := (x.request.map (·.2)).getD now

/-- The blocks that hold an instruction's two words at an address, every other word zero. -/
def blocksWith (pc w x : Nat) : List FetchBlock :=
  let word (a : Nat) : FetchedWord := .word (if a = pc then BitVec.ofNat 32 w else if a = pc + 4 then BitVec.ofNat 32 x else 0#32)
  let block (base : Nat) : FetchBlock := { base := base, words := (List.range 4).map fun i => word (base + 4 * i) }
  if pc / 16 = (pc + 4) / 16 then [block (pc / 16 * 16)] else [block (pc / 16 * 16), block ((pc + 4) / 16 * 16)]

end Sys2Proof.Machine
end

