-- ==== Sys2Proof/Machine/Integer.lean ====
section
/-! DEFINITION. Integer instructions, immediates, shifts and constants (04_context R111-R116). -/

namespace Sys2Proof.Machine

open Sys2Proof

/-- The running thread writes g[d] and retires an instruction of one word. -/
def State.put (s : State) (d : Nat) (v : Word) : State := s.onCtx fun t => (t.setG d v).retire 1

/-- Operand width of an INT instruction: 32 bits for .w, else 64 (04_context R112). -/
def opWidth (w : BitVec 1) : Nat := if w = 1#1 then 32 else 64

/-- An INT instruction with a .w form: f at width n on the low n bits of both operands; a 32-bit result is sign-extended
(04_context R112). -/
def intOp (f : Nat → Nat → Nat → Nat) (d a b : BitVec 5) (w : BitVec 1) (s : State) :
    Host.Outcome State Fault Refusal :=
  let n := opWidth w
  .next (s.put d.toNat (sext (f n ((s.ctx.g a.toNat).toNat % 2 ^ n) ((s.ctx.g b.toNat).toNat % 2 ^ n)) n))

/-- An INT instruction of one width: f on the two operands (04_context R112). -/
def wordOp (f : Word → Word → Word) (d a b : BitVec 5) (s : State) : Host.Outcome State Fault Refusal :=
  .next (s.put d.toNat (f (s.ctx.g a.toNat) (s.ctx.g b.toNat)))

/-- An immediate ALU instruction: f on the operand and the immediate (04_context R114). -/
def immOp (f : Word → Word → Word) (d a : BitVec 5) (i : Word) (s : State) : Host.Outcome State Fault Refusal :=
  .next (s.put d.toNat (f (s.ctx.g a.toNat) i))

/-- 1 when the condition holds, else 0. -/
def flagWord (b : Bool) : Word := if b then 1#64 else 0#64

/-- The quotient of n-bit values, truncated towards zero, with the cases of 04_context R113. -/
def divSigned (n a b : Nat) : Nat :=
  if b % 2 ^ n = 0 then 2 ^ n - 1 else wrap ((toSigned a n).tdiv (toSigned b n)) n

/-- The unsigned quotient (04_context R113). -/
def divUnsigned (n a b : Nat) : Nat := if b % 2 ^ n = 0 then 2 ^ n - 1 else a % 2 ^ n / (b % 2 ^ n)

/-- The remainder with the sign of the dividend (04_context R113). -/
def remSigned (n a b : Nat) : Nat :=
  if b % 2 ^ n = 0 then a % 2 ^ n else wrap ((toSigned a n).tmod (toSigned b n)) n

/-- The unsigned remainder (04_context R113). -/
def remUnsigned (n a b : Nat) : Nat := if b % 2 ^ n = 0 then a % 2 ^ n else a % 2 ^ n % (b % 2 ^ n)

/-- ADD: a + b (04_context R111). -/
def execAdd (d a b : BitVec 5) (w : BitVec 1) (s : State) : Host.Outcome State Fault Refusal :=
  intOp (fun n a b => (a + b) % 2 ^ n) d a b w s

/-- SUB: a - b (04_context R111). -/
def execSub (d a b : BitVec 5) (w : BitVec 1) (s : State) : Host.Outcome State Fault Refusal :=
  intOp (fun n a b => (a + 2 ^ n - b) % 2 ^ n) d a b w s

/-- SLL: a shifted left by b mod n (04_context R111). -/
def execSll (d a b : BitVec 5) (w : BitVec 1) (s : State) : Host.Outcome State Fault Refusal :=
  intOp shiftLeft d a b w s

/-- SRL: a shifted right by b mod n, zeros in (04_context R111). -/
def execSrl (d a b : BitVec 5) (w : BitVec 1) (s : State) : Host.Outcome State Fault Refusal :=
  intOp shiftRight d a b w s

/-- SRA: a shifted right by b mod n, sign in (04_context R111). -/
def execSra (d a b : BitVec 5) (w : BitVec 1) (s : State) : Host.Outcome State Fault Refusal :=
  intOp shiftRightSigned d a b w s

/-- MUL: the low n bits of a x b (04_context R111). -/
def execMul (d a b : BitVec 5) (w : BitVec 1) (s : State) : Host.Outcome State Fault Refusal :=
  intOp (fun n a b => a * b % 2 ^ n) d a b w s

/-- DIV: the signed quotient (04_context R113). -/
def execDiv (d a b : BitVec 5) (w : BitVec 1) (s : State) : Host.Outcome State Fault Refusal :=
  intOp divSigned d a b w s

/-- DIVU: the unsigned quotient (04_context R113). -/
def execDivu (d a b : BitVec 5) (w : BitVec 1) (s : State) : Host.Outcome State Fault Refusal :=
  intOp divUnsigned d a b w s

/-- REM: the signed remainder (04_context R113). -/
def execRem (d a b : BitVec 5) (w : BitVec 1) (s : State) : Host.Outcome State Fault Refusal :=
  intOp remSigned d a b w s

/-- REMU: the unsigned remainder (04_context R113). -/
def execRemu (d a b : BitVec 5) (w : BitVec 1) (s : State) : Host.Outcome State Fault Refusal :=
  intOp remUnsigned d a b w s

/-- ROL: a rotated left by b mod n (04_context R111). -/
def execRol (d a b : BitVec 5) (w : BitVec 1) (s : State) : Host.Outcome State Fault Refusal :=
  intOp rotateLeft d a b w s

/-- ROR: a rotated right by b mod n (04_context R111). -/
def execRor (d a b : BitVec 5) (w : BitVec 1) (s : State) : Host.Outcome State Fault Refusal :=
  intOp (fun n a b => rotateLeft n a (n - b % n)) d a b w s

/-- CLZ: the leading zero bits of a; n for zero (04_context R111, R112). -/
def execClz (d a : BitVec 5) (w : BitVec 1) (s : State) : Host.Outcome State Fault Refusal :=
  intOp (fun n a _ => leadingZeros n a) d a 0#5 w s

/-- CTZ: the trailing zero bits of a; n for zero (04_context R111, R112). -/
def execCtz (d a : BitVec 5) (w : BitVec 1) (s : State) : Host.Outcome State Fault Refusal :=
  intOp (fun n a _ => trailingZeros n a) d a 0#5 w s

/-- POPC: the one bits of a (04_context R111). -/
def execPopc (d a : BitVec 5) (w : BitVec 1) (s : State) : Host.Outcome State Fault Refusal :=
  intOp (fun n a _ => popCount n a) d a 0#5 w s

/-- AND: a AND b (04_context R111). -/
def execAnd (d a b : BitVec 5) (s : State) : Host.Outcome State Fault Refusal :=
  wordOp (fun a b => a &&& b) d a b s

/-- OR: a OR b (04_context R111). -/
def execOr (d a b : BitVec 5) (s : State) : Host.Outcome State Fault Refusal :=
  wordOp (fun a b => a ||| b) d a b s

/-- XOR: a XOR b (04_context R111). -/
def execXor (d a b : BitVec 5) (s : State) : Host.Outcome State Fault Refusal :=
  wordOp (fun a b => a ^^^ b) d a b s

/-- SLT: 1 if a < b signed, else 0 (04_context R111). -/
def execSlt (d a b : BitVec 5) (s : State) : Host.Outcome State Fault Refusal :=
  wordOp (fun a b => flagWord (decide (a.toInt < b.toInt))) d a b s

/-- SLTU: 1 if a < b unsigned, else 0 (04_context R111). -/
def execSltu (d a b : BitVec 5) (s : State) : Host.Outcome State Fault Refusal :=
  wordOp (fun a b => flagWord (decide (a.toNat < b.toNat))) d a b s

/-- MIN: the signed minimum (04_context R111). -/
def execMin (d a b : BitVec 5) (s : State) : Host.Outcome State Fault Refusal :=
  wordOp (fun a b => if a.toInt ≤ b.toInt then a else b) d a b s

/-- MAX: the signed maximum (04_context R111). -/
def execMax (d a b : BitVec 5) (s : State) : Host.Outcome State Fault Refusal :=
  wordOp (fun a b => if a.toInt ≤ b.toInt then b else a) d a b s

/-- MINU: the unsigned minimum (04_context R111). -/
def execMinu (d a b : BitVec 5) (s : State) : Host.Outcome State Fault Refusal :=
  wordOp (fun a b => if a.toNat ≤ b.toNat then a else b) d a b s

/-- MAXU: the unsigned maximum (04_context R111). -/
def execMaxu (d a b : BitVec 5) (s : State) : Host.Outcome State Fault Refusal :=
  wordOp (fun a b => if a.toNat ≤ b.toNat then b else a) d a b s

/-- MULH: bits [127:64] of the signed product (04_context R111). -/
def execMulh (d a b : BitVec 5) (s : State) : Host.Outcome State Fault Refusal :=
  wordOp (fun a b => BitVec.ofInt 64 (a.toInt * b.toInt / 2 ^ 64)) d a b s

/-- MULHU: bits [127:64] of the unsigned product (04_context R111). -/
def execMulhu (d a b : BitVec 5) (s : State) : Host.Outcome State Fault Refusal :=
  wordOp (fun a b => BitVec.ofNat 64 (a.toNat * b.toNat / 2 ^ 64)) d a b s

/-- ANDN: a AND NOT b (04_context R111). -/
def execAndn (d a b : BitVec 5) (s : State) : Host.Outcome State Fault Refusal :=
  wordOp (fun a b => a &&& ~~~b) d a b s

/-- ADDI: a + i (04_context R114). -/
def execAddi (d a : BitVec 5) (i : BitVec 16) (s : State) : Host.Outcome State Fault Refusal :=
  immOp (fun a i => a + i) d a (sext i.toNat 16) s

/-- ANDI: a AND i (04_context R114). -/
def execAndi (d a : BitVec 5) (i : BitVec 16) (s : State) : Host.Outcome State Fault Refusal :=
  immOp (fun a i => a &&& i) d a (sext i.toNat 16) s

/-- ORI: a OR i (04_context R114). -/
def execOri (d a : BitVec 5) (i : BitVec 16) (s : State) : Host.Outcome State Fault Refusal :=
  immOp (fun a i => a ||| i) d a (zext i.toNat 16) s

/-- XORI: a XOR i (04_context R114). -/
def execXori (d a : BitVec 5) (i : BitVec 16) (s : State) : Host.Outcome State Fault Refusal :=
  immOp (fun a i => a ^^^ i) d a (zext i.toNat 16) s

/-- SLTI: 1 if a < i signed, else 0 (04_context R114). -/
def execSlti (d a : BitVec 5) (i : BitVec 16) (s : State) : Host.Outcome State Fault Refusal :=
  immOp (fun a i => flagWord (decide (a.toInt < i.toInt))) d a (sext i.toNat 16) s

/-- SLTIU: 1 if a < i unsigned, else 0 (04_context R114). -/
def execSltiu (d a : BitVec 5) (i : BitVec 16) (s : State) : Host.Outcome State Fault Refusal :=
  immOp (fun a i => flagWord (decide (a.toNat < i.toNat))) d a (sext i.toNat 16) s

/-- SLLI: a shifted left by the amount (04_context R115). -/
def execSlli (d a : BitVec 5) (x : BitVec 6) (s : State) : Host.Outcome State Fault Refusal :=
  immOp (fun a x => BitVec.ofNat 64 (shiftLeft 64 a.toNat x.toNat)) d a (zext x.toNat 6) s

/-- SRLI: a shifted right by the amount, zeros in (04_context R115). -/
def execSrli (d a : BitVec 5) (x : BitVec 6) (s : State) : Host.Outcome State Fault Refusal :=
  immOp (fun a x => BitVec.ofNat 64 (shiftRight 64 a.toNat x.toNat)) d a (zext x.toNat 6) s

/-- SRAI: a shifted right by the amount, sign in (04_context R115). -/
def execSrai (d a : BitVec 5) (x : BitVec 6) (s : State) : Host.Outcome State Fault Refusal :=
  immOp (fun a x => BitVec.ofNat 64 (shiftRightSigned 64 a.toNat x.toNat)) d a (zext x.toNat 6) s

/-- RORI: a rotated right by the amount (04_context R115). -/
def execRori (d a : BitVec 5) (x : BitVec 6) (s : State) : Host.Outcome State Fault Refusal :=
  immOp (fun a x => BitVec.ofNat 64 (rotateLeft 64 a.toNat (64 - x.toNat))) d a (zext x.toNat 6) s

/-- LUI: sext(imm16) x 65,536 (04_context R116). -/
def execLui (d : BitVec 5) (i : BitVec 16) (s : State) : Host.Outcome State Fault Refusal :=
  .next (s.put d.toNat (sext i.toNat 16 * 65536#64))

/-- ADDPC: PC + 4 x sext(imm16) (04_context R116). -/
def execAddpc (d : BitVec 5) (i : BitVec 16) (s : State) : Host.Outcome State Fault Refusal :=
  .next (s.put d.toNat (branchTarget s.ctx.pc i.toNat 16))

/-- LIW: the sign-extended second word (04_context R116). -/
def execLiw (d : BitVec 5) (i : BitVec 32) (s : State) : Host.Outcome State Fault Refusal :=
  .next (s.onCtx fun t => (t.setG d.toNat (sext i.toNat 32)).retire 2)

/-- LIH: the second word to [63:32], the low half unchanged (04_context R116). -/
def execLih (d : BitVec 5) (i : BitVec 32) (s : State) : Host.Outcome State Fault Refusal :=
  .next (s.onCtx fun t =>
    (t.setG d.toNat (BitVec.ofNat 64 (i.toNat * 2 ^ 32 + (t.g d.toNat).toNat % 2 ^ 32))).retire 2)

end Sys2Proof.Machine
end

