-- ==== Sys2Proof/Machine/LoadStore.lean ====
section
/-! DEFINITION. Scalar loads and stores (04_context R117-R121): issue, the response of a load and the moment a store becomes
visible. -/

namespace Sys2Proof.Machine

open Sys2Proof

/-! ### Counting -/

/-- Whether a queued operation counts in CNTLD (10_buffer R256): TLD counts in CNTTL (09_tile R232). -/
def VOp.isLoad : VOp → Bool
  | .load _ => true
  | _ => false

/-- Whether a queued operation counts in CNTST: TST and TSTX count in CNTTL (09_tile R232). -/
def VOp.isStore : VOp → Bool
  | .store _ => true
  | _ => false

/-- Whether a queued operation is a tile move, which counts in CNTTL. -/
def VOp.isTileMove : VOp → Bool
  | .tld => true
  | .tst _ => true
  | _ => false

/-- How many queued instructions of a slot have an operation of a kind. -/
def countOps (f : VOp → Bool) (slot : Nat) (l : List VCmd) : Nat := (l.filter fun v => v.slot == slot && f v.op).length

/-- How many instructions held in their checks have an operation of a kind. -/
def checkingOf (f : VOp → Bool) (t : Thread) : Nat :=
  match t.checking with
  | some v => if f v.op then 1 else 0
  | none => 0

/-- CNTLD of a thread: its pending-load entries and its vector loads (10_buffer R256). -/
def State.cntld (s : State) (t : ThreadRef) : Nat :=
  (s.thread t).loads.length + countOps VOp.isLoad t.slot (s.core (coreKey t)).loadQ + checkingOf VOp.isLoad (s.thread t)

/-- CNTST of a thread: its outstanding stores and its vector stores (10_buffer R256). -/
def State.cntst (s : State) (t : ThreadRef) : Nat :=
  (s.thread t).stores.length + countOps VOp.isStore t.slot (s.core (coreKey t)).storeQ + checkingOf VOp.isStore (s.thread t)

/-- The engine commands of a thread that have not completed and count in CNTTL, or in CNTCP (10_buffer R256, R258). -/
def State.engineCount (s : State) (t : ThreadRef) (tile : Bool) : Nat :=
  ((s.cluster t.cluster).engine.filter fun e => e.owner == t && e.state != .complete && e.tile == tile).length

/-- CNTCP of a thread: engine commands, and launches not yet QUEUED (10_buffer R256, 12_kernel R325). -/
def State.cntcp (s : State) (t : ThreadRef) : Nat :=
  s.engineCount t false + (s.kernels.filter fun p => p.2.launcher == some t && p.2.state == .queued).length

/-- The tile commands of a thread that have not completed: queued, or in the matrix unit (09_tile R232). -/
def State.tileCommands (s : State) (t : ThreadRef) : Nat :=
  ((s.core (coreKey t)).tileQ.filter fun c => c.slot == t.slot).length +
    match (s.cluster t.cluster).matrix with
    | some (k, c) => if k = t.core ∧ c.slot = t.slot then 1 else 0
    | none => 0

/-- CNTTL of a thread: tile commands, tile moves and the engine commands that name it (09_tile R232, 10_buffer R256). -/
def State.cnttl (s : State) (t : ThreadRef) : Nat :=
  let c := s.core (coreKey t)
  s.tileCommands t + countOps VOp.isTileMove t.slot c.loadQ + countOps VOp.isTileMove t.slot c.storeQ +
    checkingOf VOp.isTileMove (s.thread t) + s.engineCount t true

/-! ### The vector path -/

/-- The tile commands of a thread in its core's queue that have not started. -/
def State.queuedTiles (s : State) (k slot : Nat) : List TCmd := (s.core k).tileQ.filter fun e => e.slot == slot

/-- The tile command of a thread that holds the matrix unit. -/
def State.runningTile (s : State) (k slot : Nat) : List TCmd :=
  match (s.cluster (k / 8)).matrix with
  | some (j, e) => if j = k % 8 ∧ e.slot = slot then [e] else []
  | none => []

/-- Whether a command moves a tile's record: an event of the vector path (11_ordering R275). -/
def TCmd.record? (c : TCmd) : Bool := c.op == .tsave || c.op == .trest

/-- The TSAVE and TREST of a thread that have issued and not completed. -/
def State.recordMoves (s : State) (t : ThreadRef) : List TCmd :=
  (s.queuedTiles (coreKey t) t.slot ++ s.runningTile (coreKey t) t.slot).filter TCmd.record?

/-- Whether the thread has performed every earlier vector-path read (x) or write (y) (11_ordering R275, R291). -/
def State.vectorPathDone (s : State) (t : ThreadRef) (x y : Bool) : Bool :=
  let c := s.core (coreKey t)
  (!x || (!c.loadQ.any (fun v => v.slot == t.slot) && !(s.recordMoves t).any fun e => e.op == .trest)) &&
  (!y || (!c.storeQ.any (fun v => v.slot == t.slot) && !(s.recordMoves t).any fun e => e.op == .tsave))

/-! ### Issue -/

/-- The result of a load of the sz given (04_context R117). -/
def extendLoad (sz m : Nat) : Word :=
  match sz with
  | 0 => sext m 8
  | 1 => zext m 8
  | 2 => sext m 16
  | 3 => zext m 16
  | 4 => sext m 32
  | 5 => zext m 32
  | _ => BitVec.ofNat 64 m

/-- The bytes of a load or store of the sz given (04_context R117). -/
def accessBytes (sz : Nat) : Nat := 2 ^ (sz / 2)

/-- A pending entry added to the running thread, in program order. -/
def Thread.owe (t : Thread) (l : PendingLoad) : Thread :=
  { t with loads := t.loads ++ [{ l with seq := t.nextSeq }], nextSeq := t.nextSeq + 1 }

/-- A store added to the running thread's outstanding stores, in program order. -/
def Thread.buffer (t : Thread) (x : PendingStore) : Thread :=
  { t with stores := t.stores ++ [{ x with seq := t.nextSeq }], nextSeq := t.nextSeq + 1 }

/-- A scalar load: with 8 loads outstanding it waits; else its checks, and an entry in the pending-load table (04_context
R118, R120). A data breakpoint holds the next issue until the value returns (17_watch R431). -/
def loadOp (sz : Nat) (d a : BitVec 5) (o : BitVec 13) (s : State) : Host.Outcome State Fault Refusal :=
  let n := accessBytes sz
  let ea := effective (s.ctx.g a.toNat) o.toNat 13
  if 8 ≤ s.cntld s.cur then .next s.block
  else
    match s.scalarAccess ea n false (!bit s.ctx.bpctl 3) false with
    | .stop s1 => .next s1
    | .ok p s1 =>
      let watch := if bit s1.ctx.bpctl 3 then (s1.ctx.watchHit true false ea n).map fun b => (s1.ctx.pc, b) else none
      let l : PendingLoad :=
        { seq := 0, rd := d.toNat, kind := .load sz, place := p, bytes := n, holds := watch.isSome, watchPc := watch }
      .next ((s1.touchCaches s1.cur p).onCtx fun t => (t.owe l).retire 1)

/-- A scalar store: with 16 stores outstanding it waits; else its checks, and a place among the outstanding stores
(04_context R118, R120). -/
def storeOp (sz : Nat) (v a : BitVec 5) (o : BitVec 13) (s : State) : Host.Outcome State Fault Refusal :=
  let n := accessBytes sz
  let ea := effective (s.ctx.g a.toNat) o.toNat 13
  let x := (s.ctx.g v.toNat).toNat % 256 ^ n
  if 16 ≤ s.cntst s.cur then .next s.block
  else
    match s.scalarAccess ea n true false (!bit s.ctx.bpctl 3 || x == s.ctx.bpdata.toNat) with
    | .stop s1 => .next s1
    | .ok p s1 =>
      .next ((s1.touchCaches s1.cur p).onCtx fun t =>
        (t.buffer { seq := 0, place := p, bytes := n, value := x }).retire 1)

/-- LB: one byte, sign-extended (04_context R117). -/
def execLb (d a : BitVec 5) (o : BitVec 13) (s : State) : Host.Outcome State Fault Refusal := loadOp 0 d a o s

/-- LBU: one byte, zero-extended (04_context R117). -/
def execLbu (d a : BitVec 5) (o : BitVec 13) (s : State) : Host.Outcome State Fault Refusal := loadOp 1 d a o s

/-- LH: two bytes, sign-extended (04_context R117). -/
def execLh (d a : BitVec 5) (o : BitVec 13) (s : State) : Host.Outcome State Fault Refusal := loadOp 2 d a o s

/-- LHU: two bytes, zero-extended (04_context R117). -/
def execLhu (d a : BitVec 5) (o : BitVec 13) (s : State) : Host.Outcome State Fault Refusal := loadOp 3 d a o s

/-- LW: four bytes, sign-extended (04_context R117). -/
def execLw (d a : BitVec 5) (o : BitVec 13) (s : State) : Host.Outcome State Fault Refusal := loadOp 4 d a o s

/-- LWU: four bytes, zero-extended (04_context R117). -/
def execLwu (d a : BitVec 5) (o : BitVec 13) (s : State) : Host.Outcome State Fault Refusal := loadOp 5 d a o s

/-- LD: eight bytes (04_context R117). -/
def execLd (d a : BitVec 5) (o : BitVec 13) (s : State) : Host.Outcome State Fault Refusal := loadOp 6 d a o s

/-- SB: the low byte of g[rs] (04_context R117). -/
def execSb (v a : BitVec 5) (o : BitVec 13) (s : State) : Host.Outcome State Fault Refusal := storeOp 0 v a o s

/-- SH: the low two bytes (04_context R117). -/
def execSh (v a : BitVec 5) (o : BitVec 13) (s : State) : Host.Outcome State Fault Refusal := storeOp 2 v a o s

/-- SW: the low four bytes (04_context R117). -/
def execSw (v a : BitVec 5) (o : BitVec 13) (s : State) : Host.Outcome State Fault Refusal := storeOp 4 v a o s

/-- SD: eight bytes (04_context R117). -/
def execSd (v a : BitVec 5) (o : BitVec 13) (s : State) : Host.Outcome State Fault Refusal := storeOp 6 v a o s

/-! ### Responses -/

/-- Whether two byte ranges by location meet. -/
def rangesMeet (a na b nb : Nat) : Bool := decide (a < b + nb) && decide (b < a + na)

/-- The cluster whose storage a location lies in. -/
def clusterOfLoc (l : Nat) : Nat := if l < 2 ^ 63 then (l - 2 ^ 62) / 2 ^ 20 else (l - 2 ^ 63) / 2 ^ 18 / 8

/-- Whether a packet of a cluster towards a location is held at its partition's bell: its target is storage of a cluster that
the bell has stopped (05_traps R143, R144). -/
def State.heldByBell (s : State) (cluster l : Nat) : Bool := Loc.isStorage l && s.sameBell cluster (clusterOfLoc l)

/-- Whether an entry is still to read or change its location. -/
def PendingLoad.touches (l : PendingLoad) : Bool :=
  match l.kind with
  | .result _ _ => false
  | _ => true

/-- The location at which a place lies now (10_buffer R266, 11_ordering R284). -/
def State.locNow (s : State) (p : Place) : Nat := (s.placeNow p).loc

/-- Whether an earlier vector load of thread t stalls at a watermark: the thread's later events follow the WMARK that ends the stall
(12_kernel R321, R323). -/
def State.awaitsMark (s : State) (t : ThreadRef) (seq : Nat) : Bool :=
  (s.core (coreKey t)).loadQ.any fun c => c.slot == t.slot && c.stalled && decide (c.seq < seq)

/-- Whether an access of thread t with the sequence number given may be performed at its place now: no earlier scalar access
of the thread to the same bytes is outstanding, apart from stores when `past` allows reading them early (11_ordering R278,
R280), nothing freezes the granule, no bell holds the packet, no earlier load of the thread waits for a watermark (12_kernel R323), and the
place and the caches on the way accept it. -/
def State.mayPerform (s : State) (t : ThreadRef) (seq : Nat) (p : Place) (n : Nat) (past : Bool) : Bool :=
  let x := s.thread t
  let at0 := s.locNow p
  !(x.loads.any fun l => decide (l.seq < seq) && l.touches && rangesMeet (s.locNow l.place) l.bytes at0 n) &&
  (past || !(x.stores.any fun w => decide (w.seq < seq) && rangesMeet (s.locNow w.place) w.bytes at0 n)) &&
  !(Loc.isPhys at0 && s.frozen at0 n) && !s.heldByBell t.cluster at0 && s.siteReady t.cluster at0 && !s.awaitsMark t seq &&
  !(p.cached && s.underTest (onCachePath t at0))

/-- The byte that a load of the sequence number given reads: of the thread's own latest earlier store to it, or the byte at
its place (11_ordering R280). -/
def State.loadByte (s : State) (x : Thread) (seq : Nat) (p : Place) (o : Nat) : Nat :=
  let own := x.stores.filter fun w =>
    decide (w.seq < seq) && decide (s.locNow w.place ≤ p.loc + o) && decide (p.loc + o < s.locNow w.place + w.bytes)
  match own.getLast? with
  | some w => w.value / 256 ^ (p.loc + o - s.locNow w.place) % 256
  | none => (readPlaceByte s p o).toNat

/-- The n bytes from offset o of a place that a load reads. -/
def State.loadBytes (s : State) (x : Thread) (seq : Nat) (p : Place) : Nat → Nat → Nat
  | _, 0 => 0
  | o, n + 1 => s.loadByte x seq p o + 256 * s.loadBytes x seq p (o + 1) n

/-- The thread without one pending entry. -/
def Thread.unowe (t : Thread) (seq : Nat) : Thread := { t with loads := t.loads.filter fun l => l.seq != seq }

/-- A kernel's thread meets an uncorrectable value: the kernel aborts with UNCORRECTABLE (15_page R391). -/
def State.uncorrectable (s : State) (t : ThreadRef) : State :=
  match (s.thread t).kernel with
  | some k => s.abortKernel k 0x42 false
  | none => s

/-- The running thread's instruction meets an uncorrectable value at a location: the event is posted and its kernel aborts; a thread of
no kernel goes on with no register written (15_page R391; log entry 23). -/
def State.poisonStop (s : State) (l : Nat) : State :=
  match s.ctx.kernel with
  | some _ => (s.errorAt l).uncorrectable s.cur
  | none => (s.errorAt l).retire

/-- A data breakpoint matches the value of a load: its destination is not written, and WATCH is taken at the load (17_watch
R431). A thread that has been stopped meanwhile finds the load to do again (04_context R100). -/
def State.watchLoad (s : State) (t : ThreadRef) (pc a : Word) : State :=
  let s1 := s.onThread t fun x => { x.unretire with pc := pc, fetch := [] }
  match (s.thread t).phase with
  | .ready | .waiting =>
    if (s.thread t).owned then s1.onThread t fun x => x.stop .ready else s1.trapAt t causeWatch pc a
  | _ => s1

/-- Whether pending entry k of thread t can be answered now. -/
def State.loadDue (s : State) (t : ThreadRef) (k : Nat) : Bool :=
  match (s.thread t).loads[k]? with
  | some l =>
    match l.kind with
    | .load _ => s.mayPerform t l.seq l.place l.bytes true
    | .result _ _ => true
    | .atHome _ => false
  | none => false

/-- The response of pending entry k of thread t: a load reads its place and writes its register, and a result formed at its
home is written (04_context R118, R120; 05_traps R147). -/
def State.loadRespond (s : State) (t : ThreadRef) (k : Nat) : State :=
  let x := s.thread t
  match x.loads[k]? with
  | none => s
  | some l =>
    let s1 := s.onThread t fun y => y.unowe l.seq
    let p := s.placeNow l.place
    match l.kind with
    | .load sz =>
      if s.readPoisoned p l.bytes then (s1.errorAt p.loc).uncorrectable t
      else
        let v := s.loadBytes x l.seq p 0 l.bytes
        match l.watchPc with
        | some (pc, a) =>
          if BitVec.ofNat 64 v = x.bpdata then s1.watchLoad t pc a
          else ((s1.touchBank p.loc).onThread t fun y => y.setG l.rd (extendLoad sz v)).onRecorded t fun b => b.endStep t pc
        | none => (s1.touchBank p.loc).onThread t fun y => y.setG l.rd (extendLoad sz v)
    | .result v p =>
      s1.onThread t fun y =>
        let y1 := match v with
          | some w => y.setG l.rd w
          | none => y
        let y2 := match p with
          | some b => y1.setP l.pred b
          | none => y1
        { y2 with fctl := accrueFctl y2.fctl (BitVec.ofNat 7 l.conds) }
    | .atHome _ => s

/-- LOAD_RESPONSE: the answer to pending entry k of thread t, when it is due (04_context R120). -/
def execLoadResponse (t : ThreadRef) (k : Nat) (s : State) : Host.Outcome State Fault Refusal :=
  .next (if s.loadDue t k then s.loadRespond t k else s)

/-- Whether outstanding store k of thread t can be performed now. -/
def State.storeDue (s : State) (t : ThreadRef) (k : Nat) : Bool :=
  match (s.thread t).stores[k]? with
  | some w => s.mayPerform t w.seq w.place w.bytes false
  | none => false

/-- Outstanding store k of thread t is performed at its target, or waits there (04_context R120, 12_kernel R313). -/
def State.storePerform (s : State) (t : ThreadRef) (k : Nat) : State :=
  match (s.thread t).stores[k]? with
  | none => s
  | some w =>
    let p := s.placeNow w.place
    match s.writeQuiet (s.thread t).kernel p w.bytes w.value with
    | .waits s1 => s1
    | .dropped s1 => s1
    | .done s1 =>
      let grown := s1.pkg.drafts.length - s.pkg.drafts.length
      let s2 := if w.atHome then s1.wakePlace p w.bytes else s1.settleStore t p w.bytes
      (((s2.touchBank p.loc).onThread t fun x =>
        { (w.pred.elim x fun n => x.setP n true).count 16 grown with stores := x.stores.filter fun v => v.seq != w.seq })).settleThread t

/-- STORE_VISIBLE: outstanding store k of thread t becomes visible at its target, when it is due (04_context R120). -/
def execStoreVisible (t : ThreadRef) (k : Nat) (s : State) : Host.Outcome State Fault Refusal :=
  .next (if s.storeDue t k && !((s.thread t).stores[k]?.any fun w => w.atHome) then s.storePerform t k else s)

end Sys2Proof.Machine
end

