-- ==== Sys2Proof/Machine/Atomics.lean ====
section
/-! DEFINITION. The read-modify-writes that are performed at a location's home: the AMO major (11_ordering R292-R297), stage
barriers (14_barrier R359-R366), rendezvous cells (R368, R369) and the task instructions on a control block's first words
(12_kernel R327). An operation is accepted with its operands captured, and AMO_AT_HOME performs it as one event. -/

namespace Sys2Proof.Machine

open Sys2Proof

/-! ### Operations on a word -/

/-- The new value of an AMO that writes, n bits wide: old, operand and compare value; none where it writes nothing
(11_ordering R293). -/
def amoNew (op n old b c : Nat) : Option Nat :=
  match op with
  | 0 => some ((old + b) % 2 ^ n)
  | 1 => some (old &&& b)
  | 2 => some (old ||| b)
  | 3 => some (old ^^^ b)
  | 4 => some (if toSigned old n ≤ toSigned b n then old else b)
  | 5 => some (if toSigned old n ≤ toSigned b n then b else old)
  | 6 => some (min old b)
  | 7 => some (max old b)
  | 8 => some b
  | 9 => if old = c then some b else none
  | 12 => some (floatAdd (if n = 32 then fmtF32 else fmtF64) 0 false old b).1
  | _ => none

/-- The conditions that an AMO raises: those of AMOFADD's sum (11_ordering R295). -/
def amoConds (op n old b : Nat) : Nat :=
  if op = 12 then (floatAdd (if n = 32 then fmtF32 else fmtF64) 0 false old b).2.toNat else 0

/-- The old value as g[rd] receives it (11_ordering R293). -/
def amoExt (op n old : Nat) : Word := if n = 32 ∧ op ≠ 12 then sext old 32 else zext old n

/-- EXPECTED of a barrier word (14_barrier R359). -/
def barExpected (w : Nat) : Nat := slice w 36 20

/-- ARRIVED of a barrier word. -/
def barArrived (w : Nat) : Nat := slice w 16 20

/-- PHASE of a barrier word. -/
def barPhase (w : Nat) : Nat := slice w 0 16

/-- A barrier word from its fields. -/
def barWord (expected arrived phase : Nat) : Nat :=
  expected % 2 ^ 20 * 2 ^ 36 + arrived % 2 ^ 20 * 2 ^ 16 + phase % 2 ^ 16

/-- Whether a barrier word is broken (14_barrier R360). -/
def barBroken (w : Nat) : Bool := barExpected w == 0 || decide (barExpected w ≤ barArrived w) || decide (2 ^ 56 ≤ w)

/-- An arrival: the new word, none where it writes nothing, and whether it completed the phase (14_barrier R361). -/
def arriveWord (w : Nat) : Option Nat × Bool :=
  if barBroken w then (none, false)
  else if barArrived w + 1 = barExpected w then (some (barWord (barExpected w) 0 (barPhase w + 1)), true)
  else (some (barWord (barExpected w) (barArrived w + 1) (barPhase w)), false)

/-- A drop: the new word and whether it completed the phase (14_barrier R361). -/
def dropWord (w : Nat) : Option Nat × Bool :=
  if barBroken w then (none, false)
  else if barExpected w - 1 ≤ barArrived w then (some (barWord (barExpected w - 1) 0 (barPhase w + 1)), true)
  else (some (barWord (barExpected w - 1) (barArrived w) (barPhase w)), false)

/-- What BARARR and BARDROP return: ticket, last and broken (14_barrier R364). -/
def barResult (w : Nat) (last : Bool) : Word :=
  BitVec.ofNat 64 (barPhase w + (if last then 2 ^ 16 else 0) + if barBroken w then 2 ^ 17 else 0)

/-- Whether a ticket has advanced on a barrier word that is not broken (14_barrier R362, R364). -/
def barAdvanced (w ticket : Nat) : Bool :=
  let ahead := (barPhase w + 2 ^ 16 - ticket % 2 ^ 16) % 2 ^ 16
  !barBroken w && decide (1 ≤ ahead) && decide (ahead ≤ 32767)

/-- Whether a rendezvous cell, 16 bytes as one number, is broken (14_barrier R368). -/
def rdvBroken (w : Nat) : Bool := decide (2 ≤ w / 2 ^ 64)

/-- Whether a rendezvous cell is FULL. -/
def rdvFull (w : Nat) : Bool := w / 2 ^ 64 % 2 == 1

/-! ### At the home -/

/-- What a read-modify-write does at its home: the bytes it writes, if any, and its result for the thread. -/
structure HomeEnd where
  write : Option Nat := none
  value : Option Word := none
  pred  : Option Bool := none
  conds : Nat := 0
deriving DecidableEq, Repr

/-- How many bytes a read-modify-write acts on. -/
def HomeOp.bytes : HomeOp → Nat
  | .amo _ n _ _ => n
  | .rdvPut _ | .rdvGet | .tdep | .tarm _ => 16
  | _ => 8

/-- Whether a task state in a control block's word 0 lets TARM start a task: FREE, COMMITTED, FAULTED, CANCELLED (12_kernel
R327). -/
def taskIdle (st : Nat) : Bool := st == 0 || st == 5 || st == 6 || st == 7

/-- What TDEP and TARM return: the old state and count (12_kernel R327). -/
def taskResult (w : Nat) : Word := BitVec.ofNat 64 (w % 16 + w / 2 ^ 64 % 2 ^ 32 * 2 ^ 32)

/-- A read-modify-write on the old contents of its location (11_ordering R293; 14_barrier R364, R369; 12_kernel R327). -/
def HomeOp.apply (op : HomeOp) (old : Nat) : HomeEnd :=
  match op with
  | .amo k n b c =>
    { write := amoNew k (8 * n) old (b.toNat % 256 ^ n) (c.toNat % 256 ^ n)
      value := some (amoExt k (8 * n) old), conds := amoConds k (8 * n) old (b.toNat % 256 ^ n) }
  | .barInit n => { write := some (barWord n.toNat 0 (barPhase old)), value := some (BitVec.ofNat 64 old) }
  | .barArrive => { write := (arriveWord old).1, value := some (barResult old (arriveWord old).2) }
  | .barDrop => { write := (dropWord old).1, value := some (barResult old (dropWord old).2) }
  | .barTest t => { pred := some (barAdvanced old t.toNat) }
  | .rdvPut v =>
    if !rdvBroken old && !rdvFull old then { write := some (v.toNat + 2 ^ 64), pred := some true } else { pred := some false }
  | .rdvGet =>
    if !rdvBroken old && rdvFull old then
      { write := some (old % 2 ^ 64), value := some (BitVec.ofNat 64 old), pred := some true }
    else { pred := some false }
  | .tdep =>
    { write := if old % 16 = 1 ∧ 1 ≤ old / 2 ^ 64 then
        some ((if old / 2 ^ 64 = 1 then 2 else old % 2 ^ 64) + (old / 2 ^ 64 - 1) * 2 ^ 64) else none
      value := some (taskResult old) }
  | .tarm n =>
    { write := if taskIdle (old % 16) then some ((if n = 0#64 then 2 else 1) + n.toNat * 2 ^ 64)
        else if old % 16 = 1 then some (old % 2 ^ 64 + (old / 2 ^ 64 + n.toNat) % 2 ^ 64 * 2 ^ 64) else none
      value := some (taskResult old) }

/-- Whether a read-modify-write is AMOFADD, which no peer performs (16_link R413). -/
def HomeOp.addsFloat : HomeOp → Bool
  | .amo 12 _ _ _ => true
  | _ => false

/-- Whether a read-modify-write leaves cached copies of its line alone: LDA and BARTEST (11_ordering R297). -/
def HomeOp.readOnly : HomeOp → Bool
  | .amo 10 _ _ _ => true
  | .barTest _ => true
  | _ => false

/-- The kernel whose control block stands at a location is READY when its count has reached 0 (12_kernel R327). -/
def State.armedReady (s : State) (p : Place) : State :=
  match s.kernelByHandle (s.blockWordAt p 5) with
  | some (k, x) =>
    if x.state == .armed then
      let (n, s1) := s.takeReadySeq
      s1.enterReady k n
    else s
  | none => s

/-- What TDEP and TARM change beyond the first two words (12_kernel R327). -/
def State.taskEffect (s : State) (op : HomeOp) (p : Place) (old : Nat) : State :=
  match op with
  | .tdep => if old % 16 = 1 ∧ old / 2 ^ 64 = 1 then s.armedReady p else s
  | .tarm _ =>
    if taskIdle (old % 16) then ((s.writeWordAt p 5 0#64).writeWordAt p 6 0#64).writeWordAt p 7 0#64 else s
  | _ => s

/-- The write of a read-modify-write, if it has one. -/
def State.homeWrite (s : State) (kernel : Option Nat) (p : Place) (n : Nat) : Option Nat → WriteEnd
  | none => .done s
  | some x => s.writePlace kernel p n x

/-- Whether the operation of pending entry k of thread t can be performed at its home now. -/
def State.homeDue (s : State) (t : ThreadRef) (k : Nat) : Bool :=
  match (s.thread t).loads[k]? with
  | some l =>
    match l.kind with
    | .atHome _ => s.mayPerform t l.seq l.place l.bytes false
    | _ => false
  | none =>
    match (s.thread t).stores[k - (s.thread t).loads.length]? with
    | some w => w.atHome && s.mayPerform t w.seq w.place w.bytes false
    | none => false

/-- The operation of a pending entry performed at its home: read, changed and written as one event, its result formed; the
cached copies of the line go (11_ordering R293, R297). -/
def State.homePerform (s : State) (t : ThreadRef) (l : PendingLoad) (op : HomeOp) : State :=
  let p := s.placeNow l.place
  if s.readPoisoned p l.bytes then ((s.errorAt p.loc).onThread t fun x => x.unowe l.seq).uncorrectable t
  else
    let old := readPlace s p 0 l.bytes
    let r := op.apply old
    match s.homeWrite (s.thread t).kernel p l.bytes r.write with
    | .waits s1 => s1
    | .dropped s1 => s1
    | .done s1 =>
      let s2 := if op.readOnly then s1.snoopRead p.loc else s1.dropCached p.loc
      let grown := s1.pkg.drafts.length - s.pkg.drafts.length
      let done (e : PendingLoad) : PendingLoad :=
        if e.seq == l.seq then { e with kind := .result r.value r.pred, conds := r.conds } else e
      (((s2.touchBank p.loc).onThread t fun x => { x.count 16 grown with loads := x.loads.map done })).taskEffect op p old

/-- The operation that AMO_AT_HOME names for thread t: entry k of its pending results, or after those its stores (11_ordering
R297). -/
def State.atHome (s : State) (t : ThreadRef) (k : Nat) : State :=
  match (s.thread t).loads[k]? with
  | some l =>
    match l.kind with
    | .atHome op => s.homePerform t l op
    | _ => s
  | none =>
    match (s.thread t).stores[k - (s.thread t).loads.length]? with
    | some w => (s.storePerform t (k - (s.thread t).loads.length)).dropCached (s.locNow w.place)
    | none => s

/-- AMO_AT_HOME: the operation in entry k of thread t reaches its home, when it is due (11_ordering R293, R297). -/
def execAmoAtHome (t : ThreadRef) (k : Nat) (s : State) : Host.Outcome State Fault Refusal :=
  .next (if s.homeDue t k then s.atHome t k else s)

/-! ### Issue -/

/-- The order field of an AMO: an acquire part, a release part (03_encoding R74). -/
def orderAcquires (o : BitVec 2) : Bool := o.getLsbD 0
/-- The release part. -/
def orderReleases (o : BitVec 2) : Bool := o.getLsbD 1

/-- Whether every earlier scalar-path event of the running thread has been performed (11_ordering R296). -/
def State.released (s : State) : Bool := s.ctx.loads.isEmpty && s.ctx.stores.isEmpty

/-- The running thread's earlier stores performed at the scope of a release part, if there is one (11_ordering R291, R296). -/
def State.release (s : State) (scope : Option Nat) : State :=
  match scope with
  | some n => s.flush s.cur n
  | none => s

/-- Whether the result of a read-modify-write is a predicate alone, which no entry of a saved frame's table names (05_traps R147). -/
def HomeOp.predOnly : HomeOp → Bool
  | .barTest _ => true
  | .rdvPut _ => true
  | _ => false

/-- A read-modify-write of the running thread at an address: the outstanding limit and the release part wait; then its
checks, and a pending entry (11_ordering R293, R296; 14_barrier R366). -/
def homeOp (op : HomeOp) (ea : Word) (rd pred : Nat) (acquire : Bool) (release : Option Nat) (s : State) :
    Host.Outcome State Fault Refusal :=
  let write := !op.readOnly
  if 8 ≤ s.cntld s.cur ∨ (release.isSome ∧ !s.released) then .next s.block
  else
    match (s.release release).scalarCheck ea op.bytes write true write fun p => Loc.isPeer p.loc && op.addsFloat with
    | .stop s1 => .next s1
    | .ok p s1 =>
      let l : PendingLoad :=
        { seq := 0, rd := rd, pred := pred, named := !op.predOnly, kind := .atHome op, place := p, bytes := op.bytes, holds := acquire }
      .next (s1.onCtx fun t => (t.owe l).retire 1)

/-- The bytes of an AMO: 4 for .w, 8 for .d (11_ordering R292). -/
def amoBytes (z : BitVec 1) : Nat := if z = 1#1 then 8 else 4

/-- An AMO with a result: the operand and the compare value are captured at issue (11_ordering R293). -/
def amoOp (op : Nat) (d a b : BitVec 5) (z : BitVec 1) (o : BitVec 2) (c : BitVec 3) (s : State) : Host.Outcome State Fault Refusal :=
  homeOp (.amo op (amoBytes z) (s.ctx.g b.toNat) (s.ctx.g d.toNat)) (s.ctx.g a.toNat) d.toNat 0 (orderAcquires o)
    (if orderReleases o then some c.toNat else none) s

/-- AMOADD: the sum (11_ordering R293). -/
def execAmoadd (d a b : BitVec 5) (z : BitVec 1) (o : BitVec 2) (c : BitVec 3) (s : State) :
    Host.Outcome State Fault Refusal := amoOp 0 d a b z o c s

/-- AMOAND (11_ordering R293). -/
def execAmoand (d a b : BitVec 5) (z : BitVec 1) (o : BitVec 2) (c : BitVec 3) (s : State) :
    Host.Outcome State Fault Refusal := amoOp 1 d a b z o c s

/-- AMOOR (11_ordering R293). -/
def execAmoor (d a b : BitVec 5) (z : BitVec 1) (o : BitVec 2) (c : BitVec 3) (s : State) :
    Host.Outcome State Fault Refusal := amoOp 2 d a b z o c s

/-- AMOXOR (11_ordering R293). -/
def execAmoxor (d a b : BitVec 5) (z : BitVec 1) (o : BitVec 2) (c : BitVec 3) (s : State) :
    Host.Outcome State Fault Refusal := amoOp 3 d a b z o c s

/-- AMOMIN: the signed minimum (11_ordering R293). -/
def execAmomin (d a b : BitVec 5) (z : BitVec 1) (o : BitVec 2) (c : BitVec 3) (s : State) :
    Host.Outcome State Fault Refusal := amoOp 4 d a b z o c s

/-- AMOMAX: the signed maximum (11_ordering R293). -/
def execAmomax (d a b : BitVec 5) (z : BitVec 1) (o : BitVec 2) (c : BitVec 3) (s : State) :
    Host.Outcome State Fault Refusal := amoOp 5 d a b z o c s

/-- AMOMINU: the unsigned minimum (11_ordering R293). -/
def execAmominu (d a b : BitVec 5) (z : BitVec 1) (o : BitVec 2) (c : BitVec 3) (s : State) :
    Host.Outcome State Fault Refusal := amoOp 6 d a b z o c s

/-- AMOMAXU: the unsigned maximum (11_ordering R293). -/
def execAmomaxu (d a b : BitVec 5) (z : BitVec 1) (o : BitVec 2) (c : BitVec 3) (s : State) :
    Host.Outcome State Fault Refusal := amoOp 7 d a b z o c s

/-- AMOSWAP (11_ordering R293). -/
def execAmoswap (d a b : BitVec 5) (z : BitVec 1) (o : BitVec 2) (c : BitVec 3) (s : State) :
    Host.Outcome State Fault Refusal := amoOp 8 d a b z o c s

/-- AMOCAS: g[rb] where the old value equals g[rd] (11_ordering R293). -/
def execAmocas (d a b : BitVec 5) (z : BitVec 1) (o : BitVec 2) (c : BitVec 3) (s : State) :
    Host.Outcome State Fault Refusal := amoOp 9 d a b z o c s

/-- AMOFADD: the floating-point sum (R295) (11_ordering R293). -/
def execAmofadd (d a b : BitVec 5) (z : BitVec 1) (o : BitVec 2) (c : BitVec 3) (s : State) :
    Host.Outcome State Fault Refusal := amoOp 12 d a b z o c s

/-- LDA: a read at the home with an acquire part; read permission suffices (11_ordering R293, R294). -/
def execLda (d a : BitVec 5) (z : BitVec 1) (_ : BitVec 3) (s : State) : Host.Outcome State Fault Refusal :=
  homeOp (.amo 10 (amoBytes z) 0#64 0#64) (s.ctx.g a.toNat) d.toNat 0 true none s

/-- STREL: a store performed at its home with a release part; it counts in CNTST (11_ordering R293, R296). -/
def execStrel (a b : BitVec 5) (z : BitVec 1) (c : BitVec 3) (s : State) : Host.Outcome State Fault Refusal :=
  let n := amoBytes z
  if 16 ≤ s.cntst s.cur ∨ !s.released then .next s.block
  else
    match (s.flush s.cur c.toNat).scalarAccess (s.ctx.g a.toNat) n true false true with
    | .stop s1 => .next s1
    | .ok p s1 =>
      .next (s1.onCtx fun t =>
        (t.buffer { seq := 0, place := p, bytes := n, value := (t.g b.toNat).toNat % 256 ^ n, atHome := true }).retire 1)

/-- BARINIT: sets EXPECTED, clears ARRIVED, keeps PHASE, and returns the old word (14_barrier R364). -/
def execBarinit (d a b : BitVec 5) (c : BitVec 3) (s : State) : Host.Outcome State Fault Refusal :=
  homeOp (.barInit (s.ctx.g b.toNat)) (s.ctx.g a.toNat) d.toNat 0 true (some c.toNat) s

/-- BARARR: an arrival; returns the ticket, whether it was the last, whether the word is broken (14_barrier R364). -/
def execBararr (d a : BitVec 5) (c : BitVec 3) (s : State) : Host.Outcome State Fault Refusal :=
  homeOp .barArrive (s.ctx.g a.toNat) d.toNat 0 true (some c.toNat) s

/-- BARTEST: whether the ticket's phase has passed (14_barrier R364). -/
def execBartest (p : BitVec 3) (a b : BitVec 5) (c : BitVec 3) (s : State) : Host.Outcome State Fault Refusal :=
  homeOp (.barTest (s.ctx.g b.toNat)) (s.ctx.g a.toNat) 0 p.toNat true (some c.toNat) s

/-- BARDROP: a drop; returns as BARARR (14_barrier R364). -/
def execBardrop (d a : BitVec 5) (c : BitVec 3) (s : State) : Host.Outcome State Fault Refusal :=
  homeOp .barDrop (s.ctx.g a.toNat) d.toNat 0 true (some c.toNat) s

/-- RDVPUT: fills an EMPTY cell (14_barrier R369). -/
def execRdvput (p : BitVec 3) (a b : BitVec 5) (c : BitVec 3) (s : State) : Host.Outcome State Fault Refusal :=
  homeOp (.rdvPut (s.ctx.g b.toNat)) (s.ctx.g a.toNat) 0 p.toNat true (some c.toNat) s

/-- RDVGET: empties a FULL cell into g[rd]; a failure leaves g[rd] unchanged (14_barrier R369). -/
def execRdvget (d a : BitVec 5) (p : BitVec 3) (c : BitVec 3) (s : State) : Host.Outcome State Fault Refusal :=
  homeOp .rdvGet (s.ctx.g a.toNat) d.toNat p.toNat true (some c.toNat) s

end Sys2Proof.Machine
end

