-- ==== Sys2Proof/Machine/Control.lean ====
section
/-! DEFINITION. Branches and jumps (04_context R122-R124) and predicates (R125). -/

namespace Sys2Proof.Machine

open Sys2Proof

/-- A branch: to PC + 4 x sext(off13) when the condition holds, else the next instruction (04_context R122). -/
def branchOp (taken : Bool) (o : BitVec 13) (s : State) : Host.Outcome State Fault Refusal :=
  .next (if taken then s.onCtx fun t => t.retireTo (branchTarget t.pc o.toNat 13) else s.retire)

/-- The running thread writes p[d] and retires. -/
def State.putP (s : State) (d : Nat) (b : Bool) : State := s.onCtx fun t => (t.setP d b).retire 1

/-- BEQ: taken when the operands are equal (04_context R122). -/
def execBeq (a b : BitVec 5) (o : BitVec 13) (s : State) : Host.Outcome State Fault Refusal :=
  branchOp (s.ctx.g a.toNat == s.ctx.g b.toNat) o s

/-- BNE: taken when they differ (04_context R122). -/
def execBne (a b : BitVec 5) (o : BitVec 13) (s : State) : Host.Outcome State Fault Refusal :=
  branchOp (s.ctx.g a.toNat != s.ctx.g b.toNat) o s

/-- BLT: taken when a < b, signed (04_context R122). -/
def execBlt (a b : BitVec 5) (o : BitVec 13) (s : State) : Host.Outcome State Fault Refusal :=
  branchOp (decide ((s.ctx.g a.toNat).toInt < (s.ctx.g b.toNat).toInt)) o s

/-- BGE: taken when a ≥ b, signed (04_context R122). -/
def execBge (a b : BitVec 5) (o : BitVec 13) (s : State) : Host.Outcome State Fault Refusal :=
  branchOp (decide ((s.ctx.g b.toNat).toInt ≤ (s.ctx.g a.toNat).toInt)) o s

/-- BLTU: taken when a < b, unsigned (04_context R122). -/
def execBltu (a b : BitVec 5) (o : BitVec 13) (s : State) : Host.Outcome State Fault Refusal :=
  branchOp (decide ((s.ctx.g a.toNat).toNat < (s.ctx.g b.toNat).toNat)) o s

/-- BGEU: taken when a ≥ b, unsigned (04_context R122). -/
def execBgeu (a b : BitVec 5) (o : BitVec 13) (s : State) : Host.Outcome State Fault Refusal :=
  branchOp (decide ((s.ctx.g b.toNat).toNat ≤ (s.ctx.g a.toNat).toNat)) o s

/-- BP: taken when the predicate is true (04_context R122). -/
def execBp (p : BitVec 3) (o : BitVec 13) (s : State) : Host.Outcome State Fault Refusal :=
  branchOp (s.ctx.p p.toNat) o s

/-- BNP: taken when the predicate is false (04_context R122). -/
def execBnp (p : BitVec 3) (o : BitVec 13) (s : State) : Host.Outcome State Fault Refusal :=
  branchOp (!s.ctx.p p.toNat) o s

/-- JAL: the link, then the jump (04_context R123). -/
def execJal (d : BitVec 5) (o : BitVec 21) (s : State) : Host.Outcome State Fault Refusal :=
  .next (s.onCtx fun t => (t.setG d.toNat (t.pc + 4#64)).retireTo (branchTarget t.pc o.toNat 21))

/-- JALR: the target is formed before the link is written; a target that is not word-aligned traps (04_context R123). -/
def execJalr (d a : BitVec 5) (i : BitVec 16) (s : State) : Host.Outcome State Fault Refusal :=
  let target := effective (s.ctx.g a.toNat) i.toNat 16
  .next (if target.toNat % 4 ≠ 0 then s.trap causeMisaligned target
    else s.onCtx fun t => (t.setG d.toNat (t.pc + 4#64)).retireTo target)

/-- PCMP: the comparison of two g registers to a predicate (04_context R125). -/
def execPcmp (p : BitVec 3) (a b : BitVec 5) (c : BitVec 3) (s : State) : Host.Outcome State Fault Refusal :=
  .next (s.putP p.toNat (compareCode c.toNat 64 (s.ctx.g a.toNat).toNat (s.ctx.g b.toNat).toNat))

/-- PAND (04_context R125). -/
def execPand (d a b : BitVec 3) (s : State) : Host.Outcome State Fault Refusal :=
  .next (s.putP d.toNat (s.ctx.p a.toNat && s.ctx.p b.toNat))

/-- POR (04_context R125). -/
def execPor (d a b : BitVec 3) (s : State) : Host.Outcome State Fault Refusal :=
  .next (s.putP d.toNat (s.ctx.p a.toNat || s.ctx.p b.toNat))

/-- PXOR (04_context R125). -/
def execPxor (d a b : BitVec 3) (s : State) : Host.Outcome State Fault Refusal :=
  .next (s.putP d.toNat (s.ctx.p a.toNat != s.ctx.p b.toNat))

/-- PNOT (04_context R125). -/
def execPnot (d a : BitVec 3) (s : State) : Host.Outcome State Fault Refusal :=
  .next (s.putP d.toNat (!s.ctx.p a.toNat))

/-- SEL: one of two g registers by a predicate (04_context R125). -/
def execSel (d a b : BitVec 5) (p : BitVec 3) (s : State) : Host.Outcome State Fault Refusal :=
  .next (s.put d.toNat (if s.ctx.p p.toNat then s.ctx.g a.toNat else s.ctx.g b.toNat))

/-- PMOV to a g register: p7 to p0 as bits [7:0], bit 0 reading 1 (04_context R125). -/
def execPmovFromPredicates (d : BitVec 5) (s : State) : Host.Outcome State Fault Refusal :=
  .next (s.put d.toNat (zext (s.ctx.preds ||| 1#8).toNat 8))

/-- PMOV to the predicates: p1 to p7 from bits [7:1] (04_context R125). -/
def execPmovToPredicates (a : BitVec 5) (s : State) : Host.Outcome State Fault Refusal :=
  .next (s.onCtx fun t => Thread.retire { t with preds := BitVec.ofNat 8 (t.g a.toNat).toNat &&& 0xFE#8 } 1)

end Sys2Proof.Machine
end

