-- ==== Sys2Proof/Machine/Csr.lean ====
section
/-! DEFINITION. The control and status registers (04_context R101-R107; 07_vector R175; 09_tile R231; 10_buffer R256; 15_page
R390; 16_link R406, R423; 17_watch R425), the instructions that read and write them (05_traps R151-R153), the seal of the
Seating Plan (16_link R424) and the reduction counters (17_watch R429). -/

namespace Sys2Proof.Machine

open Sys2Proof

/-! ### Reading -/

/-- TMAP: names that are SAVED in [31:16], names that are bound in [15:0] (09_tile R231). -/
def Thread.tmap (t : Thread) : Word :=
  let bitOf (f : TileName → Bool) (k : Nat) : Nat := if f (t.tiles.toArray.getD k .unbound) then 2 ^ k else 0
  let sum (f : TileName → Bool) : Nat := ((List.range 16).map (bitOf f)).foldl (· + ·) 0
  BitVec.ofNat 64 (sum (fun x => x != .unbound) + sum (fun x => x == .saved) * 2 ^ 16)

/-- Trace record K of a core, while the ring holds it (17_watch R427). -/
def Core.record (c : Core) (k : Nat) : Option TraceRecord :=
  if k < c.trcpos ∧ c.trcpos ≤ k + 256 then c.trace[c.trcpos - 1 - k]? else none

/-- The value of a CSR as the running thread reads it (04_context R101, R102). -/
def State.csrRead (s : State) (n : Nat) : Word :=
  let t := s.ctx
  let k := coreKey s.cur
  let c := s.core k
  match n with
  | 0x000 => t.status
  | 0x001 => t.cause
  | 0x002 => t.epc
  | 0x003 => t.tval
  | 0x004 => t.tvec
  | 0x005 => t.scratch
  | 0x006 => t.fctl
  | 0x010 => t.vl
  | 0x011 => t.vtype
  | 0x012 => t.vstart
  | 0x013 => BitVec.ofNat 64 t.vlmax
  | 0x014 => BitVec.ofNat 64 t.vnreg
  | 0x015 => t.vreq
  | 0x016 => t.vslip
  | 0x017 => t.vshare
  | 0x018 => t.vflags
  | 0x020 => t.hvl
  | 0x021 => t.hvtype
  | 0x022 => t.hvstart
  | 0x030 => t.tctl
  | 0x031 => t.tstartrow
  | 0x032 => t.tmap
  | 0x033 => t.tflags
  | 0x034 => t.tshare
  | 0x040 => BitVec.ofNat 64 s.cur.slot
  | 0x041 => BitVec.ofNat 64 s.cur.core
  | 0x042 => BitVec.ofNat 64 (s.clusterNumber s.cur.cluster)
  | 0x043 => BitVec.ofNat 64 (dieOf s.cur)
  | 0x044 => t.khandle
  | 0x045 => t.striplen
  | 0x046 => zext t.asid.toNat 16
  | 0x050 => BitVec.ofNat 64 (s.ptime (dieOf s.cur) / 65536 * 65536)
  | 0x051 => BitVec.ofNat 64 ((s.die (dieOf s.cur)).time.lock.code * 2 ^ 18 + s.skewBound)
  | 0x052 => BitVec.ofNat 64 (match c.released with
    | some r => s.now - r
    | none => 0)
  | 0x053 => t.instret
  | 0x060 => BitVec.ofNat 64 (s.cntld s.cur)
  | 0x061 => BitVec.ofNat 64 (s.cntst s.cur)
  | 0x062 => BitVec.ofNat 64 (s.cntcp s.cur)
  | 0x063 => BitVec.ofNat 64 (s.cnttl s.cur)
  | 0x070 => t.pcsel
  | 0x071 => t.pcread
  | 0x072 => c.trcctl
  | 0x073 => BitVec.ofNat 64 c.trcpos
  | 0x074 => t.trcidx
  | 0x075 => ((c.record t.trcidx.toNat).map (·.w0)).getD 0#64
  | 0x076 => ((c.record t.trcidx.toNat).map (·.w1)).getD 0#64
  | 0x077 => ((c.record t.trcidx.toNat).map (·.w2)).getD 0#64
  | 0x078 => t.smpctl
  | 0x079 => t.smpbase
  | 0x07A => t.bpctl
  | 0x07B => t.bpaddr
  | 0x07C => t.bpmask
  | 0x07D => t.bpdata
  | 0x07E => t.dbgctl
  | 0x108 => zext s.pkg.bidle.toNat 8
  | 0x109 => if s.sealed then 1#64 else 0#64
  | 0x10A => s.pkg.seatbase
  | 0x10B => s.pkg.asidbase
  | 0x10C => s.pkg.qtbase
  | 0x10D => s.pkg.ptbase
  | 0x10E => s.pkg.fqcfg
  | 0x10F => s.pkg.frbase
  | _ => 0#64

/-! ### Writing -/

/-- Whether a CSR has a field that can be written now: the Roll Call registers only until the seal (04_context R101, 16_link
R423). -/
def State.csrWritable (s : State) (n : Nat) : Bool :=
  decide (n ≤ 0x006) || n == 0x012 || n == 0x016 || n == 0x017 || n == 0x018 ||
  (decide (0x020 ≤ n) && decide (n ≤ 0x022)) || n == 0x030 || n == 0x031 || n == 0x033 || n == 0x034 ||
  n == 0x070 || n == 0x072 || n == 0x074 || (decide (0x078 ≤ n) && decide (n ≤ 0x07D)) || n == 0x108 ||
  (decide (0x109 ≤ n) && decide (n ≤ 0x10F) && !s.sealed)

/-- The register x with its field [hi:lo] taken from a written value when that field's value is legal (05_traps R152). -/
def takeField (x new : Word) (hi lo : Nat) (legal : Nat → Bool) : Word :=
  if legal (field new hi lo) then BitVec.ofNat 64 (splice x.toNat lo (hi + 1 - lo) (field new hi lo)) else x

/-- A field of which every value is legal. -/
def anyValue (_ : Nat) : Bool := true

/-- The values of the writable fields of PCSEL that are legal (17_watch R425). -/
def pcselLegal (v : Word) : Bool :=
  decide (field v 12 11 ≤ 2) && decide (field v 10 8 ≤ 4) && decide (field v 7 0 ≤ 17)

/-- Whether thread u stands in the scope instance of the code given that holds thread t (06_group R163). -/
def inScope (scope : Nat) (t u : ThreadRef) : Bool :=
  match scope with
  | 0 => coreKey t == coreKey u
  | 1 => t.cluster == u.cluster
  | 2 => dieOf t == dieOf u
  | _ => true

/-- The threads whose counts a reduction of thread t over a scope gathers: those of its kernel in the scope, or itself when it belongs to
none (17_watch R429). -/
def State.reduced (s : State) (t : ThreadRef) (scope : Nat) : List ThreadRef :=
  match (s.thread t).kernel with
  | some k => ((s.threads.filter fun p => p.2.kernel == some k).map (·.1)).filter (inScope scope t)
  | none => [t]

/-- A write of PCSEL: its legal fields are taken; with every field legal a reduction starts, in place of one in progress
and the reduction reads the counts of the threads given (17_watch R429). -/
def Thread.writePcsel (t : Thread) (v : Word) (ts : List ThreadRef) : Thread :=
  let x := takeField (takeField (takeField t.pcsel v 12 11 fun n => decide (n ≤ 2)) v 10 8 fun n => decide (n ≤ 4)) v 7 0
    fun n => decide (n ≤ 17)
  if pcselLegal v then
    { t with pcsel := setBit x 63 false, reducing := some (ts, []), reduceBy := (field v 7 0, field v 12 11) }
  else { t with pcsel := x }

/-- A write of a CSR of the thread's own context (05_traps R152). -/
def Thread.csrWrite (t : Thread) (n : Nat) (v : Word) : Thread :=
  match n with
  | 0x000 => { t with status := takeField t.status v 3 0 anyValue }
  | 0x001 => { t with cause := takeField t.cause v 7 0 anyValue }
  | 0x002 => { t with epc := takeField t.epc v 63 2 anyValue }
  | 0x003 => { t with tval := v }
  | 0x004 => { t with tvec := takeField t.tvec v 63 2 anyValue }
  | 0x005 => { t with scratch := v }
  | 0x006 => { t with fctl := takeField t.fctl v 13 0 anyValue }
  | 0x012 => { t with vstart := takeField t.vstart v 16 0 fun n => decide (n ≤ 32767) }
  | 0x016 => { t with vslip := takeField t.vslip v 4 0 fun n => decide (n ≤ 16) }
  | 0x017 => { t with vshare := takeField t.vshare v 3 0 fun n => decide (1 ≤ n) }
  | 0x018 => { t with vflags := takeField t.vflags v 6 0 anyValue }
  | 0x020 => { t with hvl := v }
  | 0x021 => { t with hvtype := v }
  | 0x022 => { t with hvstart := v }
  | 0x030 => { t with tctl := takeField (takeField t.tctl v 5 5 anyValue) v 4 0 fun n => decide (1 ≤ n) && decide (n ≤ 16) }
  | 0x031 => { t with tstartrow := takeField (takeField t.tstartrow v 15 15 anyValue) v 5 0 anyValue }
  | 0x033 => { t with tflags := takeField t.tflags v 4 0 anyValue }
  | 0x034 => { t with tshare := takeField t.tshare v 3 0 fun n => decide (1 ≤ n) }
  | 0x074 => { t with trcidx := v }
  | 0x078 => { t with smpctl := takeField t.smpctl v 31 0 anyValue, sampleCount := 0 }
  | 0x079 => { t with smpbase := takeField t.smpbase v 17 0 fun n => n % 64 == 0 && decide (n ≤ 0x2FFC0) }
  | 0x07A => { t with bpctl := takeField t.bpctl v 4 0 anyValue }
  | 0x07B => { t with bpaddr := v }
  | 0x07C => { t with bpmask := v }
  | 0x07D => { t with bpdata := v }
  | _ => t

/-! ### The seal -/

/-- Entry L of the Seating Plan array, as committed memory holds it (16_link R424). -/
def State.seatEntry (s : State) (l : Nat) : Nat := readPlace s { loc := (s.pkg.seatbase.toNat + 2 * l) % 2 ^ 60 } 0 2

/-- The cluster that a Seating Plan entry names, none where a field is out of range (16_link R424). -/
def seatCluster (e : Nat) : Option Nat :=
  if e / 16384 = 0 ∧ e / 512 < Config.dies ∧ e / 16 % 32 < 22 then some (e / 512 * Config.sites + e / 16 % 32 * 16 + e % 16)
  else none

/-- Whether the entries from index l on ascend from a cluster and name enabled clusters (16_link R424). -/
def State.seatsAscend (s : State) : Nat → Nat → Option Nat → Bool
  | 0, _, _ => true
  | n + 1, l, last =>
    match seatCluster (s.seatEntry l) with
    | none => false
    | some c => s.enabled c && (match last with | some p => decide (p < c) | none => true) && s.seatsAscend n (l + 1) (some c)

/-- The check of a seal: 8,192 ascending entries that name enabled clusters, and no enabled cluster left out (16_link
R424). -/
def State.seatOk (s : State) : Bool :=
  s.seatsAscend 8192 0 none && s.enabledCount == 8192

/-- A write of 1 to RCSTATE.SEALED: the check, and either the start of the seal or event 0x0008 (16_link R424). -/
def State.startSeal (s : State) : State :=
  if s.sealed || s.pkg.sealing.isSome then s
  else if s.seatOk then s.onPkg fun g => { g with sealing := some s.now }
  else s.postEvent (dieOf s.cur) 8 s.pkg.seatbase 10#64

/-- A write of PCSEL by thread t (17_watch R429). -/
def State.writePcsel (s : State) (t : ThreadRef) (v : Word) : State :=
  s.onThread t fun x => x.writePcsel v (s.reduced t (field v 10 8))

/-- A write of a CSR by the running thread (05_traps R152). -/
def State.csrWrite (s : State) (n : Nat) (v : Word) : State :=
  match n with
  | 0x070 => s.writePcsel s.cur v
  | 0x072 => s.onCore (coreKey s.cur) fun c => { c with trcctl := takeField c.trcctl v 1 0 anyValue }
  | 0x108 => s.onPkg fun g => { g with bidle := BitVec.ofNat 8 v.toNat, bidleLog := (s.now, BitVec.ofNat 8 v.toNat) :: s.bidleWrites }
  | 0x109 => if bit v 0 then s.startSeal else s
  | 0x10A => s.onPkg fun g => { g with seatbase := if v.toNat % 64 = 0 then v else g.seatbase }
  | 0x10B => s.onPkg fun g => { g with asidbase := v }
  | 0x10C => s.onPkg fun g => { g with qtbase := v }
  | 0x10D => s.onPkg fun g => { g with ptbase := v }
  | 0x10E => s.onPkg fun g => { g with
      fqcfg := takeField (takeField g.fqcfg v 63 16 anyValue) v 15 0 fun n => decide (16 ≤ n) }
  | 0x10F => s.onPkg fun g => { g with frbase := v }
  | _ => s.onCtx fun t => t.csrWrite n v

/-! ### The instructions -/

/-- Whether a CSR instruction must wait before it reads (05_traps R153). Scalar floating-point results accrue in the step
that issues them; only an AMOFADD's are still to come. -/
def State.csrWaits (s : State) (n : Nat) : Bool :=
  let c := s.core (coreKey s.cur)
  match n with
  | 0x006 => s.ctx.loads.any fun l => l.conds != 0 || (match l.kind with | .atHome (.amo 12 _ _ _) => true | _ => false)
  | 0x012 | 0x018 =>
    (c.loadQ.any fun v => v.slot == s.cur.slot) || (c.arithQ.any fun v => v.slot == s.cur.slot) ||
      c.storeQ.any fun v => v.slot == s.cur.slot
  | 0x031 | 0x033 => s.cnttl s.cur != 0
  | _ => false

/-- A CSR instruction: the checks of R152 in order, the wait of R153, the old value to g[rd], the new value if the form
writes. -/
def csrOp (d : BitVec 5) (c : BitVec 12) (word : Word) (writes : Bool) (f : Word → Word) (s : State) :
    Host.Outcome State Fault Refusal :=
  let n := c.toNat
  if !csrAssigned c then .next (s.trap causeIllegal word)
  else if 0x100 ≤ n ∧ !s.ctx.sys then .next (s.trap causePrivilege word)
  else if writes && !s.csrWritable n then .next (s.trap causeIllegal word)
  else if s.csrWaits n then .next s.block
  else
    let old := s.csrRead n
    let new := f old
    if writes && n == 0 && !bit old 3 && bit new 3 then .next (s.trap causePrivilege word)
    else
      let s1 := if writes then s.csrWrite n new else s
      .next (s1.onCtx fun t => (t.setG d.toNat old).retire 1)

/-- CSRR: the value of the CSR (05_traps R151, R152). -/
def execCsrr (d : BitVec 5) (c : BitVec 12) (s : State) : Host.Outcome State Fault Refusal :=
  csrOp d c (wordsValue (.csrr d c)) false id s

/-- CSRW: the old value to g[rd], g[ra] to the CSR (05_traps R151, R152). -/
def execCsrw (d a : BitVec 5) (c : BitVec 12) (s : State) : Host.Outcome State Fault Refusal :=
  csrOp d c (wordsValue (.csrw d a c)) true (fun _ => s.ctx.g a.toNat) s

/-- CSRS: sets the bits of g[ra]; with ra = 0 it only reads (05_traps R151, R152). -/
def execCsrs (d a : BitVec 5) (c : BitVec 12) (s : State) : Host.Outcome State Fault Refusal :=
  csrOp d c (wordsValue (.csrs d a c)) (a != 0) (fun old => old ||| s.ctx.g a.toNat) s

/-- CSRC: clears the bits of g[ra]; with ra = 0 it only reads (05_traps R151, R152). -/
def execCsrc (d a : BitVec 5) (c : BitVec 12) (s : State) : Host.Outcome State Fault Refusal :=
  csrOp d c (wordsValue (.csrc d a c)) (a != 0) (fun old => old &&& ~~~s.ctx.g a.toNat) s

/-! ### Events of these registers -/

/-- RCSTATE_SEAL: the check that a write of SEALED = 1 makes (16_link R424). -/
def execRcstateSeal (s : State) : Host.Outcome State Fault Refusal := .next s.startSeal

/-- Whether a seal that passed its check completes: 20,000 cycles have passed (16_link R424). -/
def State.sealDue (s : State) : Bool :=
  match s.pkg.sealing with
  | some c => !s.sealed && decide (c + 20000 ≤ s.now)
  | none => false

/-- The queues that stand UNMAPPED with work in the table (13_queue R341). -/
def State.queuesWithWork (s : State) : List Nat :=
  (List.range 65536).filter fun q =>
    let w (i : Nat) : Word := s.deviceWord (s.pkg.qtbase.toNat + 64 * q + 8 * i)
    field (w 4) 24 23 == 1 && decide ((w 2).toNat < (w 3).toNat)

/-- The plan is sealed: names, translation and handle serials follow, the home agents look at the queues that have work, and event 0x0020 is
posted (16_link R424, 13_queue R341). -/
def State.seal (s : State) : State :=
  (s.onPkg fun g => { g with boot := .sealed, sealing := none, nextSerial := 1, rewritten := s.queuesWithWork }).postEvent 0 0x20
    (BitVec.ofNat 64 (s.enabledCount)) 1#64

/-- SEAL_COMPLETE: 20,000 cycles after the check passed (16_link R424). -/
def execSealComplete (s : State) : Host.Outcome State Fault Refusal := .next (if s.sealDue then s.seal else s)

/-- PCSEL_WRITE: a write of v to PCSEL by thread t (17_watch R429). -/
def execPcselWrite (t : ThreadRef) (v : BitVec 64) (s : State) : Host.Outcome State Fault Refusal :=
  .next (s.writePcsel t v)

/-- The result of a reduction over event counts (17_watch R429). -/
def reduceCounts (op : Nat) : List Word → Word
  | [] => 0#64
  | c :: r => r.foldl (fun a b => match op with
      | 0 => a + b
      | 1 => if a.toNat ≤ b.toNat then a else b
      | _ => if a.toNat ≤ b.toNat then b else a) c

/-- Whether a reduction of thread t is in progress and its thread is not switched out. -/
def State.reductionDue (s : State) (t : ThreadRef) : Bool := (s.thread t).reducing.isSome && (s.thread t).phase != .switched

/-- The reduction of thread t ends with the counts that it has gathered (17_watch R429). -/
def State.endReduction (s : State) (t : ThreadRef) (cs : List Word) : State :=
  s.onThread t fun y => { y with
    pcread := reduceCounts y.reduceBy.2 cs, pcsel := setBit y.pcsel 63 true, reducing := none }

/-- The request of thread t's reduction reaches the next router: a thread's count is read; with the last one the reduction completes. A
thread whose slot has become FREE contributes no more (17_watch R429). -/
def State.reduce (s : State) (t : ThreadRef) : State :=
  let x := s.thread t
  match x.reducing with
  | none => s
  | some (ts, cs) =>
    match ts.filter fun u => (s.thread u).phase != .free && (s.thread u).kernel == x.kernel with
    | [] => s.endReduction t cs
    | [u] => s.endReduction t (cs ++ [(s.thread u).counts.toArray.getD x.reduceBy.1 0#64])
    | u :: r => s.onThread t fun y => { y with reducing := some (r, cs ++ [(s.thread u).counts.toArray.getD x.reduceBy.1 0#64]) }

/-- PC_REDUCTION_COMPLETE: the reduction that thread t started reads its next count, and with the last completes (17_watch R429). -/
def execPcReductionComplete (t : ThreadRef) (s : State) : Host.Outcome State Fault Refusal :=
  .next (if s.reductionDue t then s.reduce t else s)

end Sys2Proof.Machine
end

