-- ==== Sys2Proof/Machine/Kernel.lean ====
section
/-! DEFINITION. Kernels as programs see them: the launch packet and its validity (12_kernel R298-R300), the partition of a
launch (13_queue R345), and the instructions of the KERNEL major (12_kernel R305-R307, R324-R330). -/

namespace Sys2Proof.Machine

open Sys2Proof

/-! ### The partition table -/

/-- Word w of partition p's entry (13_queue R345). -/
def State.ptWord (s : State) (p w : Nat) : Word := s.deviceWord (s.pkg.ptbase.toNat + 32 * p + 8 * w)

/-- Whether system software has enabled partition p. -/
def State.partEnabled (s : State) (p : Nat) : Bool := bit (s.ptWord p 3) 0

/-- The first logical cluster of partition p, and how many it has. -/
def State.partRun (s : State) (p : Nat) : Nat × Nat := (field (s.ptWord p 0) 12 0, field (s.ptWord p 0) 26 13)

/-- Whether a logical cluster lies in partition p's run. -/
def State.inRun (s : State) (p l : Nat) : Bool :=
  decide ((s.partRun p).1 ≤ l) && decide (l < (s.partRun p).1 + (s.partRun p).2)

/-- The in-service clusters of partition p by physical number, in logical order (13_queue R345). -/
def State.partClusters (s : State) (p : Nat) : List Nat :=
  let r := s.partRun p
  ((List.range r.2).filterMap fun i => s.physicalOf (r.1 + i)).filter fun c => !(s.cluster c).outOfService

/-- The partition of a launch by thread t: its kernel's, or for a thread of no kernel the lowest enabled one that holds its
cluster (13_queue R345; log entry 22). -/
def State.launchPart (s : State) (t : ThreadRef) : Nat :=
  match (s.thread t).kernel.bind s.kernel with
  | some x => x.part
  | none => ((List.range 64).find? fun p => s.partEnabled p && s.inRun p (s.logicalOf t.cluster)).getD 0

/-! ### The packet -/

/-- Whether the level, count and threads-per-core fields of launch word 2 are in range (06_group R158). -/
def levelOk (w : Word) : Bool :=
  let count := field w 31 14
  field w 33 32 != 3 && decide (1 ≤ count) &&
  match field w 13 11 with
  | 1 => decide (count ≤ 65536)
  | 2 => decide (count ≤ 8192)
  | 3 => decide (count ≤ 24)
  | 4 => count == 1
  | _ => false

/-- Whether the tiles of a packet fit a cluster (09_tile R225). -/
def tilesOk (w : Word) : Bool := field w 13 11 == 1 || decide (field w 39 37 * 8 * tpcOf w ≤ 64)

/-- A stream table entry from its four words (03_encoding R94). -/
def streamOf (w0 w1 w2 : Word) : Stream :=
  { role := field w2 1 0, link := bit w2 4, base := w0.toNat, length := w1.toNat }

/-- Whether a stream table entry is valid: no reserved bit, and a length where it has a role (12_kernel R300). -/
def streamOk (w1 w2 w3 : Word) : Bool := field w2 63 5 == 0 && w3 == 0#64 && (field w2 1 0 == 0 || w1 != 0#64)

/-- Whether launch words 0, 2, 5 and 6 make a valid packet; `child` says that a thread of a transactional kernel launches it
(12_kernel R300). -/
def packetOk (w0 w2 w5 w6 : Word) (child : Bool) : Bool :=
  field w2 63 40 == 0 && w0.toNat % 4 == 0 && field w0 63 55 == 0 && levelOk w2 && decide (field w2 36 34 ≤ 4) && tilesOk w2 &&
  w5.toNat % 32 == 0 && w6.toNat % 64 == 0 &&
  (bit w2 0 || (!bit w2 1 && !bit w2 2 && !bit w2 4)) && (!bit w2 1 || child)

/-- The refusal codes of LAUNCH (12_kernel R325). -/
def refusedPacket : Word := 0x8000000000000001#64
/-- No free entry. -/
def refusedEntry : Word := 0x8000000000000002#64
/-- The task control block. -/
def refusedTcb : Word := 0x8000000000000003#64

/-- What a packet's reading yields: its words and its stream table's words. -/
structure Packet where
  words   : List Word
  streams : List Word
deriving DecidableEq, Repr

/-- Word i of a packet. -/
def Packet.word (p : Packet) (i : Nat) : Word := p.words.getD i 0#64

/-- The streams of a packet. -/
def Packet.table (p : Packet) : Vector Stream 16 :=
  Vector.ofFn fun i => streamOf (p.streams.getD (4 * i) 0#64) (p.streams.getD (4 * i + 1) 0#64) (p.streams.getD (4 * i + 2) 0#64)

/-- Whether a packet is valid (12_kernel R300). -/
def Packet.ok (p : Packet) (child : Bool) : Bool :=
  packetOk (p.word 0) (p.word 2) (p.word 5) (p.word 6) child &&
  (List.range 16).all fun i =>
    streamOk (p.streams.getD (4 * i + 1) 0#64) (p.streams.getD (4 * i + 2) 0#64) (p.streams.getD (4 * i + 3) 0#64)

/-- The lowest free entry of the kernel table: unused, or released after its kernel's end (12_kernel R301). -/
def State.freeEntry (s : State) : Option Nat :=
  (List.range 4096).find? fun k =>
    match s.kernel k with
    | none => true
    | some x => x.released

/-- A kernel created from a packet: QUEUED in the entry, with the next launch serial (12_kernel R301, R304). -/
def State.createKernel (s : State) (entry : Nat) (x : Kernel) (p : Packet) : State :=
  { s with
    kernels := Table.set entry { x with
      serial := s.pkg.nextSerial, state := .queued, packet := Vector.ofFn fun i => p.word i, streams := p.table
      acceptedAt := s.now, phaseAt := s.now } s.kernels
    pkg := { s.pkg with nextSerial := s.pkg.nextSerial + 1 } }

/-- Whether a task control block's state lets a kernel that names it be created: FREE, ARMED or READY (12_kernel R325). -/
def tcbAccepts (word0 : Word) : Bool := field word0 2 0 ≤ 2

/-- A kernel that nothing holds becomes ARMED while word 1 of its task control block is above zero, else READY under the next
ready sequence number (12_kernel R304, 13_queue R348). -/
def State.armOrReady (s : State) (k : Nat) : State :=
  match (s.kernel k).bind s.tcbOf with
  | some p =>
    if s.blockWordAt p 1 ≠ 0#64 then s.enterState k .armed
    else s.takeReadySeq.2.enterReady k s.takeReadySeq.1
  | none => s.takeReadySeq.2.enterReady k s.takeReadySeq.1

/-! ### LAUNCH -/

/-- The words from an address on, as the running thread reads them; `none` where the instruction stops, with the state of
the stop (04_context R118). -/
def State.readWords (s : State) (ea : Word) (n : Nat) : Except State (List Word × State) :=
  match s.reach s.agent (.thread s.cur false) true false false ea with
  | (.deny, s1) => .error (s1.trap causeAccess ea)
  | (.walk, s1) => .error s1.block
  | (.place p, s1) =>
    if !s1.mayPerform s1.cur s1.ctx.nextSeq p (8 * n) false then .error s1.block
    else if s1.readPoisoned p (8 * n) then .error (s1.poisonStop p.loc)
    else .ok ((List.range n).map fun i => BitVec.ofNat 64 (readPlace s1 p (8 * i) 8), s1)

/-- The 16 stream entries from an address on, entry by entry, n of them. -/
def State.readStreams (s : State) (ea : Word) : Nat → Except State (List Word × State)
  | 0 => .ok ([], s)
  | n + 1 =>
    match s.readWords ea 4 with
    | .error e => .error e
    | .ok (ws, s1) =>
      match s1.readStreams (ea + 32#64) n with
      | .error e => .error e
      | .ok (r, s2) => .ok (ws ++ r, s2)

/-- A kernel's launcher as a parent: the thread's kernel when that is a transaction (12_kernel R322). -/
def State.parentOf (s : State) (t : ThreadRef) : Option Nat :=
  (s.thread t).kernel.bind fun k => (s.kernel k).bind fun x => if x.txn then some k else none

/-- Whether a packet's task control block can be used: none, or one on a translated DIRECT page in a state that accepts it
(12_kernel R325, 13_queue R350). -/
def State.tcbUsable (s : State) (asid : Nat) (tcb : Word) : Bool :=
  tcb == 0#64 || match s.tcbPlace asid tcb with
    | some p => tcbAccepts (s.blockWordAt p 0)
    | none => false

/-- LAUNCH once its reads are done: refused with a code, or the kernel created (12_kernel R325). -/
def State.launchWith (s : State) (d : Nat) (a : Word) (p : Packet) : State :=
  if !p.ok (s.parentOf s.cur).isSome then s.put d refusedPacket
  else if !s.tcbUsable s.ctx.asid.toNat (p.word 6) then s.put d refusedTcb
  else
    match s.freeEntry with
    | none => s.put d refusedEntry
    | some e =>
      let x : Kernel :=
        { serial := 0, packetAt := some a, asid := s.ctx.asid.toNat, part := s.launchPart s.cur, parent := s.parentOf s.cur
          holdDebug := bit (p.word 2) 3 || bit s.ctx.dbgctl 1, launcher := some s.cur }
      let s1 := s.createKernel e x p
      s1.put d (match s1.kernel e with
        | some y => handleOf e y
        | none => 0#64)

/-- LAUNCH: alignment, the release, the reads of the packet, its stream table and its control block, then the outcome in g[rd]
(12_kernel R325). -/
def execLaunch (d a : BitVec 5) (s : State) : Host.Outcome State Fault Refusal :=
  let ea := s.ctx.g a.toNat
  if ea.toNat % 64 ≠ 0 then .next (s.trap causeMisaligned ea)
  else if !s.released || !s.vectorPathDone s.cur true true then .next s.block
  else
    match (s.flush s.cur 4).readWords ea 8 with
    | .error e => .next e
    | .ok (ws, s1) =>
      let streams := ws.getD 5 0#64
      match (if streams = 0#64 ∨ streams.toNat % 32 ≠ 0 then .ok ([], s1) else s1.readStreams streams 16) with
      | .error e => .next e
      | .ok (ts, s2) =>
        let tcb := ws.getD 6 0#64
        match (if tcb = 0#64 ∨ tcb.toNat % 64 ≠ 0 then .ok ([], s2) else s2.readWords tcb 2) with
        | .error e => .next e
        | .ok (_, s3) => .next (s3.launchWith d.toNat ea { words := ws, streams := ts })

/-! ### TAKE -/

/-- The strip ranges with one replaced. -/
def setStrip (x : Strip) (l : List Strip) : List Strip := l.map fun y => if y.die = x.die then x else y

/-- The strip with most left, the lower die on a tie (12_kernel R307). -/
def richest (l : List Strip) : Option Strip := leastBy (fun x => 2 ^ 65 - (x.e - x.c)) l

/-- The block of a kernel's strips (12_kernel R305). -/
def Kernel.block (x : Kernel) : Nat := if field (x.word 3) 31 0 = 0 then 1024 else field (x.word 3) 31 0

/-- A strip granted from the front of a range: its start, its length, and the ranges left (12_kernel R307). -/
def grantStrip (b : Nat) (x : Strip) (l : List Strip) : Nat × Nat × List Strip :=
  let n := min b (x.e - x.c)
  (x.c, n, setStrip { x with c := x.c + n } l)

/-- One TAKE from a die: its own range, or the upper part of the richest one, or one strip of it; none when nothing is left
(12_kernel R307). -/
def takeStrip (b die : Nat) (l : List Strip) : Option (Nat × Nat × List Strip) :=
  match l.find? fun x => x.die == die && decide (x.c < x.e) with
  | some x => some (grantStrip b x l)
  | none =>
    match richest l with
    | none => none
    | some v =>
      if 2 * b ≤ v.e - v.c then
        let m := v.c + b * ((v.e - v.c) / (2 * b))
        let own : Strip := { die := die, c := m, e := v.e }
        some (grantStrip b own (setStrip own (setStrip { v with e := m } l)))
      else if v.c < v.e then some (grantStrip b v l)
      else none

/-- TAKE: the next strip of the kernel's elements (12_kernel R307). -/
def execTake (d : BitVec 5) (p : BitVec 3) (s : State) : Host.Outcome State Fault Refusal :=
  match s.ctx.kernel.bind fun k => (s.kernel k).map fun x => (k, x) with
  | none => .next (s.onCtx fun t => Thread.retire { (t.setG d.toNat 0#64).setP p.toNat false with striplen := 0#64 } 1)
  | some (k, x) =>
    match takeStrip x.block (dieOf s.cur) x.strips with
    | some (start, n, rest) =>
      .next ((s.onKernel k fun y => { y with strips := rest }).onCtx fun t =>
        Thread.retire { (t.setG d.toNat (BitVec.ofNat 64 start)).setP p.toNat true with striplen := BitVec.ofNat 64 n } 1)
    | none =>
      .next (s.onCtx fun t => Thread.retire { (t.setG d.toNat (x.word 1)).setP p.toNat false with striplen := 0#64 } 1)

/-! ### Watermarks -/

/-- Whether two streams name the same bytes. -/
def Stream.same (x y : Stream) : Bool := x.base == y.base && x.length == y.length

/-- Whether a stream is a linked output: OUT or INOUT with the link flag (12_kernel R320, R321). -/
def Stream.linkedOut (x : Stream) : Bool := x.link && decide (2 ≤ x.role)

/-- The kernels that produce a linked input stream of kernel k: others of its address space, not COMMITTED or ABORTED, with
a linked output of the same bytes; and that output (12_kernel R320, R321). -/
def State.producersOf (s : State) (k asid : Nat) (m : Stream) : List (Nat × Kernel × Stream) :=
  s.kernels.filterMap fun p =>
    if p.1 != k && p.2.asid == asid && p.2.state != .committed && p.2.state != .aborted then
      (p.2.streams.toList.find? fun y => y.linkedOut && y.same m).map fun y => (p.1, p.2, y)
    else none

/-- The producer whose watermark a reader sees: a member of the reader's cohort before any other. -/
def State.producerOf (s : State) (k asid : Nat) (tag : Option Nat) (m : Stream) : Option (Nat × Kernel × Stream) :=
  let l := s.producersOf k asid m
  (l.find? fun p => tag.isSome && p.2.1.tag == tag).or l.head?

/-- The watermark that a reader of a stream of kernel k sees: its producer's for a linked IN stream; else its own (12_kernel R326).
DESIGN CHOICE: with no live producer, none ever or one that has ended, it is the stream's full length; and a stream with a role that is
not linked, which by R321 has no watermark, answers its mark, 0 from its record on: the spec states no value for either (log entry 86). -/
def State.watermark (s : State) (k : Nat) (x : Kernel) (m : Stream) : Nat :=
  if m.role = 1 ∧ m.link then
    match s.producerOf k x.asid x.tag m with
    | some (_, _, y) => y.mark
    | none => m.length
  else m.mark

/-- Whether one of n bytes at an address lies beyond the watermark of a linked IN stream of kernel k, so that its
read stalls: the producer is a member of the reader's cohort that has not ended (12_kernel R321). -/
def State.beyondMark (s : State) (k : Option Nat) (va n : Nat) : Bool :=
  match k.bind fun e => (s.kernel e).map fun x => (e, x) with
  | none => false
  | some (e, x) => x.streams.toList.any fun m =>
      m.role == 1 && m.link &&
      (s.producersOf e x.asid m).any fun p =>
        x.tag.isSome && p.2.1.tag == x.tag && decide (max va (m.base + p.2.2.mark) < min (va + n) (m.base + m.length))

/-- The stream that a handle names for the running thread, an unused entry when it belongs to no kernel. -/
def State.streamOf (s : State) (h : Nat) : Stream :=
  ((s.ctx.kernel.bind s.kernel).map fun x => x.streams.toArray.getD h {}).getD {}

/-- WMARK: raises the watermark of a linked output stream, as a release (12_kernel R326). -/
def execWmark (a : BitVec 5) (h : BitVec 4) (s : State) : Host.Outcome State Fault Refusal :=
  let m := s.streamOf h.toNat
  let n := s.ctx.g a.toNat
  if !m.linkedOut then .next (s.trap causeIllegal (wordsValue (.wmark a h)))
  else if m.length < n.toNat then .next (s.trap causeAccess n)
  else if !s.released || !s.vectorPathDone s.cur true true then .next s.block
  else
    match s.ctx.kernel with
    | none => .next (s.flush s.cur 3).retire
    | some k =>
      .next (((s.flush s.cur 3).onKernel k fun x => { x with
        streams := x.streams.setIfInBounds h.toNat { m with mark := max m.mark n.toNat } }).retire)

/-- WMREAD: the watermark of a stream (12_kernel R326). -/
def execWmread (d : BitVec 5) (h : BitVec 4) (s : State) : Host.Outcome State Fault Refusal :=
  let m := s.streamOf h.toNat
  if m.role = 0 then .next (s.trap causeIllegal (wordsValue (.wmread d h)))
  else
    match s.ctx.kernel.bind fun k => (s.kernel k).map fun x => (k, x) with
    | some (k, x) => .next (s.put d.toNat (BitVec.ofNat 64 (s.watermark k x m)))
    | none => .next (s.put d.toNat 0#64)

/-! ### Tasks and kernels -/

/-- A task instruction's checks: 64-byte alignment, write permission, and a translated DIRECT page (12_kernel R327, 13_queue
R350). -/
def State.taskAccess (s : State) (ea : Word) : Checked :=
  if ea.toNat % 64 ≠ 0 then .stop (s.trap causeMisaligned ea)
  else if field ea 63 56 ≠ 0 then .stop (s.trap causeAccess ea)
  else
    match s.scalarAccess ea 64 true false false with
    | .stop s1 => .stop s1
    | .ok p s1 => if p.direct then .ok p s1 else .stop (s1.trap causeAccess ea)

/-- TDEP and TARM: an entry whose operation is performed at the block's home (12_kernel R327). -/
def taskOp (op : HomeOp) (d : Nat) (ea : Word) (s : State) : Host.Outcome State Fault Refusal :=
  if 8 ≤ s.cntld s.cur ∨ !s.released then .next s.block
  else
    match (s.flush s.cur 4).taskAccess ea with
    | .stop s1 => .next s1
    | .ok p s1 =>
      .next (s1.onCtx fun t => (t.owe { seq := 0, rd := d, kind := .atHome op, place := p, bytes := 16, holds := true }).retire 1)

/-- TDEP: takes one from an ARMED task's count (12_kernel R327). -/
def execTdep (d a : BitVec 5) (s : State) : Host.Outcome State Fault Refusal := taskOp .tdep d.toNat (s.ctx.g a.toNat) s

/-- TARM: arms a task with a count (12_kernel R327). -/
def execTarm (d a b : BitVec 5) (s : State) : Host.Outcome State Fault Refusal :=
  taskOp (.tarm (s.ctx.g b.toNat)) d.toNat (s.ctx.g a.toNat) s

/-- The code of a kernel state in KSTAT (12_kernel R328). -/
def KState.code : KState → Nat
  | .queued => 1
  | .armed => 2
  | .ready => 3
  | .placing => 4
  | .running => 5
  | .draining => 6
  | .done => 7
  | .committing => 8
  | .committed => 9
  | .aborting => 10
  | .aborted => 11
  | .held => 12

/-- The status word of a kernel (12_kernel R328). -/
def Kernel.statusWord (x : Kernel) : Word :=
  BitVec.ofNat 64 (x.state.code + x.status * 2 ^ 8 + min x.attempts 7 * 2 ^ 16 + (if x.escalated then 2 ^ 20 else 0) +
    (if x.cancelled then 2 ^ 21 else 0) + (if x.state == .committed then x.csn % 2 ^ 32 * 2 ^ 32 else 0))

/-- The kernel that the running thread may ask for by a handle: of its own address space unless it has system privilege
(12_kernel R328, R330). -/
def State.kernelFor (s : State) (h : Word) : Option (Nat × Kernel) :=
  (s.kernelByHandle h).bind fun p => if p.2.asid == s.ctx.asid.toNat || s.ctx.sys then some p else none

/-- KSTAT: the status word of the kernel named, 0 when there is none (12_kernel R328). -/
def execKstat (d a : BitVec 5) (s : State) : Host.Outcome State Fault Refusal :=
  .next (s.put d.toNat (match s.kernelFor (s.ctx.g a.toNat) with
    | some (_, x) => x.statusWord
    | none => 0#64))

/-- KABORT: the thread's kernel aborts with SELFABORT; a thread of no kernel stops and is reported (12_kernel R329, 04_context
R105). -/
def execKabort (s : State) : Host.Outcome State Fault Refusal := .next (s.fatal s.cur 0x45 0x45 s.ctx.pc 0#64)

/-! ### Reads by device agents of granules that a commit freezes -/

/-- Whether a commit freezes the doubleword at a virtual address of an address space (12_kernel R316). -/
def State.frozenAt (s : State) (asid : Nat) (va : Word) : Bool := (s.devicePlace asid false va).any fun p => s.frozen p.loc 8

/-- Whether a commit freezes a part of the successor list that a task control block names. -/
def State.listFrozen (s : State) (asid : Nat) (p : Place) : Bool :=
  (List.range (min (s.blockWordAt p 3).toNat 4096)).any fun i => s.frozenAt asid (s.blockWordAt p 2 + BitVec.ofNat 64 (8 * i))

/-- Whether a commit freezes what a cascade from the control block at a place has to read (12_kernel R316, 13_queue R353). -/
def State.cascadeFrozen (s : State) (asid : Nat) (at0 : Word) (p : Place) : Bool :=
  s.pkg.sequencer.isSome && (s.listFrozen asid p ||
    (s.cascadeList asid (s.mem.length + 1) at0 [] (s.successors asid p)).any fun c => match c with
      | .enter a => (s.tcbPlace asid a).any fun q => s.listFrozen asid q
      | .skip _ _ => false)

/-- Whether a commit freezes what the cascade from a kernel's own control block has to read. -/
def State.blockFrozen (s : State) (x : Kernel) : Bool := (s.tcbOf x).any fun p => s.cascadeFrozen x.asid (x.word 6) p

/-- A kernel cancelled: at once where it is not placed, its control block following (12_kernel R330, 13_queue R351). -/
def State.cancelKernel (s : State) (k : Nat) (x : Kernel) : State :=
  let s1 := (s.cancelEntry k).2
  if x.state.unplaced then s1.endCancelled k else s1

/-- KCANCEL of a handle (12_kernel R330). -/
def execKcancel (d a : BitVec 5) (s : State) : Host.Outcome State Fault Refusal :=
  match s.kernelFor (s.ctx.g a.toNat) with
  | none => .next (s.put d.toNat 2#64)
  | some (k, x) =>
    if x.state.unplaced && s.blockFrozen x then .next s.block
    else if x.state.unplaced || x.state.abortable then .next ((s.put d.toNat 0#64).cancelKernel k x)
    else .next (s.put d.toNat 1#64)

/-- KCANCEL of a task control block: ARMED, READY or FAULTED becomes CANCELLED, its kernel with it, and the cascade runs
(12_kernel R330). It acts at the block's home after the thread's own earlier accesses to it (13_queue R350). -/
def execKcancelTcb (d a : BitVec 5) (s : State) : Host.Outcome State Fault Refusal :=
  match s.taskAccess (s.ctx.g a.toNat) with
  | .stop s1 => .next s1
  | .ok p s1 =>
    if !s1.mayPerform s1.cur s1.ctx.nextSeq p 64 false then .next s1.block
    else if [1, 2, 6].contains (s1.tcbState p) && s1.cascadeFrozen s1.ctx.asid.toNat (s1.ctx.g a.toNat) p then .next s1.block
    else if [1, 2, 6].contains (s1.tcbState p) then
      .next (((s1.put d.toNat 0#64).cancelAt s1.ctx.asid.toNat s1.ctx.sys p).cascade s1.ctx.asid.toNat s1.ctx.sys (s1.ctx.g a.toNat) p)
    else .next (s1.put d.toNat 1#64)

/-- Whether a launch is held: for the debugger, or for its parent's commit (12_kernel R304, R322). -/
def Kernel.heldBack (x : Kernel) : Bool := x.holdDebug || (x.parent.isSome && !bit (x.word 2) 1)

end Sys2Proof.Machine
end

