-- ==== Sys2Proof/Machine/VecRegs.lean ====
section
/-! DEFINITION. Vector registers as one flat string of bits (07_vector R173; 08_vector_ops R202), what a queued vector
instruction reads and writes of them (07_vector R183), the three queues of a core (R182), the acceptance of an instruction,
and VCFG and SETVL (R178-R181). -/

namespace Sys2Proof.Machine

open Sys2Proof

/-! ### Registers as bit strings -/

/-- The bits of one vector register. -/
def Thread.vbits (t : Thread) : Nat := 8 * t.vlmax

/-- The n bits from position pos of the flat string v0, v1, ...; n is at most a register's length. -/
def Thread.bitsAt (t : Thread) (pos n : Nat) : Nat :=
  let r := pos / t.vbits
  let o := pos % t.vbits
  if o + n ≤ t.vbits then slice (t.v r) o n
  else slice (t.v r) o (t.vbits - o) + slice (t.v (r + 1)) 0 (o + n - t.vbits) * 2 ^ (t.vbits - o)

/-- The n bits from position pos replaced. -/
def Thread.setBitsAt (t : Thread) (pos n x : Nat) : Thread :=
  let r := pos / t.vbits
  let o := pos % t.vbits
  if o + n ≤ t.vbits then t.setV r (splice (t.v r) o n x)
  else
    (t.setV r (splice (t.v r) o (t.vbits - o) x)).setV (r + 1)
      (splice (t.v (r + 1)) 0 (o + n - t.vbits) (x / 2 ^ (t.vbits - o)))

/-- Element i of width w of the group that begins at register r (02_numbers R35, 08_vector_ops R202). -/
def Thread.vElem (t : Thread) (r w i : Nat) : Nat := t.bitsAt (r * t.vbits + w * i) w

/-- The mask register m[k] as a bit string; m0 is all ones (00_scope R12). -/
def Thread.maskBits (t : Thread) (k : Nat) : Nat := if k = 0 then 2 ^ (4 * t.vlmax) - 1 else t.masks.toArray.getD k 0

/-! ### A command's type -/

/-- VTYPE.FMT as captured. -/
def VCmd.fmt (c : VCmd) : Nat := field c.vtype 4 0

/-- The element width of the captured format. -/
def VCmd.width (c : VCmd) : Nat := fmtWidth c.fmt

/-- VTYPE.RM as captured. -/
def VCmd.rm (c : VCmd) : Nat := field c.vtype 8 7

/-- VTYPE.SAT as captured. -/
def VCmd.sat (c : VCmd) : Bool := bit c.vtype 9

/-- VTYPE.BLK as captured. -/
def VCmd.blk (c : VCmd) : Nat := field c.vtype 6 5

/-- Whether an operation is a whole-operand instruction (08_vector_ops R205). -/
def VOp.whole : VOp → Bool
  | .red _ | .dot4 | .ext | .ins | .slup | .sldn | .gath | .comp | .iota | .mpopc | .mfirst | .mset | .qnt | .rot => true
  | _ => false

/-- The queue of an operation: 0 load, 1 arithmetic, 2 store (07_vector R182). -/
def VOp.queue : VOp → Nat
  | .load _ | .tld => 0
  | .store _ | .tst _ => 2
  | _ => 1

/-- Elements of a replicated segment (03_encoding R67). -/
def replicateSize (rsz : Nat) : Nat :=
  match rsz with
  | 1 => 1
  | 2 => 4
  | _ => 16

/-- Whether a format is an MX element format. -/
def isMx (f : Nat) : Bool := decide (17 ≤ f) && decide (f ≤ 22)

/-! ### What a command touches -/

/-- A range of bits: of the flat vector string, or of mask register k from 2^40 + k * 2^16 on. -/
abbrev BitRange := Nat × Nat

/-- Whether two ranges share a bit. -/
def BitRange.meets (x y : BitRange) : Bool := decide (max x.1 y.1 < min x.2 y.2)

/-- Whether two lists of ranges share a bit. -/
def rangesShare (l m : List BitRange) : Bool := l.any fun x => m.any fun y => BitRange.meets x y

/-- Elements a to b of width w of the group at register r. -/
def elemRange (m r w a b : Nat) : BitRange := (r * m + w * a, r * m + w * b)

/-- Registers r to r + k - 1 whole. -/
def regRange (m r k : Nat) : BitRange := (r * m, (r + k) * m)

/-- Bits a to b of mask register k; m0 is never written. -/
def maskRange (k a b : Nat) : List BitRange := if k = 0 then [] else [(2 ^ 40 + k * 2 ^ 16 + a, 2 ^ 40 + k * 2 ^ 16 + b)]

/-- A mask register whole. -/
def maskAll (k : Nat) : List BitRange := maskRange k 0 (2 ^ 16)

/-- The element width of the destination of an operation (08_vector_ops R210, R217, R221). -/
def VCmd.destWidth (c : VCmd) : Nat :=
  match c.op with
  | .dot4 => 32
  | .cvt | .qnt | .dqnt => fmtWidth c.vb
  | .plx => 1
  | .pli => 8
  | _ => c.width

/-- What vb' reads for elements a to b (08_vector_ops R206). -/
def VCmd.bRange (c : VCmd) (m a b : Nat) : List BitRange :=
  if c.scalar.isSome then []
  else if c.rsz = 0 then [elemRange m c.vb c.width a b]
  else [elemRange m c.vb c.width (replicateSize c.rsz * c.ridx) (replicateSize c.rsz * (c.ridx + 1))]

/-- The registers of the index group of an indexed access (07_vector R187). -/
def indexRegs (vl vlmax : Nat) : Nat := ceilDiv (vl * 4) vlmax

/-- What a command reads for elements a to b, apart from its index group; a whole-operand one reads whole registers. -/
def VCmd.reads (c : VCmd) (a b : Nat) : List BitRange :=
  let m := 8 * c.vlmax
  let va := elemRange m c.va c.width a b
  let vd := elemRange m c.vd c.width a b
  let mk := maskRange c.msk a b
  match c.op with
  | .load f => mk ++ (if f = .indexed then [regRange m c.va (indexRegs c.vl c.vlmax)] else [])
  | .store f =>
    (if f = .indexed then [regRange m c.va (indexRegs c.vl c.vlmax)] else []) ++
      (if f = .segment then (if isMx c.fmt then [vd, elemRange m (c.vd + 1) 8 (a / 32) (ceilDiv b 32)]
        else (List.range c.nf).map fun k => elemRange m (c.vd + k) c.width a b) else [vd]) ++ mk
  | .tld | .tst _ => maskAll c.mr ++ maskAll c.mc
  | .int o => [va] ++ c.bRange m a b ++ (if o = .macc then [vd] else []) ++ mk
  | .fp o =>
    [va] ++ (if o = .sqrt then [] else c.bRange m a b) ++ (if o = .fma ∨ o = .fms ∨ o = .fnma then [vd] else []) ++ mk
  | .cmp _ | .feq _ => [va] ++ c.bRange m a b ++ mk
  | .maskLogic _ => maskRange c.va a b ++ maskRange c.vb a b
  | .merge => [va] ++ c.bRange m a b ++ mk
  | .mv => va :: mk
  | .mvs => mk
  | .cvt | .plx => va :: mk
  | .pli => [elemRange m c.va 1 a b, vd] ++ mk
  | .dqnt => [va, elemRange m (c.va + 1) 8 (a / 32) (ceilDiv b 32)] ++ mk
  | .mpopc | .mfirst | .mset => maskAll c.va ++ maskAll c.msk
  | .iota => maskAll c.va ++ maskAll c.msk
  | .ins => []
  | .red _ | .dot4 | .gath =>
    regRange m c.va 1 :: ((if c.scalar.isSome then [] else [regRange m c.vb 1]) ++ maskAll c.msk)
  | .ext | .slup | .sldn | .comp | .qnt | .rot => regRange m c.va 1 :: maskAll c.msk

/-- What a command writes for elements a to b; a whole-operand one whole registers. -/
def VCmd.writes (c : VCmd) (a b : Nat) : List BitRange :=
  let m := 8 * c.vlmax
  match c.op with
  | .load .segment =>
    if isMx c.fmt then [elemRange m c.vd c.width a b, elemRange m (c.vd + 1) 8 (a / 32) (ceilDiv b 32)]
    else (List.range c.nf).map fun k => elemRange m (c.vd + k) c.width a b
  | .load _ => [elemRange m c.vd c.width a b]
  | .store _ | .tld | .tst _ | .mpopc | .mfirst | .ext => []
  | .cmp _ | .feq _ | .maskLogic _ => maskRange c.vd a b
  | .mset => maskAll c.vd
  | .dot4 => [regRange m c.vd 1]
  | .ins | .slup | .sldn | .gath | .comp | .iota | .red _ | .rot => [regRange m c.vd 1]
  | .qnt => [regRange m c.vd 2]
  | _ => [elemRange m c.vd c.destWidth a b]

/-- The element ranges that a command has not performed. -/
def VCmd.open_ (c : VCmd) : List (Nat × Nat) :=
  (c.flight.map fun f => (f.1, f.2.1)) ++ if c.next < c.limit then [(c.next, c.limit)] else []

/-- The bits that a command is still to read; a whole-operand one, which a bell may make run again from the beginning with the same result,
holds its sources until it completes (08_vector_ops R205). -/
def VCmd.pendingReads (c : VCmd) : List BitRange :=
  if c.op.whole then c.reads 0 c.limit else c.open_.flatMap fun p => c.reads p.1 p.2

/-- The bits that a command is still to write. -/
def VCmd.pendingWrites (c : VCmd) : List BitRange :=
  if c.op.whole then c.writes 0 c.limit else c.open_.flatMap fun p => c.writes p.1 p.2

/-- The vector and mask registers that a tile command reads at its start (09_tile R233, R237, R238, R242). -/
def TCmd.reads (c : TCmd) : List BitRange :=
  let m := 8 * c.vlmax
  match c.op with
  | .mopa | .mops | .mopan => [regRange m c.va 1, regRange m c.vb 1] ++ maskAll c.mr ++ maskAll c.mc
  | .mma16 => [regRange m c.va 16, regRange m c.vb 16] ++ maskAll c.mr ++ maskAll c.mc ++ maskAll c.mdep
  | .mma16s => [regRange m c.va 16, regRange m c.vb 16, regRange m c.vsa 1, regRange m c.vsb 1] ++ maskAll c.mr ++ maskAll c.mc ++
      maskAll c.mdep
  | .trdv | .trdc => maskAll c.mr ++ maskAll c.mc
  | .twrv | .twrc => regRange m c.va 1 :: (maskAll c.mr ++ maskAll c.mc)
  | .mprom | .mzero | .tsave | .trest => []

/-- The vector register that a tile command writes. -/
def TCmd.writes (c : TCmd) : List BitRange :=
  match c.op with
  | .trdv | .trdc => [regRange (8 * c.vlmax) c.va 1]
  | _ => []

/-! ### The queues -/

/-- A queue of a core by its number (07_vector R182). -/
def Core.queue (c : Core) (q : Nat) : List VCmd :=
  match q with
  | 0 => c.loadQ
  | 1 => c.arithQ
  | _ => c.storeQ

/-- A core with one of its queues changed. -/
def Core.onQueue (c : Core) (q : Nat) (f : List VCmd → List VCmd) : Core :=
  match q with
  | 0 => { c with loadQ := f c.loadQ }
  | 1 => { c with arithQ := f c.arithQ }
  | _ => { c with storeQ := f c.storeQ }

/-- Every vector instruction of a core that has not completed. -/
def Core.commands (c : Core) : List VCmd := c.loadQ ++ c.arithQ ++ c.storeQ

/-- The entries that a queue's instructions hold: those not yet dispatched, and whole-operand ones until they complete
(07_vector R182). -/
def queueEntries (l : List VCmd) : Nat := (l.filter fun v => !v.left || v.op.whole).length

/-- The state with a vector instruction, named by its slot and sequence number, changed. -/
def State.onCmd (s : State) (k : Nat) (v : VCmd) (f : VCmd → VCmd) : State :=
  s.onCore k fun c => c.onQueue v.op.queue fun l => l.map fun x => if x.slot == v.slot && x.seq == v.seq then f x else x

/-- The state without a vector instruction. -/
def State.dropCmd (s : State) (k : Nat) (v : VCmd) : State :=
  s.onCore k fun c => c.onQueue v.op.queue fun l => l.filter fun x => !(x.slot == v.slot && x.seq == v.seq)

/-- The earlier vector instructions of the thread of an instruction. -/
def State.earlierCmds (s : State) (k slot seq : Nat) : List VCmd :=
  (s.core k).commands.filter fun e => e.slot == slot && decide (e.seq < seq)

/-- Whether a vector memory instruction's byte range and the record of a TSAVE or TREST overlap by their virtual addresses (07_vector
R183). -/
def VCmd.meetsRecord (v : VCmd) (c : TCmd) : Bool :=
  match v.span with
  | some (a, b) => c.record? && decide (a ≤ c.ea.toNat + 2047) && decide (c.ea.toNat ≤ b)
  | none => false

/-- What the running thread captures for a vector instruction (07_vector R177). -/
def State.capture (s : State) (op : VOp) (vd va vb msk word : Nat) : VCmd :=
  let t := s.ctx
  { seq := 0, slot := s.cur.slot, op := op, vd := vd, va := va, vb := vb, msk := msk, vl := t.vl.toNat, vreq := t.vreq.toNat
    vstart := t.vstart.toNat, vtype := t.vtype, vlmax := t.vlmax, asid := t.asid.toNat, sys := t.sys, kernel := t.kernel
    pc := t.pc, word := word, limit := t.vl.toNat, next := t.vstart.toNat, issuedAt := s.now }

/-- Whether the next vector instruction of a thread is sampled (17_watch R430). -/
def Thread.samples (t : Thread) : Bool := field t.smpctl 31 0 != 0 && (t.sampleCount + 1) % field t.smpctl 31 0 == 0

/-- A vector instruction of thread t enters its queue under the next sequence numbers; VSTART is 0 from then on (07_vector
R177, R182, R183). An instruction that its checks have cut short is counted when it completes its issue. -/
def State.acceptVector (s : State) (t : ThreadRef) (c : VCmd) : State :=
  let x := s.thread t
  let v := { c with seq := x.nextSeq, vseq := x.vecSeq, instret := x.instret, sampled := x.samples && !c.cut }
  (s.onCore (coreKey t) fun k => k.onQueue c.op.queue fun l => l ++ [v]).onThread t fun y => { y with
    nextSeq := y.nextSeq + 1, vecSeq := y.vecSeq + 1, vstart := 0#64
    sampleCount := if c.cut then y.sampleCount else y.sampleCount + 1 }

/-- Whether the queue of an operation on the running thread's core has no free entry. -/
def State.queueFull (s : State) (op : VOp) : Bool := decide (16 ≤ queueEntries ((s.core (coreKey s.cur)).queue op.queue))

/-! ### VCFG and SETVL -/

/-- Whether every earlier vector instruction and tile command of the running thread has completed (07_vector R179). -/
def State.vectorIdle (s : State) : Bool :=
  !((s.core (coreKey s.cur)).commands.any fun v => v.slot == s.cur.slot) && s.tileCommands s.cur == 0

/-- The vector state right after VCFG (07_vector R176, R179). -/
def Thread.configure (t : Thread) (count : Nat) : Thread :=
  { t with
    vnreg := count, vregs := Vector.replicate 64 0, masks := Vector.replicate 8 0
    vl := 0#64, vreq := 0#64, vtype := 0#64, vstart := 0#64 }

/-- VCFG: the register count, and a cleared vector state (07_vector R179). -/
def execVcfg (d : BitVec 5) (n : BitVec 3) (s : State) : Host.Outcome State Fault Refusal :=
  if !s.vectorIdle then .next s.block
  else
    .next (s.onCtx fun t =>
      let u := t.configure (4 * 2 ^ n.toNat)
      (u.setG d.toNat (BitVec.ofNat 64 u.vlmax)).retire 1)

/-- The VTYPE that SETVL would write (07_vector R175). -/
def newVtype (f : BitVec 5) (b r : BitVec 2) (sat : BitVec 1) : Nat :=
  f.toNat + b.toNat * 2 ^ 5 + r.toNat * 2 ^ 7 + sat.toNat * 2 ^ 9 + 2 ^ 10

/-- x rounded down to a multiple of n. -/
def roundDown (x n : Nat) : Nat := x / n * n

/-- SETVL: the element type and the length of the next strip (07_vector R180). -/
def execSetvl (d a f : BitVec 5) (b r : BitVec 2) (x : BitVec 1) (s : State) : Host.Outcome State Fault Refusal :=
  let size := blockSize b.toNat
  let e := s.ctx.vbits / fmtWidth f.toNat
  let v := BitVec.ofNat 64 (newVtype f b r x)
  let req := s.ctx.g a.toNat
  if (isMx f.toNat ∧ size < 32) ∨ (24 ≤ f.toNat ∧ size = 1) ∨ roundDown e size = 0 then .next (s.trap causeIllegal v)
  else
    let vl := BitVec.ofNat 64 (min (ceilDiv req.toNat size * size) (roundDown e size))
    .next (s.onCtx fun t => Thread.retire { t.setG d.toNat vl with vtype := v, vreq := req, vl := vl } 1)

end Sys2Proof.Machine
end

