-- ==== Sys2Proof/Machine/System.lean ====
section
/-! DEFINITION. The control instructions of the SYS major: SYSCALL, BREAK, TRAPRET, ISYNC (05_traps R154-R157), FENCE
(11_ordering R289-R291), WAIT (10_buffer R257), YIELD and EXIT (06_group R170-R172), YIELDW (14_barrier R370, R371), TIME
(16_link R407); what a word that is no instruction and a fault on a fetch raise; and the waking of YIELDED threads. -/

namespace Sys2Proof.Machine

open Sys2Proof

/-! ### Traps by instruction -/

/-- SYSCALL: it retires, then raises SYSCALL with EPC at the next instruction; fatal, it is reported at its own PC (05_traps
R155). -/
def execSyscall (c : BitVec 12) (s : State) : Host.Outcome State Fault Refusal :=
  let s1 := s.retire
  .next (if s1.ctx.trapFatal then s1.fatal s.cur 0x44 causeSyscall s.ctx.pc (zext c.toNat 12)
    else s1.trap causeSyscall (zext c.toNat 12))

/-- BREAK: raises BREAK with EPC at itself, or stops the thread under a debugger (05_traps R155). -/
def execBrk (c : BitVec 12) (s : State) : Host.Outcome State Fault Refusal :=
  .next (s.debugTrap causeBreak (zext c.toNat 12))

/-- TRAPRET: the return from a handler; outside handler mode, or with a bank that no thread may resume with, ILLEGAL
(05_traps R156). -/
def execTrapret (s : State) : Host.Outcome State Fault Refusal :=
  .next (if !s.ctx.hm then s.trap causeIllegal 0x4C006000#64
    else if s.ctx.badBank then s.trap causeIllegal s.ctx.hvtype
    else s.onCtx Thread.leaveTrap)

/-- ILLEGAL_WORD: a word that decodes to nothing raises ILLEGAL with the word or words as its value (03_encoding R78,
R79). -/
def execIllegalWord (w1 : BitVec 32) (w2 : Option (BitVec 32)) (s : State) : Host.Outcome State Fault Refusal :=
  let high := match w2 with
    | some w => w.toNat
    | none => 0
  .next (s.trap causeIllegal (BitVec.ofNat 64 (w1.toNat + high * 2 ^ 32)))

/-- FETCH_FAULT_ISSUE: the fault that stands in place of the next instruction's word is taken (06_group R168, 04_context
R124). -/
def execFetchFaultIssue (f : FetchFault) (s : State) : Host.Outcome State Fault Refusal :=
  match f with
  | .access a => .next (s.trap causeAccess a)
  | .pageFault a => .next (s.trap causePageFault a)

/-! ### Waiting -/

/-- ISYNC: waits for the thread's stores, then empties the cluster instruction cache and the thread's fetch buffer (05_traps
R157). -/
def execIsync (s : State) : Host.Outcome State Fault Refusal :=
  if s.cntst s.cur ≠ 0 then .next s.block
  else .next ((s.onCluster s.cur.cluster fun c => { c with icache := [] }).onCtx fun t => { t.retire 1 with fetch := [] })

/-- Whether a pending entry is a read-modify-write or a store on its way to its home, which counts as a write as well as a
read (11_ordering R290). -/
def PendingLoad.writes (l : PendingLoad) : Bool :=
  match l.kind with
  | .atHome _ => true
  | _ => false

/-- Whether a FENCE's condition holds: every earlier event of a selected path and predecessor kind has been performed, and
with [6] every engine command has completed (11_ordering R289-R291). -/
def State.fencePassed (s : State) (b : BitVec 7) : Bool :=
  let reads := b.getLsbD 0 || b.getLsbD 1
  let writes := b.getLsbD 2 || b.getLsbD 3
  let scalar := (!reads || s.ctx.loads.isEmpty) &&
    (!writes || (s.ctx.stores.isEmpty && !s.ctx.loads.any PendingLoad.writes))
  (!b.getLsbD 5 || scalar) && (!b.getLsbD 4 || s.vectorPathDone s.cur reads writes) &&
  (!b.getLsbD 6 || !(s.cluster s.cur.cluster).engine.any fun e => e.owner == s.cur && e.state != .complete)

/-- FENCE: waits for the events it selects, and writes back what the thread has stored as far as the scope asks (11_ordering R290, R291;
14_barrier R371). -/
def execFence (c : BitVec 3) (b : BitVec 7) (s : State) : Host.Outcome State Fault Refusal :=
  .next (if s.fencePassed b then
      (if b.getLsbD 5 && (b.getLsbD 2 || b.getLsbD 3) then s.flush s.cur c.toNat else s).retire
    else s.block)

/-- Whether a WAIT operand is met: 7 ignores the counter (10_buffer R257). -/
def waitMet (n : BitVec 3) (count : Nat) : Bool := n == 7 || decide (count ≤ n.toNat)

/-- The oldest unreported failed operation that a WAIT covers (10_buffer R257). -/
def Thread.failedFor (t : Thread) (c x : BitVec 3) : Option FailedOp :=
  t.failed.find? fun f => if f.tile then x != 7 else c != 7

/-- WAIT: waits for the counts; then the oldest failed, unreported operation that it covers is reported by COPYFAULT
(10_buffer R257). -/
def execWait (l x c t : BitVec 3) (s : State) : Host.Outcome State Fault Refusal :=
  if waitMet l (s.cntld s.cur) && waitMet x (s.cntst s.cur) && waitMet c (s.cntcp s.cur) && waitMet t (s.cnttl s.cur) then
    match s.ctx.failedFor c t with
    | some f => .next ((s.onCtx fun y => { y with failed := y.failed.filter fun g => g.id != f.id }).trap causeCopyFault f.mask)
    | none => .next s.retire
  else .next s.block

/-- TIME: the full PTIME count of the thread's die (16_link R407). -/
def execTime (d : BitVec 5) (s : State) : Host.Outcome State Fault Refusal :=
  .next (s.put d.toNat (BitVec.ofNat 64 (s.ptime (dieOf s.cur))))

/-! ### YIELD and EXIT -/

/-- The other threads of a thread's core that are READY or WAITING, by THREADID (06_group R171). -/
def State.rivals (s : State) (t : ThreadRef) : List Nat :=
  (List.range 4).filter fun i => i != t.slot &&
    ((s.thread ⟨t.cluster, t.core, i⟩).phase == .ready || (s.thread ⟨t.cluster, t.core, i⟩).phase == .waiting)

/-- The thread has issued a YIELD or YIELDW. -/
def Thread.rest (t : Thread) (y : YieldInfo) : Thread := { t.retire 1 with phase := .yielded, yield := some y }

/-- YIELD: the thread is YIELDED until the others have had their turns (06_group R171). -/
def execYield (s : State) : Host.Outcome State Fault Refusal :=
  .next (s.onCtx fun t => t.rest { since := s.now, others := s.rivals s.cur })

/-- EXIT: waits for the thread's loads; the thread retires, its bindings are released, and its kernel may enter DRAINING
(06_group R172, 13_queue R332, 12_kernel R304). -/
def execExit (s : State) : Host.Outcome State Fault Refusal :=
  if s.cntld s.cur ≠ 0 then .next s.block
  else
    let s1 := s.onCtx fun t => { t.retire 1 with phase := .retired, fetch := [], queues := Vector.replicate 16 0#28 }
    let s2 := (s1.releaseCopies s1.cur none).settleTiles s1.cur
    .next (match s2.ctx.kernel with
      | some k => s2.checkRetired k
      | none => s2)

/-- YIELDW: the address's checks, then the thread is YIELDED with the 64 bytes that hold it as its watched line (14_barrier
R370, R371). -/
def execYieldw (d a : BitVec 5) (t : BitVec 12) (s : State) : Host.Outcome State Fault Refusal :=
  match s.scalarAccess (s.ctx.g a.toNat) 1 false false false with
  | .stop s1 => .next s1
  | .ok p s1 =>
    .next (s1.onCtx fun x => x.rest { since := s1.now, watch := some (p.loc / 64 * 64), va := s.ctx.g a.toNat, rd := d.toNat, timeout := t.toNat })

/-- Whether a YIELD of thread t has come to its end: no thread of its set still has to issue, or 31 cycles have passed; and
for YIELDW, a wake has been given (06_group R171, 14_barrier R371). -/
def State.wakeDue (s : State) (t : ThreadRef) : Bool :=
  let x := s.thread t
  match x.recorded, x.yield with
  | .yielded, some y =>
    match y.watch with
    | some _ => y.wake.isSome
    | none => (y.others.all fun o => !(s.rivals t).contains o) || decide (y.since + 31 ≤ s.now)
  | _, _ => false

/-- A YIELDED thread becomes READY; a YIELDW writes its reason, and a single step ends (06_group R171, 14_barrier R371,
17_watch R433). -/
def State.wakeUp (s : State) (t : ThreadRef) : State :=
  let x := s.thread t
  match x.yield with
  | none => s
  | some y =>
    s.onRecorded t fun a => (a.onThread t fun z =>
      let z1 := if y.watch.isSome then z.setG y.rd (BitVec.ofNat 64 (y.wake.getD 0)) else z
      { z1 with phase := .ready, yield := none }).endStep t (x.pc - 4#64)

/-- YIELD_WAKE: thread t wakes, when its wake condition holds (06_group R171, 14_barrier R371). -/
def execYieldWake (t : ThreadRef) (s : State) : Host.Outcome State Fault Refusal :=
  .next (if s.wakeDue t then s.wakeUp t else s)

/-- Whether thread t has a watch that is still to be registered (14_barrier R371). -/
def State.registerDue (s : State) (t : ThreadRef) : Bool :=
  match (s.thread t).recorded, (s.thread t).yield with
  | .yielded, some y => y.watch.isSome && !y.registered && y.wake.isNone
  | _, _ => false

/-- A storage with one more watch, none when its table of 16 is full (14_barrier R371). -/
def Storage.addWatch (x : Storage) (t : ThreadRef) (line : Nat) : Option Storage :=
  if x.watches.length < 16 then some { x with watches := x.watches ++ [(t, line)] } else none

/-- A watch of a line entered in the table of its home; none where the home takes no watch: a full table, a PEER frame, or a page that is
being migrated (14_barrier R371). -/
def State.addWatch (s : State) (t : ThreadRef) (line : Nat) : Option State :=
  if Loc.isPeer line || s.migrating line then none
  else if Loc.void ≤ line then some s
  else if 2 ^ 63 ≤ line then
    let k := (line - 2 ^ 63) / 2 ^ 18
    ((s.core k).localStore.addWatch t line).map fun x => s.onCore k fun c => { c with localStore := x }
  else if 2 ^ 62 ≤ line then
    let c := (line - 2 ^ 62) / 2 ^ 20
    ((s.cluster c).scratchpad.addWatch t line).map fun x => s.onCluster c fun y => { y with scratchpad := x }
  else if Loc.isHost line then some (s.onPkg fun g => { g with watches := g.watches ++ [(t, line)] })
  else
    let same (w : ThreadRef × Nat) : Bool := Loc.isPhys w.2 && channelOf w.2 == channelOf line
    if (s.pkg.watches.filter same).length < 64 then some (s.onPkg fun g => { g with watches := g.watches ++ [(t, line)] })
    else none

/-- The registration of thread t's watch at its line's home (14_barrier R371). -/
def State.register (s : State) (t : ThreadRef) : State :=
  match (s.thread t).yield.bind (·.watch) with
  | none => s
  | some line =>
    match s.addWatch t line with
    | some s1 => s1.onThread t fun x => { x with yield := x.yield.map fun y => { y with registered := true } }
    | none => s.wakeThread t 3

/-- YIELDW_WATCH_REGISTRATION: thread t's watch reaches its line's home (14_barrier R371). -/
def execYieldwWatchRegistration (t : ThreadRef) (s : State) : Host.Outcome State Fault Refusal :=
  .next (if s.registerDue t then s.register t else s)

/-- Whether thread t's YIELDW times out (14_barrier R371). -/
def State.timeoutDue (s : State) (t : ThreadRef) : Bool :=
  match (s.thread t).recorded, (s.thread t).yield with
  | .yielded, some y => y.watch.isSome && y.wake.isNone && decide (0 < y.timeout) && decide (y.since + 256 * y.timeout ≤ s.now)
  | _, _ => false

/-- Thread t wakes by its timeout, its watch withdrawn (14_barrier R371). -/
def State.timeOut (s : State) (t : ThreadRef) : State := (s.withdraw t).wakeThread t 2

/-- YIELDW_TIMEOUT: the timeout of thread t's YIELDW is reached (14_barrier R371). -/
def execYieldwTimeout (t : ThreadRef) (s : State) : Host.Outcome State Fault Refusal :=
  .next (if s.timeoutDue t then s.timeOut t else s)

end Sys2Proof.Machine
end

