-- ==== Sys2Proof/Machine/VecOps.lean ====
section
/-! DEFINITION. The vector operations (08_vector_ops R200-R221): what one element or one whole operand becomes, the checks at
issue, and the instructions of the V-INT, V-FP, V-MASK, V-PERM, V-RED and V-CVT majors with their long forms. -/

namespace Sys2Proof.Machine

open Sys2Proof

/-! ### Operations on one element -/

/-- An integer limited to a range. -/
def clampInt (lo hi i : Int) : Int := if i < lo then lo else if hi < i then hi else i

/-- A V-INT operation on w-bit values; `signed` says that the format is an I format (08_vector_ops R209). -/
def VIntOp.eval (o : VIntOp) (w : Nat) (signed : Bool) (a b d : Nat) : Nat :=
  let half : Int := ((2 ^ (w - 1) : Nat) : Int)
  let top : Int := ((2 ^ w : Nat) : Int) - 1
  match o with
  | .add => (a + b) % 2 ^ w
  | .sub => (a + 2 ^ w - b) % 2 ^ w
  | .mul => a * b % 2 ^ w
  | .mulh => wrap ((if signed then toSigned a w * toSigned b w else ((a * b : Nat) : Int)) / ((2 ^ w : Nat) : Int)) w
  | .min => if toSigned a w ≤ toSigned b w then a else b
  | .max => if toSigned a w ≤ toSigned b w then b else a
  | .minu => Nat.min a b
  | .maxu => Nat.max a b
  | .and => a &&& b
  | .or => a ||| b
  | .xor => a ^^^ b
  | .sll => shiftLeft w a (b % w)
  | .srl => shiftRight w a (b % w)
  | .sra => shiftRightSigned w a (b % w)
  | .sadd => wrap (clampInt (-half) (half - 1) (toSigned a w + toSigned b w)) w
  | .ssub => wrap (clampInt (-half) (half - 1) (toSigned a w - toSigned b w)) w
  | .saddu => wrap (clampInt 0 top ((a : Int) + b)) w
  | .ssubu => wrap (clampInt 0 top ((a : Int) - b)) w
  | .macc => (d + a * b) % 2 ^ w

/-- The format of a V-FP operation. -/
def vectorFloat (f : Nat) : FloatFmt :=
  match fmtOf f with
  | .float x => x
  | _ => fmtF32

/-- A V-FP operation on encodings (08_vector_ops R211). -/
def VFpOp.eval (o : VFpOp) (f : FloatFmt) (rm : Nat) (sat : Bool) (a b d : Nat) : Nat × Conds :=
  let top := 2 ^ (f.width - 1)
  match o with
  | .add => floatAdd f rm sat a b
  | .sub => floatSub f rm sat a b
  | .mul => floatMul f rm sat a b
  | .fma => floatFma f rm sat false false a b d
  | .fms => floatFma f rm sat false true a b d
  | .fnma => floatFma f rm sat true false a b d
  | .div => floatDiv f rm sat a b
  | .sqrt => floatSqrt f rm sat a
  | .min => floatMinMax f false a b
  | .max => floatMinMax f true a b
  | .sgnj => (a % top + b / top % 2 * top, 0#7)
  | .sgnjn => (a % top + (1 - b / top % 2) * top, 0#7)

/-- The comparison c of VFEQ: eq, lt, le, un (08_vector_ops R212). -/
def floatCompare (f : FloatFmt) (c a b : Nat) : Bool × Conds :=
  let x := decodeFloat f a
  let y := decodeFloat f b
  let nan := x.isNan || y.isNan
  let quiet := snanCond x ||| snanCond y
  let loud := if nan then condNV else 0#7
  match c with
  | 0 => (!nan && decide (x.cmp y = 0), quiet)
  | 1 => (!nan && decide (x.cmp y < 0), loud)
  | 2 => (!nan && decide (x.cmp y ≤ 0), loud)
  | _ => (nan, quiet)

/-- An element under an MX scale byte rounded once into a format: VDQNT (08_vector_ops R219, 02_numbers R47). -/
def dequantise (src dst rm : Nat) (sat : Bool) (x scale : Nat) : Nat × Conds :=
  if scale = 255 then ((vectorFloat dst).nan.getD 0, condNV)
  else roundVal (vectorFloat dst) rm sat ((elemValue (fmtOf src) x).scale ((scale : Int) - 127))

/-! ### Element-wise instructions -/

/-- Element i of vb' taken from a register's bit string (08_vector_ops R206). -/
def VCmd.second (c : VCmd) (b w i : Nat) : Nat :=
  match c.scalar with
  | some g => g.toNat % 2 ^ w
  | none => if c.rsz = 0 then elem b w i else elem b w (replicateSize c.rsz * c.ridx + i % replicateSize c.rsz)

/-- What an element-wise instruction computes for element i, with its conditions (08_vector_ops R200). -/
def VCmd.value (c : VCmd) (t : Thread) (i : Nat) : Nat × Conds :=
  let w := c.width
  let a := t.vElem c.va w i
  let b := c.second (t.v c.vb) w i
  let d := t.vElem c.vd w i
  match c.op with
  | .int o => (o.eval w (decide (c.fmt < 4)) a b d, 0#7)
  | .fp o => o.eval (vectorFloat c.fmt) c.rm c.sat a b d
  | .cmp k => (if compareCode k w a b then 1 else 0, 0#7)
  | .feq k => let r := floatCompare (vectorFloat c.fmt) k a b; (if r.1 then 1 else 0, r.2)
  | .maskLogic o =>
    let x := t.maskBit c.va i
    let y := t.maskBit c.vb i
    (if (match o with
      | 0 => x && y
      | 1 => x || y
      | 2 => x != y
      | _ => x && !y) then 1 else 0, 0#7)
  | .merge => (if t.maskBit c.msk i then b else a, 0#7)
  | .mv => (a, 0#7)
  | .mvs => (c.x1.toNat % 2 ^ w, 0#7)
  | .cvt => convert c.fmt c.vb c.rm c.sat a
  | .dqnt => dequantise c.fmt c.vb c.rm c.sat a (t.vElem (c.va + 1) 8 (i / 32))
  | .plx => (if (t.vElem c.va 8 i).testBit (7 - c.vb) then 1 else 0, 0#7)
  | .pli => (putBit (t.vElem c.vd 8 i) (7 - c.vb) (t.vElem c.va 1 i == 1), 0#7)
  | _ => (0, 0#7)

/-- Whether an operation writes a mask register. -/
def VOp.toMask : VOp → Bool
  | .cmp _ | .feq _ | .maskLogic _ | .mset => true
  | _ => false

/-- Element i of the destination set. -/
def VCmd.put (c : VCmd) (t : Thread) (i x : Nat) : Thread :=
  if c.op.toMask then t.setM c.vd (putBit (t.maskBits c.vd) i (x % 2 == 1))
  else t.setBitsAt (c.vd * t.vbits + c.destWidth * i) c.destWidth x

/-- The thread with conditions accrued in VFLAGS (08_vector_ops R204). -/
def Thread.accrueV (t : Thread) (c : Conds) : Thread := { t with vflags := accrueVflags t.vflags c }

/-- Element i performed (08_vector_ops R200, R212). -/
def VCmd.perform (c : VCmd) (t : Thread) (i : Nat) : Thread :=
  let r := c.value t i
  match c.op with
  | .maskLogic _ => c.put t i r.1
  | .merge => c.put t i (if c.vreq ≤ i then 0 else r.1)
  | _ =>
    if c.vreq ≤ i then c.put t i 0
    else if t.maskBit c.msk i then (c.put t i r.1).accrueV r.2
    else t

/-- Elements a to b - 1 performed in ascending order. -/
def VCmd.performRange (c : VCmd) (t : Thread) (a b : Nat) : Thread :=
  (List.range (b - a)).foldl (fun x i => c.perform x (a + i)) t

/-! ### Whole-operand instructions -/

/-- What a whole-operand instruction reads when it starts: va, vb, the mask of mk and the mask register va (08_vector_ops
R205). -/
def Thread.wholeSources (t : Thread) (c : VCmd) : List Nat := [t.v c.va, t.v c.vb, t.maskBits c.msk, t.maskBits c.va]

/-- The captured va. -/
def VCmd.srcA (c : VCmd) : Nat := c.sources.getD 0 0
/-- The captured vb. -/
def VCmd.srcB (c : VCmd) : Nat := c.sources.getD 1 0
/-- The captured mask of mk. -/
def VCmd.srcMask (c : VCmd) : Nat := c.sources.getD 2 0
/-- The captured mask register named by va. -/
def VCmd.srcMaskA (c : VCmd) : Nat := c.sources.getD 3 0

/-- Whether an element is selected: active and not padding. -/
def VCmd.picks (c : VCmd) (i : Nat) : Bool := decide (i < c.vl) && decide (i < c.vreq) && bitAt c.srcMask i

/-- The indices of the selected elements, in order. -/
def VCmd.picked (c : VCmd) : List Nat := (List.range c.vl).filter c.picks

/-- Elements i of a destination of R200 for which `f` answers: its value where active, 0 where padding. -/
def VCmd.fill (c : VCmd) (t : Thread) (f : Nat → Option Nat) : Thread :=
  (List.range c.vl).foldl (fun x i => match f i with
    | none => x
    | some v => if c.vreq ≤ i then c.put x i 0 else if bitAt c.srcMask i then c.put x i v else x) t

/-- Two operands of a reduction tree combined; a position that takes no part gives the other bit for bit (02_numbers
R57). -/
def combine (f : Nat → Nat → Nat × Conds) (u w : Option Nat) : Option Nat × Conds :=
  match u, w with
  | none, w => (w, 0#7)
  | u, none => (u, 0#7)
  | some x, some y => let r := f x y; (some r.1, r.2)

/-- One level of the tree: neighbours combined. -/
def combinePairs (f : Nat → Nat → Nat × Conds) : List (Option Nat) → List (Option Nat) × Conds
  | u :: w :: r => let h := combine f u w; let t := combinePairs f r; (h.1 :: t.1, h.2 ||| t.2)
  | l => (l, 0#7)

/-- The tree over the positions of a block, level by level (02_numbers R57). -/
def combineBlock (f : Nat → Nat → Nat × Conds) : Nat → List (Option Nat) → Option Nat × Conds
  | 0, l => (l.head?.join, 0#7)
  | n + 1, l => let p := combinePairs f l; let r := combineBlock f n p.1; (r.1, p.2 ||| r.2)

/-- The canonical reduction over 32-element blocks from a start value (02_numbers R57, R58). -/
def canonicalReduce (f : Nat → Nat → Nat × Conds) (xs : Nat → Option Nat) : Nat → Nat → Option Nat → Option Nat × Conds
  | 0, _, acc => (acc, 0#7)
  | n + 1, b, acc =>
    let y := combineBlock f 5 ((List.range 32).map fun j => xs (32 * b + j))
    let h := combine f acc y.1
    let r := canonicalReduce f xs n (b + 1) h.1
    (r.1, y.2 ||| h.2 ||| r.2)

/-- One step of an integer reduction (08_vector_ops R216). -/
def VRedOp.step (o : VRedOp) (w : Nat) (signed : Bool) (x y : Nat) : Nat :=
  match o with
  | .sum => (x + y) % 2 ^ w
  | .min => if signed then (if toSigned x w ≤ toSigned y w then x else y) else Nat.min x y
  | .max => if signed then (if toSigned x w ≤ toSigned y w then y else x) else Nat.max x y
  | .and => x &&& y
  | _ => x ||| y

/-- The result of a reduction and its conditions (08_vector_ops R216). -/
def VCmd.reduce (c : VCmd) (o : VRedOp) : Nat × Conds :=
  let w := c.width
  let s := c.second c.srcB w 0
  let f := vectorFloat c.fmt
  let tree (g : Nat → Nat → Nat × Conds) : Nat × Conds :=
    let r := canonicalReduce g (fun i => if c.picks i then some (elem c.srcA w i) else none) (ceilDiv c.vl 32) 0 (some s)
    (r.1.getD s, r.2)
  match o with
  | .fsum => tree (floatAdd f c.rm c.sat)
  | .fmax => tree (floatMinMax f true)
  | .fmin => tree (floatMinMax f false)
  | _ => (c.picked.foldl (fun a i => o.step w (decide (c.fmt < 4)) a (elem c.srcA w i)) s, 0#7)

/-- The sum of four products of VDOT4 for output j (08_vector_ops R210). -/
def VCmd.dot (c : VCmd) (j : Nat) : Nat :=
  let signed := decide (c.fmt < 4)
  let num (x : Nat) : Int := if signed then toSigned x 8 else (x : Int)
  let second (k : Nat) : Nat := match c.scalar with
    | some g => g.toNat / 2 ^ (8 * (k % 4)) % 256
    | none => c.second c.srcB 8 k
  wrap (((List.range 4).map fun k =>
    if 4 * j + k < c.vreq then num (elem c.srcA 8 (4 * j + k)) * num (second (4 * j + k)) else 0).foldl (· + ·) 0) 32

/-- One butterfly stage of VROT on 32 elements (02_numbers R60). -/
def butterfly (h : Nat) (y : List Nat) : List Nat × Conds :=
  let r := (List.range 32).map fun j =>
    if j / h % 2 = 0 then floatAdd fmtF32 0 false (y.getD j 0) (y.getD (j + h) 0)
    else floatSub fmtF32 0 false (y.getD (j - h) 0) (y.getD j 0)
  (r.map (·.1), (r.map (·.2)).foldl (· ||| ·) 0#7)

/-- A sign bit inverted where asked. -/
def flipSign (b : Bool) (x : Nat) : Nat := if b then x ^^^ 2 ^ 31 else x

/-- A sign bit inverted where asked, except that of a NaN: a NaN result is the canonical NaN (02_numbers R43). -/
def flipResult (b : Bool) (x : Nat) : Nat := if 0x7F800000 < x % 2 ^ 31 then 0x7FC00000 else flipSign b x

/-- VROT of one 32-element group (02_numbers R60). -/
def VCmd.rotate (c : VCmd) (g : Nat) : List Nat × Conds :=
  let y0 := (List.range 32).map fun j =>
    flipSign (bitAt c.srcMask (32 * g + j)) (if 32 * g + j < c.vreq then elem c.srcA 32 (32 * g + j) else 0)
  let r := (List.range 5).foldl (fun (p : List Nat × Conds) k => let q := butterfly (2 ^ k) p.1; (q.1, p.2 ||| q.2)) (y0, 0#7)
  ((r.1.zip (List.range 32)).map fun p => flipResult (bitAt c.srcMask (32 * g + p.2)) p.1, r.2)

/-- VQNT of block b into the destination registers (08_vector_ops R219). -/
def VCmd.quantise (c : VCmd) (t : Thread) (b : Nat) : Thread :=
  let xs := (List.range 32).map fun j =>
    if 32 * b + j < c.vreq then some (elemValue (fmtOf c.fmt) (elem c.srcA c.width (32 * b + j))) else none
  let q := quantBlock c.vb c.rm xs
  let t1 := (q.1.zip (List.range 32)).foldl (fun x p => c.put x (32 * b + p.2) p.1) t
  (t1.setBitsAt ((c.vd + 1) * t.vbits + 8 * b) 8 q.2.1).accrueV q.2.2

/-- The destinations of a whole-operand instruction, written as it completes (08_vector_ops R205, R210, R212-R220). -/
def VCmd.complete (c : VCmd) (t : Thread) : Thread :=
  let w := c.width
  let e := 8 * c.vlmax / w
  let first := c.picked.find? fun i => bitAt c.srcMaskA i
  match c.op with
  | .mpopc => t.setG c.vd (BitVec.ofNat 64 (c.picked.filter fun i => bitAt c.srcMaskA i).length)
  | .mfirst => t.setG c.vd (match first with
    | some i => BitVec.ofNat 64 i
    | none => BitVec.allOnes 64)
  | .mset =>
    let f := first.getD c.vl
    c.fill t fun i => some (if (match c.vb with
      | 0 => decide (i < f)
      | 1 => decide (i ≤ f)
      | 2 => i == f
      | _ => true) then 1 else 0)
  | .ext =>
    let k := c.x2.toNat
    let x := if k < e then elem c.srcA w k else 0
    t.setG c.vd (if c.fmt < 4 ∨ 24 ≤ c.fmt then sext x w else zext x w)
  | .ins => if c.x2.toNat < e then t.setBitsAt (c.vd * t.vbits + w * c.x2.toNat) w (c.x1.toNat % 2 ^ w) else t
  | .slup => c.fill t fun i => if c.x2.toNat ≤ i then some (elem c.srcA w (i - c.x2.toNat)) else none
  | .sldn => c.fill t fun i => some (if i + c.x2.toNat < c.vl then elem c.srcA w (i + c.x2.toNat) else 0)
  | .gath => c.fill t fun i =>
      let k := c.second c.srcB w i
      some (if k < c.vl then elem c.srcA w k else 0)
  | .comp => (c.picked.zip (List.range c.vl)).foldl (fun x p => c.put x p.2 (elem c.srcA w p.1)) t
  | .iota => c.fill t fun i => some (popCount (min i c.vreq) c.srcMaskA % 2 ^ w)
  | .red o => let r := c.reduce o; (t.setBitsAt (c.vd * t.vbits) w r.1).accrueV r.2
  | .dot4 => (List.range (c.vl / 4)).foldl (fun x j =>
      if c.vreq ≤ 4 * j then c.put x j 0 else if bitAt c.srcMask j then c.put x j (c.dot j) else x) t
  | .qnt => (List.range (c.vl / 32)).foldl (fun x b => c.quantise x b) t
  | .rot => (List.range (c.vl / 32)).foldl (fun x g =>
      let r := c.rotate g
      ((r.1.zip (List.range 32)).foldl (fun y p => c.put y (32 * g + p.2) p.1) x).accrueV r.2) t
  | _ => t

/-! ### The checks at issue -/

/-- Whether an instruction's formats and registers are accepted under the captured VTYPE (08_vector_ops R202, R203, R205,
R209-R221; 03_encoding R82). V-PERM and VCVT take every format that their own tables list, R214 and R217, although 02_numbers R34 lists
fewer units for some of them (DESIGN CHOICE, log entry 92). -/
def VCmd.accepted (c : VCmd) (t : Thread) : Bool :=
  let f := c.fmt
  let one (r : Nat) : Bool := groupFits t r 1
  let kd := groupSize c.vl c.destWidth c.vlmax
  let e := 8 * c.vlmax / c.width
  let b := c.scalar.isSome || (one c.vb &&
    (c.rsz == 0 || decide (replicateSize c.rsz * (c.ridx + 1) ≤ e)))
  let apart (r k : Nat) : Bool := !groupsMeet c.vd kd r k
  (!c.op.whole || c.vstart == 0) &&
  match c.op with
  | .int _ => isIntFmt f && one c.vd && one c.va && b
  | .dot4 =>
    (f == 0 || f == 4) && c.vl % 4 == 0 && one c.va && b && groupFits t c.vd kd && apart c.va 1 &&
      (c.scalar.isSome || apart c.vb 1)
  | .fp o => isVectorFloat f && one c.vd && one c.va && (o == .sqrt || b)
  | .cmp _ => isIntFmt f && one c.va && b
  | .feq _ => isVectorFloat f && one c.va && b
  | .maskLogic _ | .mpopc | .mfirst | .mset => true
  | .merge => one c.vd && one c.va && b
  | .mv => one c.vd && one c.va
  | .mvs | .ins => one c.vd
  | .ext => one c.va
  | .slup | .sldn | .comp => one c.vd && one c.va && c.vd != c.va
  | .gath => one c.vd && one c.va && b && c.vd != c.va && (c.scalar.isSome || c.vd != c.vb)
  | .iota => isIntFmt f && one c.vd
  | .red o =>
    (match o with
      | .fsum | .fmax | .fmin => isVectorFloat f
      | _ => isIntFmt f) && one c.vd && one c.va && b
  | .cvt => one c.va && groupFits t c.vd kd && apart c.va 1
  | .qnt =>
    isVectorFloat f && isMx c.vb && decide (2 ≤ c.blk) && one c.va && groupFits t c.vd 2 && !groupsMeet c.vd 2 c.va 1
  | .dqnt =>
    isMx f && isVectorFloat c.vb && decide (2 ≤ c.blk) && c.vstart % 32 == 0 && groupFits t c.va 2 && groupFits t c.vd kd &&
      apart c.va 2
  | .rot => f == 10 && decide (2 ≤ c.blk) && one c.vd && one c.va
  | .plx | .pli => f == 0 && one c.vd && one c.va && c.vd != c.va
  | _ => false

/-- The issue of an arithmetic instruction of n words: its checks, a free entry in the queue, and its acceptance
(07_vector R177, R182). -/
def vectorIssue (n : Nat) (c : VCmd) (s : State) : Host.Outcome State Fault Refusal :=
  if !s.ctx.typed || !c.accepted s.ctx then .next s.illegalType
  else if s.queueFull c.op then .next s.block
  else .next ((s.acceptVector s.cur c).onCtx fun t => t.retire n)

/-- The issue of a one-word instruction. -/
def vectorOp (op : VOp) (vd va vb msk : Nat) (word : Word) (s : State) : Host.Outcome State Fault Refusal :=
  vectorIssue 1 (s.capture op vd va vb msk word.toNat) s

/-! ### V-INT -/

/-- VADD: a + b, wrapping (08_vector_ops R209). -/
def execVadd (d a b : BitVec 6) (m : BitVec 3) (s : State) : Host.Outcome State Fault Refusal :=
  vectorOp (.int .add) d.toNat a.toNat b.toNat m.toNat (wordsValue (.vadd d a b m)) s

/-- VSUB: a - b, wrapping (08_vector_ops R209). -/
def execVsub (d a b : BitVec 6) (m : BitVec 3) (s : State) : Host.Outcome State Fault Refusal :=
  vectorOp (.int .sub) d.toNat a.toNat b.toNat m.toNat (wordsValue (.vsub d a b m)) s

/-- VMUL: the low half of a x b (08_vector_ops R209). -/
def execVmul (d a b : BitVec 6) (m : BitVec 3) (s : State) : Host.Outcome State Fault Refusal :=
  vectorOp (.int .mul) d.toNat a.toNat b.toNat m.toNat (wordsValue (.vmul d a b m)) s

/-- VMULH: the high half of a x b, by format (08_vector_ops R209). -/
def execVmulh (d a b : BitVec 6) (m : BitVec 3) (s : State) : Host.Outcome State Fault Refusal :=
  vectorOp (.int .mulh) d.toNat a.toNat b.toNat m.toNat (wordsValue (.vmulh d a b m)) s

/-- VMIN: the signed minimum (08_vector_ops R209). -/
def execVmin (d a b : BitVec 6) (m : BitVec 3) (s : State) : Host.Outcome State Fault Refusal :=
  vectorOp (.int .min) d.toNat a.toNat b.toNat m.toNat (wordsValue (.vmin d a b m)) s

/-- VMAX: the signed maximum (08_vector_ops R209). -/
def execVmax (d a b : BitVec 6) (m : BitVec 3) (s : State) : Host.Outcome State Fault Refusal :=
  vectorOp (.int .max) d.toNat a.toNat b.toNat m.toNat (wordsValue (.vmax d a b m)) s

/-- VMINU: the unsigned minimum (08_vector_ops R209). -/
def execVminu (d a b : BitVec 6) (m : BitVec 3) (s : State) : Host.Outcome State Fault Refusal :=
  vectorOp (.int .minu) d.toNat a.toNat b.toNat m.toNat (wordsValue (.vminu d a b m)) s

/-- VMAXU: the unsigned maximum (08_vector_ops R209). -/
def execVmaxu (d a b : BitVec 6) (m : BitVec 3) (s : State) : Host.Outcome State Fault Refusal :=
  vectorOp (.int .maxu) d.toNat a.toNat b.toNat m.toNat (wordsValue (.vmaxu d a b m)) s

/-- VAND: a AND b (08_vector_ops R209). -/
def execVand (d a b : BitVec 6) (m : BitVec 3) (s : State) : Host.Outcome State Fault Refusal :=
  vectorOp (.int .and) d.toNat a.toNat b.toNat m.toNat (wordsValue (.vand d a b m)) s

/-- VOR: a OR b (08_vector_ops R209). -/
def execVor (d a b : BitVec 6) (m : BitVec 3) (s : State) : Host.Outcome State Fault Refusal :=
  vectorOp (.int .or) d.toNat a.toNat b.toNat m.toNat (wordsValue (.vor d a b m)) s

/-- VXOR: a XOR b (08_vector_ops R209). -/
def execVxor (d a b : BitVec 6) (m : BitVec 3) (s : State) : Host.Outcome State Fault Refusal :=
  vectorOp (.int .xor) d.toNat a.toNat b.toNat m.toNat (wordsValue (.vxor d a b m)) s

/-- VSLL: a shifted left by b mod w (08_vector_ops R209). -/
def execVsll (d a b : BitVec 6) (m : BitVec 3) (s : State) : Host.Outcome State Fault Refusal :=
  vectorOp (.int .sll) d.toNat a.toNat b.toNat m.toNat (wordsValue (.vsll d a b m)) s

/-- VSRL: a shifted right by b mod w, zeros in (08_vector_ops R209). -/
def execVsrl (d a b : BitVec 6) (m : BitVec 3) (s : State) : Host.Outcome State Fault Refusal :=
  vectorOp (.int .srl) d.toNat a.toNat b.toNat m.toNat (wordsValue (.vsrl d a b m)) s

/-- VSRA: a shifted right by b mod w, sign in (08_vector_ops R209). -/
def execVsra (d a b : BitVec 6) (m : BitVec 3) (s : State) : Host.Outcome State Fault Refusal :=
  vectorOp (.int .sra) d.toNat a.toNat b.toNat m.toNat (wordsValue (.vsra d a b m)) s

/-- VSADD: the signed sum, saturated (08_vector_ops R209). -/
def execVsadd (d a b : BitVec 6) (m : BitVec 3) (s : State) : Host.Outcome State Fault Refusal :=
  vectorOp (.int .sadd) d.toNat a.toNat b.toNat m.toNat (wordsValue (.vsadd d a b m)) s

/-- VSSUB: the signed difference, saturated (08_vector_ops R209). -/
def execVssub (d a b : BitVec 6) (m : BitVec 3) (s : State) : Host.Outcome State Fault Refusal :=
  vectorOp (.int .ssub) d.toNat a.toNat b.toNat m.toNat (wordsValue (.vssub d a b m)) s

/-- VSADDU: the unsigned sum, saturated (08_vector_ops R209). -/
def execVsaddu (d a b : BitVec 6) (m : BitVec 3) (s : State) : Host.Outcome State Fault Refusal :=
  vectorOp (.int .saddu) d.toNat a.toNat b.toNat m.toNat (wordsValue (.vsaddu d a b m)) s

/-- VSSUBU: the unsigned difference, saturated (08_vector_ops R209). -/
def execVssubu (d a b : BitVec 6) (m : BitVec 3) (s : State) : Host.Outcome State Fault Refusal :=
  vectorOp (.int .ssubu) d.toNat a.toNat b.toNat m.toNat (wordsValue (.vssubu d a b m)) s

/-- VMACC: vd + a x b, wrapping (08_vector_ops R209). -/
def execVmacc (d a b : BitVec 6) (m : BitVec 3) (s : State) : Host.Outcome State Fault Refusal :=
  vectorOp (.int .macc) d.toNat a.toNat b.toNat m.toNat (wordsValue (.vmacc d a b m)) s

/-- VDOT4: sums of four products, 32 bits wide (08_vector_ops R210). -/
def execVdot4 (d a b : BitVec 6) (m : BitVec 3) (s : State) : Host.Outcome State Fault Refusal :=
  vectorOp .dot4 d.toNat a.toNat b.toNat m.toNat (wordsValue (.vdot4 d a b m)) s

/-! ### V-FP -/

/-- VFADD: a + b (08_vector_ops R211). -/
def execVfadd (d a b : BitVec 6) (m : BitVec 3) (s : State) : Host.Outcome State Fault Refusal :=
  vectorOp (.fp .add) d.toNat a.toNat b.toNat m.toNat (wordsValue (.vfadd d a b m)) s

/-- VFSUB: a - b (08_vector_ops R211). -/
def execVfsub (d a b : BitVec 6) (m : BitVec 3) (s : State) : Host.Outcome State Fault Refusal :=
  vectorOp (.fp .sub) d.toNat a.toNat b.toNat m.toNat (wordsValue (.vfsub d a b m)) s

/-- VFMUL: a x b (08_vector_ops R211). -/
def execVfmul (d a b : BitVec 6) (m : BitVec 3) (s : State) : Host.Outcome State Fault Refusal :=
  vectorOp (.fp .mul) d.toNat a.toNat b.toNat m.toNat (wordsValue (.vfmul d a b m)) s

/-- VFMA: a x b + vd (08_vector_ops R211). -/
def execVfma (d a b : BitVec 6) (m : BitVec 3) (s : State) : Host.Outcome State Fault Refusal :=
  vectorOp (.fp .fma) d.toNat a.toNat b.toNat m.toNat (wordsValue (.vfma d a b m)) s

/-- VFMS: a x b - vd (08_vector_ops R211). -/
def execVfms (d a b : BitVec 6) (m : BitVec 3) (s : State) : Host.Outcome State Fault Refusal :=
  vectorOp (.fp .fms) d.toNat a.toNat b.toNat m.toNat (wordsValue (.vfms d a b m)) s

/-- VFNMA: -(a x b) + vd (08_vector_ops R211). -/
def execVfnma (d a b : BitVec 6) (m : BitVec 3) (s : State) : Host.Outcome State Fault Refusal :=
  vectorOp (.fp .fnma) d.toNat a.toNat b.toNat m.toNat (wordsValue (.vfnma d a b m)) s

/-- VFDIV: a / b (08_vector_ops R211). -/
def execVfdiv (d a b : BitVec 6) (m : BitVec 3) (s : State) : Host.Outcome State Fault Refusal :=
  vectorOp (.fp .div) d.toNat a.toNat b.toNat m.toNat (wordsValue (.vfdiv d a b m)) s

/-- VFMIN: the minimum of 02_numbers R46 (08_vector_ops R211). -/
def execVfmin (d a b : BitVec 6) (m : BitVec 3) (s : State) : Host.Outcome State Fault Refusal :=
  vectorOp (.fp .min) d.toNat a.toNat b.toNat m.toNat (wordsValue (.vfmin d a b m)) s

/-- VFMAX: the maximum of 02_numbers R46 (08_vector_ops R211). -/
def execVfmax (d a b : BitVec 6) (m : BitVec 3) (s : State) : Host.Outcome State Fault Refusal :=
  vectorOp (.fp .max) d.toNat a.toNat b.toNat m.toNat (wordsValue (.vfmax d a b m)) s

/-- VFSGNJ: a's magnitude with b's sign (08_vector_ops R211). -/
def execVfsgnj (d a b : BitVec 6) (m : BitVec 3) (s : State) : Host.Outcome State Fault Refusal :=
  vectorOp (.fp .sgnj) d.toNat a.toNat b.toNat m.toNat (wordsValue (.vfsgnj d a b m)) s

/-- VFSGNJN: a's magnitude with b's sign inverted (08_vector_ops R211). -/
def execVfsgnjn (d a b : BitVec 6) (m : BitVec 3) (s : State) : Host.Outcome State Fault Refusal :=
  vectorOp (.fp .sgnjn) d.toNat a.toNat b.toNat m.toNat (wordsValue (.vfsgnjn d a b m)) s

/-- VFSQRT: the square root (08_vector_ops R211). -/
def execVfsqrt (d a : BitVec 6) (m : BitVec 3) (s : State) : Host.Outcome State Fault Refusal :=
  vectorOp (.fp .sqrt) d.toNat a.toNat 0 m.toNat (wordsValue (.vfsqrt d a m)) s

/-! ### V-MASK -/

/-- VCMP: an integer comparison into a mask register (08_vector_ops R212). -/
def execVcmp (c d : BitVec 3) (a b : BitVec 6) (m : BitVec 3) (s : State) : Host.Outcome State Fault Refusal :=
  vectorOp (.cmp c.toNat) d.toNat a.toNat b.toNat m.toNat (wordsValue (.vcmp c d a b m)) s

/-- VFEQ: a floating-point comparison into a mask register (08_vector_ops R212). -/
def execVfeq (c d : BitVec 3) (a b : BitVec 6) (m : BitVec 3) (s : State) : Host.Outcome State Fault Refusal :=
  vectorOp (.feq c.toNat) d.toNat a.toNat b.toNat m.toNat (wordsValue (.vfeq c d a b m)) s

/-- MAND: AND of two mask registers (08_vector_ops R212). -/
def execMand (d a b : BitVec 3) (s : State) : Host.Outcome State Fault Refusal :=
  vectorOp (.maskLogic 0) d.toNat a.toNat b.toNat 0 (wordsValue (.mand d a b)) s

/-- MOR: OR of two mask registers (08_vector_ops R212). -/
def execMor (d a b : BitVec 3) (s : State) : Host.Outcome State Fault Refusal :=
  vectorOp (.maskLogic 1) d.toNat a.toNat b.toNat 0 (wordsValue (.mor d a b)) s

/-- MXOR: XOR of two mask registers (08_vector_ops R212). -/
def execMxor (d a b : BitVec 3) (s : State) : Host.Outcome State Fault Refusal :=
  vectorOp (.maskLogic 2) d.toNat a.toNat b.toNat 0 (wordsValue (.mxor d a b)) s

/-- MANDN: AND NOT of two mask registers (08_vector_ops R212). -/
def execMandn (d a b : BitVec 3) (s : State) : Host.Outcome State Fault Refusal :=
  vectorOp (.maskLogic 3) d.toNat a.toNat b.toNat 0 (wordsValue (.mandn d a b)) s

/-- MPOPC: how many selected mask bits are set (08_vector_ops R212). -/
def execMpopc (d : BitVec 5) (a m : BitVec 3) (s : State) : Host.Outcome State Fault Refusal :=
  vectorOp .mpopc d.toNat a.toNat 0 m.toNat (wordsValue (.mpopc d a m)) s

/-- MFIRST: the index of the first selected mask bit that is set (08_vector_ops R212). -/
def execMfirst (d : BitVec 5) (a m : BitVec 3) (s : State) : Host.Outcome State Fault Refusal :=
  vectorOp .mfirst d.toNat a.toNat 0 m.toNat (wordsValue (.mfirst d a m)) s

/-- MSET: mask bits relative to the first one set (08_vector_ops R213). -/
def execMset (d a : BitVec 3) (k : BitVec 2) (m : BitVec 3) (s : State) : Host.Outcome State Fault Refusal :=
  vectorOp .mset d.toNat a.toNat k.toNat m.toNat (wordsValue (.mset d a k m)) s

/-- VMERGE: vb' where the mask bit is 1, else va (08_vector_ops R212). -/
def execVmerge (d a b : BitVec 6) (m : BitVec 3) (s : State) : Host.Outcome State Fault Refusal :=
  vectorOp .merge d.toNat a.toNat b.toNat m.toNat (wordsValue (.vmerge d a b m)) s

/-! ### V-PERM -/

/-- VMV: a copy (08_vector_ops R214). -/
def execVmv (d a : BitVec 6) (m : BitVec 3) (s : State) : Host.Outcome State Fault Refusal :=
  vectorOp .mv d.toNat a.toNat 0 m.toNat (wordsValue (.vmv d a m)) s

/-- VMVS: a g register into every element (08_vector_ops R214). -/
def execVmvs (d : BitVec 6) (a : BitVec 5) (m : BitVec 3) (s : State) : Host.Outcome State Fault Refusal :=
  vectorIssue 1 { s.capture .mvs d.toNat 0 0 m.toNat (wordsValue (.vmvs d a m)).toNat with x1 := s.ctx.g a.toNat } s

/-- VEXT: one element to a g register (08_vector_ops R214). -/
def execVext (d : BitVec 5) (a : BitVec 6) (i : BitVec 5) (s : State) : Host.Outcome State Fault Refusal :=
  vectorIssue 1 { s.capture .ext d.toNat a.toNat 0 0 (wordsValue (.vext d a i)).toNat with x2 := s.ctx.g i.toNat } s

/-- VINS: a g register to one element (08_vector_ops R214). -/
def execVins (d : BitVec 6) (a i : BitVec 5) (s : State) : Host.Outcome State Fault Refusal :=
  vectorIssue 1 { s.capture .ins d.toNat 0 0 0 (wordsValue (.vins d a i)).toNat with
    x1 := s.ctx.g a.toNat, x2 := s.ctx.g i.toNat } s

/-- VSLUP: elements moved up by a g register (08_vector_ops R214). -/
def execVslup (d a : BitVec 6) (x : BitVec 5) (m : BitVec 3) (s : State) : Host.Outcome State Fault Refusal :=
  vectorIssue 1 { s.capture .slup d.toNat a.toNat 0 m.toNat (wordsValue (.vslup d a x m)).toNat with x2 := s.ctx.g x.toNat } s

/-- VSLUP, long form: elements moved up by a g register plus an immediate (08_vector_ops R206, R214). -/
def execVslupImm (d a : BitVec 6) (x : BitVec 5) (m : BitVec 3) (n : BitVec 10) (s : State) : Host.Outcome State Fault Refusal :=
  vectorIssue 2 { s.capture .slup d.toNat a.toNat 0 m.toNat (wordsValue (.vslupImm d a x m n)).toNat with
    x2 := s.ctx.g x.toNat + BitVec.ofNat 64 n.toNat } s

/-- VSLDN: elements moved down by a g register (08_vector_ops R214). -/
def execVsldn (d a : BitVec 6) (x : BitVec 5) (m : BitVec 3) (s : State) : Host.Outcome State Fault Refusal :=
  vectorIssue 1 { s.capture .sldn d.toNat a.toNat 0 m.toNat (wordsValue (.vsldn d a x m)).toNat with x2 := s.ctx.g x.toNat } s

/-- VSLDN, long form: elements moved down by a g register plus an immediate (08_vector_ops R206, R214). -/
def execVsldnImm (d a : BitVec 6) (x : BitVec 5) (m : BitVec 3) (n : BitVec 10) (s : State) : Host.Outcome State Fault Refusal :=
  vectorIssue 2 { s.capture .sldn d.toNat a.toNat 0 m.toNat (wordsValue (.vsldnImm d a x m n)).toNat with
    x2 := s.ctx.g x.toNat + BitVec.ofNat 64 n.toNat } s

/-- VGATH: elements by index (08_vector_ops R214). -/
def execVgath (d a b : BitVec 6) (m : BitVec 3) (s : State) : Host.Outcome State Fault Refusal :=
  vectorOp .gath d.toNat a.toNat b.toNat m.toNat (wordsValue (.vgath d a b m)) s

/-- VCOMP: the selected elements packed (08_vector_ops R215). -/
def execVcomp (d a : BitVec 6) (m : BitVec 3) (s : State) : Host.Outcome State Fault Refusal :=
  vectorOp .comp d.toNat a.toNat 0 m.toNat (wordsValue (.vcomp d a m)) s

/-- VIOTA: how many mask bits below each element are set (08_vector_ops R214). -/
def execViota (d : BitVec 6) (a m : BitVec 3) (s : State) : Host.Outcome State Fault Refusal :=
  vectorOp .iota d.toNat a.toNat 0 m.toNat (wordsValue (.viota d a m)) s

/-! ### V-RED -/

/-- VREDSUM: the sum modulo 2^w of the selected elements into element 0 (08_vector_ops R216). -/
def execVredsum (d a b : BitVec 6) (m : BitVec 3) (s : State) : Host.Outcome State Fault Refusal :=
  vectorOp (.red .sum) d.toNat a.toNat b.toNat m.toNat (wordsValue (.vredsum d a b m)) s

/-- VREDMIN: the minimum of the selected elements into element 0 (08_vector_ops R216). -/
def execVredmin (d a b : BitVec 6) (m : BitVec 3) (s : State) : Host.Outcome State Fault Refusal :=
  vectorOp (.red .min) d.toNat a.toNat b.toNat m.toNat (wordsValue (.vredmin d a b m)) s

/-- VREDMAX: the maximum of the selected elements into element 0 (08_vector_ops R216). -/
def execVredmax (d a b : BitVec 6) (m : BitVec 3) (s : State) : Host.Outcome State Fault Refusal :=
  vectorOp (.red .max) d.toNat a.toNat b.toNat m.toNat (wordsValue (.vredmax d a b m)) s

/-- VREDAND: the AND of the selected elements into element 0 (08_vector_ops R216). -/
def execVredand (d a b : BitVec 6) (m : BitVec 3) (s : State) : Host.Outcome State Fault Refusal :=
  vectorOp (.red .and) d.toNat a.toNat b.toNat m.toNat (wordsValue (.vredand d a b m)) s

/-- VREDOR: the OR of the selected elements into element 0 (08_vector_ops R216). -/
def execVredor (d a b : BitVec 6) (m : BitVec 3) (s : State) : Host.Outcome State Fault Refusal :=
  vectorOp (.red .or) d.toNat a.toNat b.toNat m.toNat (wordsValue (.vredor d a b m)) s

/-- VFREDSUM: the canonical sum of 02_numbers R57 of the selected elements into element 0 (08_vector_ops R216). -/
def execVfredsum (d a b : BitVec 6) (m : BitVec 3) (s : State) : Host.Outcome State Fault Refusal :=
  vectorOp (.red .fsum) d.toNat a.toNat b.toNat m.toNat (wordsValue (.vfredsum d a b m)) s

/-- VFREDMAX: the maximum over the tree of 02_numbers R58 of the selected elements into element 0 (08_vector_ops R216). -/
def execVfredmax (d a b : BitVec 6) (m : BitVec 3) (s : State) : Host.Outcome State Fault Refusal :=
  vectorOp (.red .fmax) d.toNat a.toNat b.toNat m.toNat (wordsValue (.vfredmax d a b m)) s

/-- VFREDMIN: the minimum over the tree of 02_numbers R58 of the selected elements into element 0 (08_vector_ops R216). -/
def execVfredmin (d a b : BitVec 6) (m : BitVec 3) (s : State) : Host.Outcome State Fault Refusal :=
  vectorOp (.red .fmin) d.toNat a.toNat b.toNat m.toNat (wordsValue (.vfredmin d a b m)) s

/-! ### V-CVT -/

/-- VCVT: a conversion between formats (08_vector_ops R218). -/
def execVcvt (d a : BitVec 6) (f : BitVec 5) (m : BitVec 3) (s : State) : Host.Outcome State Fault Refusal :=
  vectorOp .cvt d.toNat a.toNat f.toNat m.toNat (wordsValue (.vcvt d a f m)) s

/-- VQNT: quantisation to MX blocks (08_vector_ops R219). -/
def execVqnt (d a : BitVec 6) (f : BitVec 5) (s : State) : Host.Outcome State Fault Refusal :=
  vectorOp .qnt d.toNat a.toNat f.toNat 0 (wordsValue (.vqnt d a f)) s

/-- VDQNT: MX blocks back to a floating-point format (08_vector_ops R219). -/
def execVdqnt (d a : BitVec 6) (f : BitVec 5) (m : BitVec 3) (s : State) : Host.Outcome State Fault Refusal :=
  vectorOp .dqnt d.toNat a.toNat f.toNat m.toNat (wordsValue (.vdqnt d a f m)) s

/-- VROT: the signed Hadamard rotation (08_vector_ops R220, 02_numbers R60). -/
def execVrot (d a : BitVec 6) (m : BitVec 3) (s : State) : Host.Outcome State Fault Refusal :=
  vectorOp .rot d.toNat a.toNat 0 m.toNat (wordsValue (.vrot d a m)) s

/-- VPLX: one plane of I8 elements as a bit string (08_vector_ops R221). -/
def execVplx (d a : BitVec 6) (j m : BitVec 3) (s : State) : Host.Outcome State Fault Refusal :=
  vectorOp .plx d.toNat a.toNat j.toNat m.toNat (wordsValue (.vplx d a j m)) s

/-- VPLI: a bit string into one plane of I8 elements (08_vector_ops R221). -/
def execVpli (d a : BitVec 6) (j m : BitVec 3) (s : State) : Host.Outcome State Fault Refusal :=
  vectorOp .pli d.toNat a.toNat j.toNat m.toNat (wordsValue (.vpli d a j m)) s

/-! ### Long forms -/

/-- The operation of an LV long form by class and fn, and its destination: a mask form's vd holds its condition (08_vector_ops
R201, R206). -/
def longFormOp (k fn vd : Nat) : VOp × Nat :=
  match k, fn with
  | 0, 19 => (.dot4, vd)
  | 0, n => (.int (([.add, .sub, .mul, .mulh, .min, .max, .minu, .maxu, .and, .or, .xor, .sll, .srl, .sra, .sadd, .ssub, .saddu,
      .ssubu, .macc] : List VIntOp).getD n .add), vd)
  | 1, n => (.fp (([.add, .sub, .mul, .fma, .fms, .fnma, .div, .sqrt, .min, .max, .sgnj, .sgnjn] : List VFpOp).getD n .add), vd)
  | 2, 0 => (.cmp (vd / 8), vd % 8)
  | 2, 1 => (.feq (vd / 8), vd % 8)
  | 2, _ => (.merge, vd)
  | 3, _ => (.gath, vd)
  | _, n => (.red (([.sum, .min, .max, .and, .or, .fsum, .fmax, .fmin] : List VRedOp).getD n .sum), vd)

/-- LV_LONG_FORM: a V-class instruction whose second operand is a replicate or a g register (08_vector_ops R206, 03_encoding
R67). -/
def execLvLongForm (d a b : BitVec 6) (m : BitVec 3) (f : BitVec 5) (k : BitVec 3) (z : BitVec 2) (x : BitVec 11) (q : BitVec 1)
    (g : BitVec 5) (s : State) : Host.Outcome State Fault Refusal :=
  let o := longFormOp k.toNat f.toNat d.toNat
  vectorIssue 2 { s.capture o.1 o.2 a.toNat b.toNat m.toNat (wordsValue (.lvLongForm d a b m f k z x q g)).toNat with
    rsz := z.toNat, ridx := x.toNat, scalar := if q = 1#1 then some (s.ctx.g g.toNat) else none } s

end Sys2Proof.Machine
end

