-- ==== Sys2Proof/Machine/TileOps.lean ====
section
/-! DEFINITION. Tiles (09_tile R222-R224): promotion, steps and updates (02_numbers R49-R56; 09_tile R236-R241), the binding of
names to slots with lazy save (R225-R230), tile records (R229, R246), and the tile instructions at issue (R231, R232,
R236-R246). -/

namespace Sys2Proof.Machine

open Sys2Proof

/-! ### Cells -/

/-- Wide cell (i, j). -/
def Tile.cell (t : Tile) (i j : Nat) : Nat := elem t.wide 32 (16 * i + j)

/-- Wide cell (i, j) set. -/
def Tile.setCell (t : Tile) (i j x : Nat) : Tile := { t with wide := putElem t.wide 32 (16 * i + j) x }

/-- The 256 cells in row-major order, from row a to row b - 1. -/
def cellsOf (a b : Nat) : List (Nat × Nat) := (List.range (16 * (b - a))).map fun k => (a + k / 16, k % 16)

/-- A sum of infinities of opposite sign (02_numbers R44, R56). -/
def clashes (x y : FVal) : Bool :=
  match x, y with
  | .inf a, .inf b => a != b
  | _, _ => false

/-- An infinity times a zero. -/
def voids (x y : FVal) : Bool :=
  match x, y with
  | .inf _, y => y.isZero
  | x, .inf _ => x.isZero
  | _, _ => false

/-! ### Promotion -/

/-- What a promotion adds to a cell: its partial under the run's scales, none where a scale is NaN (02_numbers R54). -/
def Tile.partialValue (t : Tile) (i j : Nat) : Option FVal :=
  let p := elem t.partialPlane 24 (16 * i + j)
  let sa := elem t.rowScale 8 i
  let sb := elem t.colScale 8 j
  if sa = 255 ∨ sb = 255 then none
  else
    let k : Int := (sa : Int) + sb - 254
    match t.kind with
    | .int24mx => let v := toSigned p 24; some (.fin (decide (v < 0)) v.natAbs (k - 12))
    | _ => some ((decodeFloat fmtNP24 p).scale k)

/-- A wide cell after promotion, with its conditions (02_numbers R54). -/
def Tile.promoted (t : Tile) (sat : Bool) (i j : Nat) : Nat × Conds :=
  let w := t.cell i j
  match t.kind with
  | .int24 =>
    let v := toSigned w 32 + toSigned (elem t.partialPlane 24 (16 * i + j)) 24
    (wrap (if sat then clampInt (-2147483648) 2147483647 v else v) 32, 0#7)
  | _ =>
    match t.partialValue i j with
    | none => (0x7FC00000, condNV)
    | some p => floatResult fmtF32 0 false (FVal.add 0 (decodeFloat fmtF32 w) p)

/-- Whether a cell received a product in the run. -/
def Tile.reached (t : Tile) (i j : Nat) : Bool := bitAt t.reach (16 * i + j)

/-- A tile with its run ended: partial, counter, record and reach map clear. -/
def Tile.endRun (t : Tile) : Tile :=
  { t with partialPlane := 0, counter := 0, kind := .none, rowScale := 0, colScale := 0, reach := 0 }

/-- Promotion of the run in progress into the wide tile; with counter 0 it changes nothing (02_numbers R53, R54). -/
def Tile.promote (t : Tile) (sat : Bool) : Tile × Conds :=
  if t.counter = 0 then (t, 0#7)
  else
    let r := (cellsOf 0 16).foldl (fun (a : Tile × Conds) c =>
      if t.reached c.1 c.2 then
        let x := t.promoted sat c.1 c.2
        (a.1.setCell c.1 c.2 x.1, a.2 ||| x.2)
      else a) (t, 0#7)
    (r.1.endRun, r.2)

/-- The first cell in row-major order at which a promotion meets an invalid operation (09_tile R239, R241). -/
def Tile.promotionFault (t : Tile) : Option (Nat × Nat) :=
  if t.counter = 0 then none
  else
    (cellsOf 0 16).find? fun c => t.reached c.1 c.2 && t.kind != .int24 &&
      match t.partialValue c.1 c.2 with
      | some p => clashes (decodeFloat fmtF32 (t.cell c.1 c.2)) p
      | none => false

/-! ### Updates -/

/-- The accumulation paths of 02_numbers R49. -/
inductive Path where
  | wide
  | part (k : RunKind)
deriving DecidableEq, Repr, Inhabited

/-- The path of an update in a format, none where the instruction does not accept it (02_numbers R49). -/
def TOp.path (o : TOp) (f : Nat) : Option Path :=
  if f = 8 ∨ f = 9 ∨ f = 10 then (if o = .mma16s then none else some .wide)
  else if 12 ≤ f ∧ f ≤ 21 then (if o = .mopa ∨ o = .mops then some .wide else some (.part .np24))
  else if f = 0 ∨ (24 ≤ f ∧ f ≤ 30) then (if o = .mma16s then none else some (.part .int24))
  else if f = 22 then some (.part .int24mx)
  else none

/-- One step's operands: path, sign, elements, scale bytes and masks (09_tile R236-R239). -/
structure StepArgs where
  path : Path
  minus : Bool
  fmt  : Nat
  a    : Nat
  b    : Nat
  rowScale : Nat
  colScale : Nat
  mr   : Nat
  mc   : Nat
  tie  : Bool
  run  : Nat
  sat  : Bool
deriving DecidableEq, Repr

/-- The value of an element of an operand as the path takes it: MXI8 by its integer (02_numbers R52). -/
def operandValue (fmt x : Nat) : FVal :=
  if fmt = 22 then elemValue (.int 8) x else elemValue (fmtOf fmt) x

/-- The product of a cell, its sign inverted for MOPS. -/
def StepArgs.product (x : StepArgs) (i j : Nat) : FVal × Conds :=
  let w := fmtWidth x.fmt
  let r := FVal.mul (operandValue x.fmt (elem x.a w i)) (operandValue x.fmt (elem x.b w j))
  (if x.minus then r.1.neg else r.1, r.2)

/-- Whether a cell is unmasked. -/
def StepArgs.picks (x : StepArgs) (i j : Nat) : Bool := bitAt x.mr i && bitAt x.mc j

/-- A cell updated by its product: wide, NP24 or INT24 (02_numbers R50-R52). -/
def StepArgs.cell (x : StepArgs) (t : Tile) (i j : Nat) : Tile × Conds :=
  let p := x.product i j
  let k := 16 * i + j
  match x.path with
  | .wide =>
    let r := floatResult fmtF32 0 false (FVal.add 0 (decodeFloat fmtF32 (t.cell i j)) p.1)
    (t.setCell i j r.1, r.2 ||| p.2)
  | .part .np24 =>
    let r := floatResult fmtNP24 0 false (FVal.add 0 (decodeFloat fmtNP24 (elem t.partialPlane 24 k)) p.1)
    ({ t with partialPlane := putElem t.partialPlane 24 k r.1, reach := putBit t.reach k true }, r.2 ||| p.2)
  | .part _ =>
    let v := toSigned (elem t.partialPlane 24 k) 24 + intOfVal p.1
    ({ t with partialPlane := putElem t.partialPlane 24 k (wrap v 24), reach := putBit t.reach k true }, 0#7)

/-- Whether a cell's product or sum is an invalid operation (02_numbers R56). -/
def StepArgs.invalid (x : StepArgs) (t : Tile) (i j : Nat) : Bool :=
  let w := fmtWidth x.fmt
  let a := operandValue x.fmt (elem x.a w i)
  let b := operandValue x.fmt (elem x.b w j)
  let p := (x.product i j).1
  x.picks i j && (voids a b ||
    match x.path with
    | .wide => clashes (decodeFloat fmtF32 (t.cell i j)) p
    | .part .np24 => clashes (decodeFloat fmtNP24 (elem t.partialPlane 24 (16 * i + j))) p
    | .part _ => false)

/-- How an update ends or where it stands: the tile, the conditions, and the update, slice and cell of a trap. -/
structure UpdateEnd where
  tile  : Tile
  conds : Conds := 0#7
  trap  : Option (Nat × Nat × Nat × Nat) := none
  /-- Where a stop after a bounded number of slices leaves the update, none when it has ended. -/
  rest  : Option (Nat × Nat) := none
  slices : Nat := 0
deriving DecidableEq, Repr

/-- Slice s of update k: a trap before it, or its cells updated (09_tile R239). -/
def StepArgs.slice (x : StepArgs) (k s : Nat) (u : UpdateEnd) : UpdateEnd :=
  let cells := cellsOf (4 * s) (4 * s + 4)
  match (if x.tie then cells.find? fun c => x.invalid u.tile c.1 c.2 else none) with
  | some c => { u with trap := some (k, s, c.1, c.2) }
  | none =>
    let r := cells.foldl (fun (a : Tile × Conds) c =>
      if x.picks c.1 c.2 then let y := x.cell a.1 c.1 c.2; (y.1, a.2 ||| y.2) else a) (u.tile, u.conds)
    { u with tile := r.1, conds := r.2, slices := u.slices + 1 }

/-- The slices of update k from s on, at most `room` in all (05_traps R140). -/
def StepArgs.slicesFrom (x : StepArgs) (k room : Nat) : Nat → Nat → UpdateEnd → UpdateEnd
  | 0, _, u => u
  | n + 1, s, u =>
    if 4 ≤ s ∨ u.trap.isSome ∨ u.rest.isSome then u
    else if room ≤ u.slices then { u with rest := some (k, s) }
    else x.slicesFrom k room n (s + 1) (x.slice k s u)

/-- The opening promotion that a step makes, if any (09_tile R237-R239). -/
def StepArgs.opens (x : StepArgs) (t : Tile) : Bool :=
  match x.path with
  | .wide => t.kind != .none
  | .part k => t.kind != .none && (t.kind != k || t.rowScale != x.rowScale || t.colScale != x.colScale)

/-- The end of a step on a partial path: the run is recorded and counted, and promoted when the counter equals TCTL.RUN (02_numbers R53).
A counter that TCTL.RUN has been lowered below, or that TREST has set above it, counts on past 16 until another cause promotes the run:
R53 says "reaches", 09_tile R239 tests equality, and the model tests equality (DESIGN CHOICE, log entry 89). -/
def StepArgs.close (x : StepArgs) (u : UpdateEnd) : UpdateEnd :=
  match x.path with
  | .wide => u
  | .part k =>
    let t := { u.tile with kind := k, rowScale := x.rowScale, colScale := x.colScale, counter := u.tile.counter + 1 }
    if t.counter = x.run then let r := t.promote x.sat; { u with tile := r.1, conds := u.conds ||| r.2 }
    else { u with tile := t }

/-- One step: update k from slice s on, at most `room` slices in all (09_tile R239). -/
def StepArgs.step (x : StepArgs) (k room s : Nat) (u : UpdateEnd) : UpdateEnd :=
  let opened : UpdateEnd :=
    if x.opens u.tile then
      match (if x.tie then u.tile.promotionFault else none) with
      | some c => { u with trap := some (k, s, c.1, c.2) }
      | none => let r := u.tile.promote x.sat; { u with tile := r.1, conds := u.conds ||| r.2 }
    else u
  let v := x.slicesFrom k room 4 s opened
  if v.trap.isSome || v.rest.isSome then v else x.close v

/-- The byte 0x7F sixteen times: the scales of an unscaled run. -/
def unitScales : Nat := (2 ^ 128 - 1) / 255 * 0x7F

/-- The arguments of update k of a tile command, and whether its depth bit is set. -/
def TCmd.args (c : TCmd) (k : Nat) : Option (StepArgs × Bool) :=
  (c.op.path c.fmt).map fun p =>
    ({ path := p, minus := c.op = .mops, fmt := c.fmt, a := c.sources.getD (2 * k) 0, b := c.sources.getD (2 * k + 1) 0
       rowScale := if c.op = .mma16s then c.sources.getD 32 0 % 2 ^ 128 else unitScales
       colScale := if c.op = .mma16s then c.sources.getD 33 0 % 2 ^ 128 else unitScales
       mr := c.masks.getD 0 0, mc := c.masks.getD 1 0, tie := c.tie, run := c.run, sat := c.sat },
      bitAt (c.masks.getD 2 0) k)

/-- The opening promotion of a wide update whose depth bit is clear, which makes no step: the run in progress is promoted, or, under TIE,
its invalid operation is the trap (09_tile R238, R239; 02_numbers R56). -/
def StepArgs.promoteOnly (x : StepArgs) (k s : Nat) (u : UpdateEnd) : UpdateEnd :=
  if x.path = .wide ∧ u.tile.kind ≠ .none then
    match (if x.tie then u.tile.promotionFault else none) with
    | some c => { u with trap := some (k, s, c.1, c.2) }
    | none => let r := u.tile.promote x.sat; { u with tile := r.1, conds := u.conds ||| r.2 }
  else u

/-- The updates of a command from k on (09_tile R237, R238): a wide step promotes the run in progress even where its depth bit
is clear. -/
def TCmd.updates (c : TCmd) (room : Nat) : Nat → Nat → Nat → UpdateEnd → UpdateEnd
  | 0, _, _, u => u
  | n + 1, k, s, u =>
    if u.trap.isSome || u.rest.isSome then u
    else
      match c.args k with
      | none => u
      | some (x, true) => c.updates room n (k + 1) 0 (x.step k room s u)
      | some (x, false) => c.updates room n (k + 1) 0 (x.promoteOnly k s u)

/-- Updates of an instruction. -/
def TOp.count (o : TOp) : Nat := if o = .mma16 ∨ o = .mma16s then 16 else 1

/-- An update command on a tile from its recorded update and slice, at most `room` slices. -/
def TCmd.run_ (c : TCmd) (room : Nat) (t : Tile) : UpdateEnd :=
  c.updates room (c.op.count - c.update) c.update c.slice { tile := t }

/-! ### Records -/

/-- The 2,048-byte record of a tile, as one number (09_tile R229). -/
def Tile.record (t : Tile) : Nat :=
  let kind := match t.kind with
    | .none => 0
    | .np24 => 1
    | .int24 => 2
    | .int24mx => 3
  t.wide + t.partialPlane * 2 ^ (8 * 1024) + t.rowScale * 2 ^ (8 * 1792) + t.colScale * 2 ^ (8 * 1808) +
    t.counter * 2 ^ (8 * 1824) + kind * 2 ^ (8 * 1825) + t.reach * 2 ^ (8 * 1826)

/-- The tile that a record sets (09_tile R246). -/
def Tile.ofRecord (r : Nat) : Tile :=
  let counter := slice r (8 * 1824) 8
  let wide := r % 2 ^ (8 * 1024)
  let base : Tile :=
    { wide := wide, partialPlane := slice r (8 * 1024) (8 * 768), counter := counter, rowScale := slice r (8 * 1792) 128
      colScale := slice r (8 * 1808) 128 }
  if 16 < counter then { wide := wide }
  else
    match slice r (8 * 1825) 8 with
    | 0 => { base with kind := .none }
    | 1 => { base with kind := .np24, reach := slice r (8 * 1826) 256 }
    | 2 => { base with kind := .int24, reach := slice r (8 * 1826) 256 }
    | 3 => { base with kind := .int24mx, reach := slice r (8 * 1826) 256 }
    | _ => { wide := wide }

/-! ### Slots and names -/

/-- A slot of a cluster's accumulator store. -/
def Cluster.slot (c : Cluster) (k : Nat) : TileSlot := c.slots.toArray.getD k {}

/-- The state with a slot changed. -/
def State.onSlot (s : State) (cl k : Nat) (f : TileSlot → TileSlot) : State :=
  s.onCluster cl fun c => { c with slots := c.slots.setIfInBounds k (f (c.slot k)) }

/-- A thread's tile name. -/
def Thread.tile (t : Thread) (k : Nat) : TileName := t.tiles.toArray.getD k .unbound

/-- The thread with a tile name set. -/
def Thread.setTile (t : Thread) (k : Nat) (n : TileName) : Thread := { t with tiles := t.tiles.setIfInBounds k n }

/-- Whether a slot belongs to the context of thread t. -/
def State.owns (s : State) (t : ThreadRef) (x : TileSlot) : Bool :=
  x.state != .free && x.owner == t && x.kernel == (s.thread t).kernel

/-- Whether a thread's names can still be touched: it is not switched out, and a RETIRED one has tile commands left (09_tile R227). DEDUCED:
the names of a RETIRED thread without any, which R228 keeps IN-SLOT until the slot of the thread is FREE, hold no slot and are counted
nowhere (log entry 57). -/
def State.usesTiles (s : State) (t : ThreadRef) (x : Thread) : Bool :=
  x.phase != .switched && (x.phase != .retired || s.tileBusy t)

/-- Whether a name that can still be touched waits on slot k of its cluster (09_tile R227). -/
def State.awaited (s : State) (cl k : Nat) : Bool :=
  s.threads.any fun p => p.1.cluster == cl && p.2.tiles.toList.contains (.inSlot k) && s.usesTiles p.1 p.2

/-- The slot that a name is bound to: the lowest FREE one, else the lowest HELD one for which no other name waits (09_tile
R226, R230). A FREE slot for which a name waits is that name's. -/
def State.slotToBind (s : State) (cl : Nat) : Option Nat :=
  let free (st : SlotState) (k : Nat) : Bool := ((s.cluster cl).slot k).state == st && !s.awaited cl k
  ((List.range 64).find? (free .free)).or ((List.range 64).find? (free .held))

/-- The slots of a cluster's accumulator store that a new name can take (09_tile R225, R230). -/
def State.bindable (s : State) (cl : Nat) : Nat :=
  ((List.range 64).filter fun k => ((s.cluster cl).slot k).state != .live && !s.awaited cl k).length

/-- The slots of a cluster already promised: T x tpc for each core there of a kernel that is being placed, and one for each SAVED name of
a context that is not switched out. R225 binds names at placement, which here is the end of PLACING, and a reload always finds a slot
(09_tile R225, R230; log entry 100). -/
def State.owedTiles (s : State) (cl : Nat) : Nat :=
  (s.kernels.filter fun q => q.2.state == .placing).foldl (fun n q =>
    n + field (q.2.word 2) 39 37 * tpcOf (q.2.word 2) * (q.2.cores.filter fun k => k / 8 == cl).length) 0 +
  (s.threads.filter fun p => p.1.cluster == cl && s.usesTiles p.1 p.2).foldl (fun n p =>
    n + (p.2.tiles.toList.filter fun x => x == .saved).length) 0

/-- A slot made LIVE for a context with the contents of R224. -/
def State.takeSlot (s : State) (t : ThreadRef) (k name : Nat) (x : Tile) : State :=
  s.onSlot t.cluster k fun _ => { state := .live, owner := t, kernel := (s.thread t).kernel, name := name, tile := x }

/-- A name of thread t bound to a slot (09_tile R226-R228). -/
def State.bindTile (s : State) (t : ThreadRef) (name : Nat) : Option State :=
  (s.slotToBind t.cluster).map fun k =>
    let s1 := s.onThread t fun x => x.setTile name (.inSlot k)
    if ((s.cluster t.cluster).slot k).state == .free then s1.takeSlot t k name {} else s1

/-- A HELD slot spilled: its tile goes to the old owner's record and the old owner's name is SAVED (09_tile R227, R229). A spill that finds
the record uncorrectable aborts the old owner's kernel (R230). -/
def State.spill (s : State) (t : ThreadRef) (k : Nat) : State :=
  let x := (s.cluster t.cluster).slot k
  let s0 := (s.onSlot t.cluster k fun _ => {}).onThread t fun y => y.count 14 1
  let whole (p : Partition) : Partition := { p with spoiledTiles := p.spoiledTiles.filter fun r => r != (x.owner, x.name) }
  let s1 := if (s.thread x.owner).kernel == x.kernel && (s.thread x.owner).tile x.name == .inSlot k then
      s0.onThread x.owner fun y => y.setTile x.name .saved
    else s0
  match x.kernel.bind s.kernel with
  | none => s1
  | some y =>
    let s2 := s1.onPartition y.part fun p => { whole p with
      savedTiles := (x.owner, x.name, x.tile) :: p.savedTiles.filter fun r => !(r.1 == x.owner && r.2.1 == x.name)
      savedThreads := p.savedThreads.map fun q => if q.1 == x.owner then (q.1, q.2.setTile x.name .saved) else q }
    match x.kernel with
    | some j => if (s.partition y.part).spoiledTiles.contains (x.owner, x.name) then s2.abortKernel j 0x42 false else s2
    | none => s2

/-- The partition of a thread's kernel. -/
def State.partOf (s : State) (t : ThreadRef) : Nat := (((s.thread t).kernel.bind s.kernel).map (·.part)).getD 0

/-- Whether the record of a spilled tile of thread t is uncorrectable (09_tile R230). -/
def State.recordLost (s : State) (t : ThreadRef) (name : Nat) : Bool := (s.partition (s.partOf t)).spoiledTiles.contains (t, name)

/-- A touch of a name of thread t: its slot is LIVE and its own, after a spill or a reload where that needs one; a record that is
uncorrectable gives a slot set by R224 (09_tile R227-R230). -/
def State.touchTile (s : State) (t : ThreadRef) (name : Nat) : State :=
  match (s.thread t).tile name with
  | .unbound => s
  | .inSlot k =>
    if s.owns t ((s.cluster t.cluster).slot k) then s
    else if ((s.cluster t.cluster).slot k).state == .held then (s.spill t k).takeSlot t k name {}
    else s.takeSlot t k name {}
  | .saved =>
    match s.slotToBind t.cluster with
    | none => s
    | some k =>
      let s1 := if ((s.cluster t.cluster).slot k).state == .held then s.spill t k else s
      let saved := (s1.partition (s.partOf t)).savedTiles
      let r := if s.recordLost t name then none else (saved.find? fun r => r.1 == t && r.2.1 == name).map fun r => r.2.2
      (((s1.takeSlot t k name (r.getD {})).onThread t fun x => (x.setTile name (.inSlot k)).count 14 1)).onPartition (s.partOf t)
        fun p => { p with
          savedTiles := saved.filter fun r => !(r.1 == t && r.2.1 == name)
          spoiledTiles := p.spoiledTiles.filter fun r => r != (t, name) }

/-- After the start of a command that touched a name of thread t in state s: a reload that met an uncorrectable record aborts the kernel
with UNCORRECTABLE (09_tile R230). -/
def State.afterTouch (s1 s : State) (t : ThreadRef) (name : Nat) : State :=
  if (s.thread t).tile name == .saved && s.recordLost t name then s1.uncorrectable t else s1

/-- The tile that a name of thread t holds, once touched. -/
def State.tileOf (s : State) (t : ThreadRef) (name : Nat) : Tile :=
  match (s.thread t).tile name with
  | .inSlot k => ((s.cluster t.cluster).slot k).tile
  | _ => {}

/-- The tile that a name of thread t holds replaced. -/
def State.setTileOf (s : State) (t : ThreadRef) (name : Nat) (x : Tile) : State :=
  match (s.thread t).tile name with
  | .inSlot k => s.onSlot t.cluster k fun y => { y with tile := x }
  | _ => s

/-- Whether a tile update of thread t under FCTL.TIE holds its next issue (05_traps R136). -/
def State.tieHeld (s : State) (t : ThreadRef) : Bool :=
  ((s.core (coreKey t)).tileQ.any fun c => c.slot == t.slot && c.tie) ||
  match (s.cluster t.cluster).matrix with
  | some (k, c) => k == t.core && c.slot == t.slot && c.tie
  | none => false

/-! ### Issue -/

/-- TILEFAULT's value: kind, name, row and column (05_traps R133). -/
def tileFaultValue (kind name row col : Nat) : Word := BitVec.ofNat 64 (kind * 2 ^ 12 + name * 2 ^ 8 + row * 2 ^ 4 + col)

/-- Whether a name of the running thread is bound. -/
def State.tileBound (s : State) (name : Nat) : Bool := s.ctx.tile name != .unbound

/-- TILEFAULT for an unbound name. -/
def State.unboundTile (s : State) (name : Nat) : State := s.trap causeTileFault (tileFaultValue 1 name 0 0)

/-- What the running thread captures for a tile command (09_tile R231). -/
def State.captureTile (s : State) (op : TOp) (ta va vb mr mc : Nat) : TCmd :=
  let t := s.ctx
  { seq := 0, slot := s.cur.slot, op := op, ta := ta, va := va, vb := vb, mr := mr, mc := mc, fmt := field t.vtype 4 0
    vlmax := t.vlmax, run := field t.tctl 4 0, sat := bit t.tctl 5, pc := t.pc }

/-- A tile command enters its core's queue, or waits for a free entry; the instruction has n words (09_tile R232). -/
def State.acceptTile (s : State) (n : Nat) (c : TCmd) (f : Thread → Thread) : State :=
  if 8 ≤ (s.core (coreKey s.cur)).tileQ.length then s.block
  else
    (s.onCore (coreKey s.cur) fun k => { k with tileQ := k.tileQ ++ [{ c with seq := s.ctx.nextSeq }] }).onCtx fun t =>
      Thread.retire { f t with nextSeq := t.nextSeq + 1 } n

/-- The registers below VNREG that an update needs: how many from va, from vb, and the scale registers. -/
def TCmd.inFile (c : TCmd) (t : Thread) : Bool :=
  match c.op with
  | .mma16 => groupFits t c.va 16 && groupFits t c.vb 16
  | .mma16s => groupFits t c.va 16 && groupFits t c.vb 16 && groupFits t c.vsa 1 && groupFits t c.vsb 1
  | _ => groupFits t c.va 1 && groupFits t c.vb 1

/-- The issue of an update: its checks, the resume point of TSTARTROW, which it clears, and the queue (09_tile R236, R239,
R240). -/
def updateIssue (n : Nat) (c : TCmd) (s : State) : Host.Outcome State Fault Refusal :=
  if !s.ctx.typed || (c.op.path c.fmt).isNone || !c.inFile s.ctx then .next s.illegalType
  else if !s.tileBound c.ta then .next (s.unboundTile c.ta)
  else
    let resumed := bit s.ctx.tstartrow 15
    .next (s.acceptTile n { c with
      tie := fctlTie s.ctx.fctl
      update := if resumed then field s.ctx.tstartrow 3 0 else 0
      slice := if resumed then field s.ctx.tstartrow 5 4 else 0 } fun t =>
        if resumed then { t with tstartrow := 0#64 } else t)

/-- MOPA: one rank-one update (09_tile R237). -/
def execMopa (t : BitVec 4) (a b : BitVec 6) (r c : BitVec 3) (s : State) : Host.Outcome State Fault Refusal :=
  updateIssue 1 (s.captureTile .mopa t.toNat a.toNat b.toNat r.toNat c.toNat) s

/-- MOPS: one rank-one update, subtracted (09_tile R237). -/
def execMops (t : BitVec 4) (a b : BitVec 6) (r c : BitVec 3) (s : State) : Host.Outcome State Fault Refusal :=
  updateIssue 1 (s.captureTile .mops t.toNat a.toNat b.toNat r.toNat c.toNat) s

/-- MOPAN: one rank-one update on the partial path (09_tile R237). -/
def execMopan (t : BitVec 4) (a b : BitVec 6) (r c : BitVec 3) (s : State) : Host.Outcome State Fault Refusal :=
  updateIssue 1 (s.captureTile .mopan t.toNat a.toNat b.toNat r.toNat c.toNat) s

/-- MMA16: sixteen rank-one updates (09_tile R238). -/
def execMma16 (t : BitVec 4) (a b : BitVec 6) (r c k : BitVec 3) (s : State) : Host.Outcome State Fault Refusal :=
  updateIssue 2 { s.captureTile .mma16 t.toNat a.toNat b.toNat r.toNat c.toNat with mdep := k.toNat } s

/-- MMA16S: sixteen rank-one updates under scales (09_tile R238). -/
def execMma16s (t : BitVec 4) (a b : BitVec 6) (r c k : BitVec 3) (x y : BitVec 6) (s : State) :
    Host.Outcome State Fault Refusal :=
  updateIssue 2 { s.captureTile .mma16s t.toNat a.toNat b.toNat r.toNat c.toNat with
    mdep := k.toNat, vsa := x.toNat, vsb := y.toNat } s

/-- MPROM: promotes the run in progress (09_tile R241). -/
def execMprom (t : BitVec 4) (s : State) : Host.Outcome State Fault Refusal :=
  .next (if !s.tileBound t.toNat then s.unboundTile t.toNat
    else s.acceptTile 1 { s.captureTile .mprom t.toNat 0 0 0 0 with tie := fctlTie s.ctx.fctl } id)

/-- MZERO: clears the tile without promoting (09_tile R241). -/
def execMzero (t : BitVec 4) (s : State) : Host.Outcome State Fault Refusal :=
  .next (if !s.tileBound t.toNat then s.unboundTile t.toNat else s.acceptTile 1 (s.captureTile .mzero t.toNat 0 0 0 0) id)

/-- The issue of a move between a tile and a vector register; `slice` holds the row or column (09_tile R242). -/
def tileMove (op : TOp) (ta v line m : Nat) (s : State) : Host.Outcome State Fault Refusal :=
  .next (if !groupFits s.ctx v 1 then s.illegalType
    else if !s.tileBound ta then s.unboundTile ta
    else s.acceptTile 1 { s.captureTile op ta v 0 m 0 with slice := line } id)

/-- TRDV: a row of a tile into a vector register (09_tile R242). -/
def execTrdv (t : BitVec 4) (d : BitVec 6) (r : BitVec 4) (c : BitVec 3) (s : State) : Host.Outcome State Fault Refusal :=
  tileMove .trdv t.toNat d.toNat r.toNat c.toNat s

/-- TRDC: a column of a tile into a vector register (09_tile R242). -/
def execTrdc (t : BitVec 4) (d : BitVec 6) (c : BitVec 4) (r : BitVec 3) (s : State) : Host.Outcome State Fault Refusal :=
  tileMove .trdc t.toNat d.toNat c.toNat r.toNat s

/-- TWRV: a vector register into a row of a tile (09_tile R242). -/
def execTwrv (t : BitVec 4) (a : BitVec 6) (r : BitVec 4) (c : BitVec 3) (s : State) : Host.Outcome State Fault Refusal :=
  tileMove .twrv t.toNat a.toNat r.toNat c.toNat s

/-- TWRC: a vector register into a column of a tile (09_tile R242). -/
def execTwrc (t : BitVec 4) (a : BitVec 6) (c : BitVec 4) (r : BitVec 3) (s : State) : Host.Outcome State Fault Refusal :=
  tileMove .twrc t.toNat a.toNat c.toNat r.toNat s

/-- TALLOC: binds a name to a slot, and says whether it could (09_tile R245). -/
def execTalloc (t : BitVec 4) (p : BitVec 3) (s : State) : Host.Outcome State Fault Refusal :=
  .next (if s.tileBound t.toNat then s.onCtx fun x => (x.setP p.toNat true).retire 1
    else
      match if s.owedTiles s.cur.cluster < s.bindable s.cur.cluster then s.bindTile s.cur t.toNat else none with
      | some s1 => s1.onCtx fun x => (x.setP p.toNat true).retire 1
      | none => s.onCtx fun x => (x.setP p.toNat false).retire 1)

/-- A name of a thread unbound: its slot becomes FREE, its record goes (09_tile R228, R245). -/
def State.unbindTile (s : State) (t : ThreadRef) (k : Nat) : State :=
  let s1 := match (s.thread t).tile k with
    | .inSlot n => s.onCluster t.cluster fun c => { c with
        slots := c.slots.setIfInBounds n ((c.slot n).freeIf fun x => x.owner == t && x.kernel == (s.thread t).kernel) }
    | .saved => s.onPartition (s.partOf t) fun p => { p with savedTiles := p.savedTiles.filter fun r => !(r.1 == t && r.2.1 == k) }
    | .unbound => s
  s1.onThread t fun x => x.setTile k .unbound

/-- Whether an instruction of the running thread that names a tile has not completed (09_tile R233, R245). -/
def State.tileInUse (s : State) (name : Nat) : Bool :=
  let k := coreKey s.cur
  ((s.queuedTiles k s.cur.slot ++ s.runningTile k s.cur.slot).any fun c => c.ta == name) ||
  (s.core k).commands.any fun v => v.slot == s.cur.slot && v.op.isTileMove && v.vd == name

/-- TFREE: unbinds a name once its earlier instructions have completed (09_tile R245). It takes effect at issue and touches no tile, so
that it neither spills nor reloads, and a slot on which the name waits stays its owner's: R228 counts T-CTRL instructions other than TALLOC
among the touches (DESIGN CHOICE, log entry 90). -/
def execTfree (t : BitVec 4) (s : State) : Host.Outcome State Fault Refusal :=
  .next (if s.tileInUse t.toNat then s.block else (s.unbindTile s.cur t.toNat).retire)

/-- The places of the eight 256-byte pieces of a record whose first byte lies at a place: each by itself, since a migration may have moved
some of them (09_tile R246, 15_page R387). -/
def State.recordPieces (s : State) (write : Bool) (ea : Word) (p : Place) : List Place :=
  (List.range 8).map fun i =>
    match (s.reach s.agent (.thread s.cur false) false write false (ea + BitVec.ofNat 64 (256 * i))).1 with
    | .place q => q
    | _ => { p with loc := p.loc + 256 * i }

/-- TSAVE and TREST: the checks of a 2,048-byte record in one piece, and the queue (09_tile R246). -/
def tileRecord (op : TOp) (ta : Nat) (ea : Word) (s : State) : Host.Outcome State Fault Refusal :=
  if !s.tileBound ta then .next (s.unboundTile ta)
  else if ea.toNat % 2048 ≠ 0 then .next (s.trap causeMisaligned ea)
  else if 8 ≤ (s.core (coreKey s.cur)).tileQ.length then .next s.block
  else
    match s.reach s.agent (.thread s.cur false) false (op == .tsave) false ea with
    | (.deny, s1) => .next (s1.trap causeAccess ea)
    | (.walk, s1) => .next s1.block
    | (.place p, s1) =>
      .next (s1.acceptTile 1 { s1.captureTile op ta 0 0 0 0 with pieces := s1.recordPieces (op == .tsave) ea p, ea := ea } id)

/-- TSAVE: writes the tile's record (09_tile R246). -/
def execTsave (t : BitVec 4) (a : BitVec 5) (s : State) : Host.Outcome State Fault Refusal :=
  tileRecord .tsave t.toNat (s.ctx.g a.toNat) s

/-- TREST: sets the tile from a record (09_tile R246). -/
def execTrest (t : BitVec 4) (a : BitVec 5) (s : State) : Host.Outcome State Fault Refusal :=
  tileRecord .trest t.toNat (s.ctx.g a.toNat) s

end Sys2Proof.Machine
end

