-- ==== Sys2Proof/Machine/FullEmpty.lean ====
section
/-! DEFINITION. Full-empty granules (10_buffer R251-R255): the storage events with the wait tables and the copy-fault lists
(R254, R264), the instructions of the FE major, and the release of a cluster before the seal (16_link R422). -/

namespace Sys2Proof.Machine

open Sys2Proof

/-! ### The storage of a location -/

/-- What a local store or scratchpad keeps beside its bytes, by location. -/
def State.storageAt (s : State) (l : Nat) : Storage :=
  if l < 2 ^ 63 then (s.cluster ((l - 2 ^ 62) / 2 ^ 20)).scratchpad else (s.core ((l - 2 ^ 63) / 2 ^ 18)).localStore

/-- The state with a location's storage changed. -/
def State.onStorage (s : State) (l : Nat) (f : Storage → Storage) : State :=
  if l < 2 ^ 63 then s.onCluster ((l - 2 ^ 62) / 2 ^ 20) fun c => { c with scratchpad := f c.scratchpad }
  else s.onCore ((l - 2 ^ 63) / 2 ^ 18) fun c => { c with localStore := f c.localStore }

/-- Whether a copy-fault range holds a granule (10_buffer R264). -/
def CopyFault.holds (f : CopyFault) (g : Nat) : Bool := decide (f.first ≤ g) && decide (g < f.first + f.count)

/-- The copy-fault range of a granule, the oldest if there are several. -/
def State.copyFaultAt (s : State) (g : Nat) : Option CopyFault := (s.storageAt (g * 16)).faults.find? fun f => f.holds g

/-- The copy-fault ranges of a granule removed (10_buffer R264). -/
def State.clearCopyFault (s : State) (g : Nat) : State :=
  if (s.copyFaultAt g).isNone then s
  else s.onStorage (g * 16) fun x => { x with faults := x.faults.filter fun f => !f.holds g }

/-! ### Changing a bit -/

/-- A thread other than the one that issues has completed its instruction: a STOPPED thread is READY when it resumes
(04_context R100). -/
def State.completeFor (s : State) (t : ThreadRef) (f : Thread → Thread) : State :=
  let x := s.thread t
  if x.phase == .stopped then
    s.onThread t fun y => { (f y).retire 1 with phase := .stopped, stopPrior := .ready, inTable := false }
  else (s.onThread t fun y => { (f y).retire 1 with inTable := false }).endStep t x.pc

/-- A request of a wait table finds its state: it is performed and its thread's instruction completes (10_buffer R254). -/
def State.feServe (s : State) (w : FeWait) : State :=
  let s1 := s.onStorage w.loc fun x => { x with waits := x.waits.filter fun v => v.thread != w.thread }
  match w.op with
  | .load rd clear =>
    let v := BitVec.ofNat 64 (Memory.readNat w.loc 8 s1.mem)
    (if clear then s1.setFe (w.loc / 16) false else s1).completeFor w.thread fun t => t.setG rd v
  | .store v =>
    (((writeDirect s1 w.loc 8 v.toNat).setFe (w.loc / 16) true).wakeWatches w.loc 8 1).completeFor w.thread fun t => t

/-- The wait table's requests for a granule tried again, oldest first (10_buffer R254). -/
def State.feWake (g : Nat) : Nat → State → State
  | 0, s => s
  | n + 1, s =>
    match (s.storageAt (g * 16)).waits.find? fun w => w.loc / 16 == g && w.full == s.feFull g with
    | none => s
    | some w => State.feWake g n (s.feServe w)

/-- A granule's bit set, and with a change the waiting requests served (10_buffer R251, R254). -/
def State.feChange (s : State) (g : Nat) (full : Bool) : State :=
  if s.feFull g == full then s else State.feWake g 16 (s.setFe g full)

/-- The release of a cluster: its thread 0 of core 0 starts at the stored value and its cores count cycles (16_link R422). -/
def State.releaseCluster (s : State) (c : Nat) (pc : Word) : State :=
  let s1 := (List.range 8).foldl (fun a k => a.onCore (c * 8 + k) fun x => { x with released := some s.now }) s
  (s1.onCluster c fun x => { x with released := true }).setThread ⟨c, 0, 0⟩ (Thread.boot pc)

/-- Whether an STF of the running thread at a location releases a cluster (16_link R422). -/
def State.releases (s : State) (l : Nat) : Bool :=
  !s.sealed && s.ctx.sys && decide (2 ^ 62 ≤ l) && decide (l < 2 ^ 63) && l % 2 ^ 20 == 0xFFFE0 &&
    !(s.cluster ((l - 2 ^ 62) / 2 ^ 20)).released

/-- Data and FULL written in one event, by the running thread (10_buffer R251). -/
def State.feStore (s : State) (l : Nat) (v : Word) : State :=
  ((writeDirect s l 8 v.toNat).wakeWatches l 8 1).feChange (l / 16) true

/-! ### Issue -/

/-- The address of an FE instruction (10_buffer R252). -/
def feAddress (t : Thread) (a : BitVec 5) (o : BitVec 9) : Word := t.g a.toNat + sext o.toNat 9 * 8#64

/-- The running thread's FE access has returned with a predicate for a try form. -/
def Thread.feDone (t : Thread) (p : Option (Nat × Bool)) : Thread :=
  match p with
  | some (n, b) => (t.setP n b).retire 1
  | none => t.retire 1

/-- The scope of an FE release: the accessor's cluster, or the package (10_buffer R255). -/
def State.feScope (s : State) (l : Nat) : Nat := if clusterOfLoc l = s.cur.cluster then 1 else 3

/-- A COPYFAULT that thread t reports: a command of its own that has completed leaves its list, one that still runs is marked, and no WAIT
reports it again (10_buffer R264). -/
def State.reportCopy (s : State) (t : ThreadRef) (id : Nat) : State :=
  (s.onThread t fun x => { x with failed := x.failed.filter fun g => g.id != id }).onCluster t.cluster fun c =>
    { c with engine := c.engine.map fun e => if e.id = id ∧ e.owner = t then { e with reported := true } else e }

/-- The checks of an FE instruction, in order: alignment, window, the access itself with a fused cluster's storage, the
copy-fault list when the form observes it; then the effect at the location (10_buffer R252, R253, R264; 16_link R422). A
release part waits for the earlier accesses of the thread (R255). -/
def feOp (a : BitVec 5) (o : BitVec 9) (try_ : Option Nat) (write release observes : Bool) (s : State)
    (effect : Nat → State → State) : Host.Outcome State Fault Refusal :=
  let ea := feAddress s.ctx a o
  if ea.toNat % 8 ≠ 0 then .next (s.trap causeMisaligned ea)
  else if field ea 63 56 < 0xFB ∨ 0xFE < field ea 63 56 then .next (s.trap causeAccess ea)
  else
    match s.scalarCheck ea 8 write (!write) write fun p => try_.isNone && decide (Loc.void ≤ p.loc) with
    | .stop s1 => .next s1
    | .ok p s1 =>
      if Loc.void ≤ p.loc then .next (s1.onCtx fun t => t.feDone (try_.map fun n => (n, false)))
      else if (release ∧ !s1.released) ∨ !s1.mayPerform s1.cur s1.ctx.nextSeq p 8 false then .next s1.block
      else
        match (if observes then s1.copyFaultAt (p.loc / 16) else none) with
        | some f => .next ((if f.owner = s1.cur then s1.reportCopy s1.cur f.id else s1).trap causeCopyFault f.mask)
        | none =>
          if !write && s1.readPoisoned p 8 then .next (s1.poisonStop p.loc)
          else .next (effect p.loc (s1.release (if release then some (s1.feScope p.loc) else none)))

/-- A blocking request that found the wrong state enters its storage's wait table, or is refused by a full one (10_buffer
R254). -/
def State.feWait (s : State) (l : Nat) (full : Bool) (op : FeOp) : State :=
  if (s.storageAt l).waits.length < 16 then
    (s.onStorage l fun x => { x with waits := x.waits ++ [{ thread := s.cur, loc := l, full := full, op := op }] }).onCtx
      fun t => { t.wait with inTable := true }
  else s.onCtx fun t => { t.wait with refused := some s.now }

/-- LDF and LDFC at a location (10_buffer R253). -/
def feLoad (d : BitVec 5) (clear : Bool) (try_ : Option Nat) (l : Nat) (s : State) : State :=
  if s.feFull (l / 16) then
    let v := BitVec.ofNat 64 (Memory.readNat l 8 s.mem)
    let s1 := s.onCtx fun t => (t.setG d.toNat v).feDone (try_.map fun n => (n, true))
    if clear then s1.feChange (l / 16) false else s1
  else
    match try_ with
    | some n => s.onCtx fun t => t.feDone (some (n, false))
    | none => s.feWait l true (.load d.toNat clear)

/-- STF at a location (10_buffer R253); before the seal it may release a cluster (16_link R422). -/
def feStoreAny (v : BitVec 5) (try_ : Option Nat) (l : Nat) (s : State) : State :=
  let empty := !s.feFull (l / 16)
  let s1 := (s.onCtx fun t => t.feDone (try_.map fun n => (n, empty))).feStore l (s.ctx.g v.toNat)
  if s.releases l then s1.releaseCluster ((l - 2 ^ 62) / 2 ^ 20) (s.ctx.g v.toNat) else s1

/-- STFW at a location (10_buffer R253). -/
def feStoreWhenEmpty (v : BitVec 5) (try_ : Option Nat) (l : Nat) (s : State) : State :=
  if s.feFull (l / 16) then
    match try_ with
    | some n => s.onCtx fun t => t.feDone (some (n, false))
    | none => s.feWait l false (.store (s.ctx.g v.toNat))
  else (s.onCtx fun t => t.feDone (try_.map fun n => (n, true))).feStore l (s.ctx.g v.toNat)

/-- FESET and FECLR at a location: a copy-fault range of the granule goes, and the bit is set (10_buffer R253, R264). -/
def feMark (full : Bool) (try_ : Option Nat) (l : Nat) (s : State) : State :=
  let changed := s.feFull (l / 16) != full
  ((s.onCtx fun t => t.feDone (try_.map fun n => (n, changed))).clearCopyFault (l / 16)).feChange (l / 16) full

/-- LDF: waits for FULL, then reads (10_buffer R253). -/
def execLdf (d a : BitVec 5) (o : BitVec 9) (s : State) : Host.Outcome State Fault Refusal :=
  feOp a o none false false true s (feLoad d false none)

/-- LDF.TRY (10_buffer R253). -/
def execLdfTry (d a : BitVec 5) (p : BitVec 3) (o : BitVec 9) (s : State) : Host.Outcome State Fault Refusal :=
  feOp a o (some p.toNat) false false true s (feLoad d false (some p.toNat))

/-- LDFC: waits for FULL, reads and empties (10_buffer R253). -/
def execLdfc (d a : BitVec 5) (o : BitVec 9) (s : State) : Host.Outcome State Fault Refusal :=
  feOp a o none false false true s (feLoad d true none)

/-- LDFC.TRY (10_buffer R253). -/
def execLdfcTry (d a : BitVec 5) (p : BitVec 3) (o : BitVec 9) (s : State) : Host.Outcome State Fault Refusal :=
  feOp a o (some p.toNat) false false true s (feLoad d true (some p.toNat))

/-- STF: writes and fills (10_buffer R253). -/
def execStf (v a : BitVec 5) (o : BitVec 9) (s : State) : Host.Outcome State Fault Refusal :=
  feOp a o none true true true s (feStoreAny v none)

/-- STF.TRY: also says whether the granule was EMPTY (10_buffer R253). -/
def execStfTry (v a : BitVec 5) (p : BitVec 3) (o : BitVec 9) (s : State) : Host.Outcome State Fault Refusal :=
  feOp a o (some p.toNat) true true true s (feStoreAny v (some p.toNat))

/-- STFW: waits for EMPTY, then writes and fills (10_buffer R253). -/
def execStfw (v a : BitVec 5) (o : BitVec 9) (s : State) : Host.Outcome State Fault Refusal :=
  feOp a o none true true true s (feStoreWhenEmpty v none)

/-- STFW.TRY (10_buffer R253). -/
def execStfwTry (v a : BitVec 5) (p : BitVec 3) (o : BitVec 9) (s : State) : Host.Outcome State Fault Refusal :=
  feOp a o (some p.toNat) true true true s (feStoreWhenEmpty v (some p.toNat))

/-- FESET: fills (10_buffer R253). -/
def execFeset (a : BitVec 5) (o : BitVec 9) (s : State) : Host.Outcome State Fault Refusal :=
  feOp a o none true true false s (feMark true none)

/-- FESET.TRY: also says whether the granule was EMPTY (10_buffer R253). -/
def execFesetTry (a : BitVec 5) (p : BitVec 3) (o : BitVec 9) (s : State) : Host.Outcome State Fault Refusal :=
  feOp a o (some p.toNat) true true false s (feMark true (some p.toNat))

/-- FECLR: empties (10_buffer R253). -/
def execFeclr (a : BitVec 5) (o : BitVec 9) (s : State) : Host.Outcome State Fault Refusal :=
  feOp a o none true false false s (feMark false none)

/-- FECLR.TRY: also says whether the granule was FULL (10_buffer R253). -/
def execFeclrTry (a : BitVec 5) (p : BitVec 3) (o : BitVec 9) (s : State) : Host.Outcome State Fault Refusal :=
  feOp a o (some p.toNat) true false false s (feMark false (some p.toNat))

/-- FETEST: whether the granule is FULL (10_buffer R253). -/
def execFetest (a : BitVec 5) (p : BitVec 3) (o : BitVec 9) (s : State) : Host.Outcome State Fault Refusal :=
  feOp a o (some p.toNat) false false true s fun l x => x.onCtx fun t => t.feDone (some (p.toNat, x.feFull (l / 16)))

/-- Whether thread t sends its refused FE request again: 16 cycles have passed (10_buffer R254). -/
def State.resendDue (s : State) (t : ThreadRef) : Bool :=
  match (s.thread t).phase, (s.thread t).refused with
  | .waiting, some c => decide (c + 16 ≤ s.now)
  | .ready, some c => decide (c + 16 ≤ s.now)
  | _, _ => false

/-- Thread t's refused request goes out again: its instruction issues afresh. -/
def State.resend (s : State) (t : ThreadRef) : State :=
  s.onThread t fun x => { x with refused := none, phase := .ready }

/-- FE_REQUEST_RESEND: thread t sends its refused request again (10_buffer R254). -/
def execFeRequestResend (t : ThreadRef) (s : State) : Host.Outcome State Fault Refusal :=
  .next (if s.resendDue t then s.resend t else s)

end Sys2Proof.Machine
end

