-- ==== Sys2Proof/Machine/Engine.lean ====
section
/-! DEFINITION. The engines of a cluster (10_buffer R258-R273): copy commands and their beats, failed pieces and copy-fault
lists, barrier arrivals by engines (14_barrier R367), shadow buffers and PUB, and the AV1 decoders. -/

namespace Sys2Proof.Machine

open Sys2Proof

/-! ### Commands -/

/-- The engine command in a slot of a cluster. -/
def State.engineCmd (s : State) (cl k : Nat) : Option EngineCmd := (s.cluster cl).engine.find? fun e => e.slot == k

/-- The state with the command in an engine slot changed. -/
def State.onEngine (s : State) (cl k : Nat) (f : EngineCmd → EngineCmd) : State :=
  s.onCluster cl fun c => { c with engine := c.engine.map fun e => if e.slot == k then f e else e }

/-- Whether a command is a copy. -/
def EngineCmd.isCopy (e : EngineCmd) : Bool := e.kind != .dec

/-- The row length in bytes (10_buffer R259). -/
def EngineCmd.len (e : EngineCmd) : Nat := field e.shape 31 0

/-- The row count. -/
def EngineCmd.rows (e : EngineCmd) : Nat := field e.shape 63 32

/-- The destination's row stride: the signed one of g[gst], or L for CPYX. -/
def EngineCmd.dstStride (e : EngineCmd) : Word :=
  if e.kind = .cpyx then BitVec.ofNat 64 e.len else sext (field e.strides 31 0) 32

/-- The destinations by number: one, or the clusters of the mask (10_buffer R259). -/
def EngineCmd.dests (e : EngineCmd) : List Nat :=
  if e.kind = .cpym then (List.range 64).filter fun k => bit e.set k else [0]

/-- Whether a copy has no beat left. -/
def EngineCmd.copied (e : EngineCmd) : Bool := decide (e.rows ≤ e.row) || e.len == 0 || e.dests.isEmpty

/-- The destination address of the current beat before the choice of a cluster. -/
def EngineCmd.beatDst (e : EngineCmd) : Word := e.dst + BitVec.ofNat 64 e.row * e.dstStride + BitVec.ofNat 64 e.part

/-- The bytes of the current beat: the rest of its row up to the end of a 64-byte block of the destination (10_buffer R259). -/
def EngineCmd.beatLen (e : EngineCmd) : Nat := min (e.len - e.part) (64 - e.beatDst.toNat % 64)

/-- The address of a destination of the current beat: that of cluster B + k for CPYM, none when B + k is out of range
(10_buffer R259); before the seal B + k is a physical number of one die, 16 for a row and 1 for a column, at most 351
(20_prog_rollcall R444). -/
def State.destAddress (s : State) (a : Word) (multi : Bool) (k : Nat) : Option Word :=
  if !multi then some a
  else if s.sealed then (if field a 55 43 + k < 8192 then some (a + BitVec.ofNat 64 (k * 2 ^ 43)) else none)
  else if field a 50 42 + k < Config.sites then some (a + BitVec.ofNat 64 (k * 2 ^ 42)) else none

/-! ### Access -/

/-- An engine command as an agent: with the issuing thread's address space and privilege (10_buffer R248). -/
def State.engineAgent (s : State) (e : EngineCmd) : Agent :=
  { who := e.owner, asid := e.asid, sys := e.sys, draft := s.versionOf e.kernel }

/-- An engine's access to one address: with the issuing thread's address space and privilege, by the cluster TLB; while a
fault awaits service it waits, and when service has failed it is denied (10_buffer R248, R259; 15_page R383). -/
def State.engineReach (s : State) (cl : Nat) (e : EngineCmd) (write : Bool) (ea : Word) : Reach × State :=
  if e.faultAt.any fun a => a.toNat / 65536 == ea.toNat / 65536 then
    if e.failNext then (.deny, s.onEngine cl e.slot fun x => { x with faultAt := none, failNext := false }) else (.walk, s)
  else
    s.reach (s.engineAgent e) (.engine cl e.slot) false write false ea

/-- How an engine's read ends: its bytes, or none when a check fails; a wait; or its kernel's abort. -/
inductive EngineRead where
  | data (b : Option (List Byte)) (s : State)
  | waits (s : State)
  | dead (s : State)
deriving DecidableEq, Repr

/-- Whether an agent in a cluster finds n bytes at a location ready to be accessed: not frozen by a commit, and the way there open. -/
def State.reachable (s : State) (cl l n : Nat) : Bool := !(Loc.isPhys l && s.frozen l n) && s.siteReady cl l

/-- A poisoned value met by an engine at a location: its kernel aborts; for a thread of no kernel the piece fails (15_page R391; log
entry 23). -/
def State.enginePoison (s : State) (e : EngineCmd) (l : Nat) : EngineRead :=
  match e.kernel with
  | some k => .dead ((s.errorAt l).abortKernel k 0x42 false)
  | none => .data none (s.errorAt l)

/-- Byte b as a command's copy reads it at a location: where an earlier beat of the same copy has written that byte, either this value
or the one from before the copy, a free choice (10_buffer R259; log entry 18). -/
def EngineCmd.reads (e : EngineCmd) (draw l : Nat) (b : Byte) : Byte :=
  match e.before.find? fun q => q.1 == l with
  | some q => if Config.choice draw l then q.2 else b
  | none => b

/-- The n bytes that an engine reads at an address, in runs that end at 256-byte boundaries. -/
def State.engineRead (s : State) (cl : Nat) (e : EngineCmd) : Nat → Word → Nat → EngineRead
  | 0, _, _ => .data (some []) s
  | fuel + 1, ea, n =>
    if n = 0 then .data (some []) s
    else
      let m := min n (256 - ea.toNat % 256)
      match s.engineReach cl e false ea with
      | (.deny, s1) => .data none s1
      | (.walk, s1) => .waits s1
      | (.place p, s1) =>
        if s1.beyondMark e.kernel ea.toNat m || !s1.reachable cl p.loc m then .waits s1
        else if s1.readPoisoned p m then s1.enginePoison e p.loc
        else
          match ((s1.touchBank p.loc).snoopRead p.loc).engineRead cl e fuel (ea + BitVec.ofNat 64 m) (n - m) with
          | .data (some r) s2 =>
            .data (some ((List.range m).map (fun i => e.reads s.fresh (p.loc + i) (readPlaceByte s1 p i)) ++ r)) s2
          | x => x

/-- A word that an engine reads. -/
def leWord (b : List Byte) (i n : Nat) : Nat := leNat ((b.drop i).take n)

/-- The source address of the current beat; for CPYX by the row's index (10_buffer R259). -/
def State.sourceAddress (s : State) (cl : Nat) (e : EngineCmd) : Except EngineRead (Word × State) :=
  if e.kind = .cpyx then
    match s.engineRead cl { e with before := [] } 2 (e.strides + BitVec.ofNat 64 (4 * e.row)) 4 with
    | .data (some b) s1 => .ok (e.src + BitVec.ofNat 64 (leNat b + e.part), s1)
    | x => .error x
  else .ok (e.src + BitVec.ofNat 64 e.row * sext (field e.strides 63 32) 32 + BitVec.ofNat 64 e.part, s)

/-- The read of the current beat. -/
def State.beatRead (s : State) (cl : Nat) (e : EngineCmd) : EngineRead :=
  match s.sourceAddress cl e with
  | .error x => x
  | .ok (a, s1) => (if e.before.isEmpty then s1 else s1.draw).engineRead cl e 2 a e.beatLen

/-! ### Writing and failing -/

/-- The location of a shadow write: the other region of the pair (10_buffer R266). -/
def shadowLoc (sh : Bool) (l : Nat) : Nat :=
  if sh ∧ 2 ^ 62 ≤ l ∧ l < 2 ^ 63 then (if l / 2 ^ 19 % 2 = 1 then l - 2 ^ 19 else l + 2 ^ 19) else l

/-- A number from a list of bytes, least first. -/
def bytesNat (b : List Byte) : Nat := leNat b

/-- The granules of n bytes from a location. -/
def granulesOf (l n : Nat) : List Nat := (List.range ((l + n - 1) / 16 + 1 - l / 16)).map fun i => l / 16 + i

/-- The granules that an engine has written with FE become FULL; a copy-fault range of one of them goes (10_buffer R251,
R264). -/
def State.fillGranules (s : State) (l n : Nat) : State :=
  if Loc.isStorage l then (granulesOf l n).foldl (fun a g => (a.clearCopyFault g).feChange g true) s else s

/-- How an engine's write ends. -/
inductive EngineWrite where
  | done (s : State)
  | denied (s : State)
  | waits (s : State)
  | dropped (s : State)
deriving DecidableEq, Repr

/-- An engine's write of bytes in one 64-byte block: drafts by its kernel's version, caches snooped, granules filled with FE
(10_buffer R262, R251). -/
def State.engineWrite (s : State) (cl : Nat) (e : EngineCmd) (fe sh : Bool) (ea : Word) (b : List Byte) : EngineWrite :=
  match s.engineReach cl e true ea with
  | (.deny, s1) => .denied s1
  | (.walk, s1) => .waits s1
  | (.place p, s1) =>
    let q := { p with loc := shadowLoc sh p.loc }
    if !s1.reachable cl q.loc b.length then .waits s1
    else
      match s1.writePlace e.kernel q b.length (leNat b) with
      | .waits s2 => .waits s2
      | .dropped s2 => .dropped s2
      | .done s2 =>
        let s3 := (s2.dropCached q.loc).touchBank q.loc
        let s4 := if fe then s3.fillGranules q.loc b.length else s3
        let grown := s2.pkg.drafts.length - s1.pkg.drafts.length
        .done (s4.onThread e.owner fun t => (if e.isCopy then t.count 15 b.length else t).count 16 grown)

/-- The n bytes under a copy's write at an address, by location, as they stand before it (10_buffer R259). -/
def State.underWrite (s : State) (cl : Nat) (e : EngineCmd) (ea : Word) (n : Nat) : List (Nat × Byte) :=
  match (s.engineReach cl e true ea).1 with
  | .place p =>
    let q := { p with loc := shadowLoc e.sh p.loc }
    (List.range n).map fun i => (q.loc + i, readPlaceByte s q i)
  | _ => []

/-- A storage whose listed ranges of a command carry the mask given. -/
def Storage.remask (x : Storage) (e : EngineCmd) (mask : Word) : Storage :=
  { x with faults := x.faults.map fun f => if f.id == e.id && f.owner == e.owner then { f with mask := mask } else f }

/-- A destination of a command has failed: its mask bit is set, here and in the copy-fault ranges that it has listed
(10_buffer R263, R264). -/
def State.failDest (s : State) (cl : Nat) (e : EngineCmd) (k : Nat) : State :=
  match s.engineCmd cl e.slot with
  | none => s
  | some x =>
    let m := setBit x.mask k true
    let s1 := s.onEngine cl e.slot fun y => { y with mask := m }
    if e.fe then
      { s1 with
        cores := s1.cores.map fun p => (p.1, { p.2 with localStore := p.2.localStore.remask e m })
        clusters := s1.clusters.map fun p => (p.1, { p.2 with scratchpad := p.2.scratchpad.remask e m }) }
    else s1

/-- A copy-fault range enters its storage's list of 8, the oldest dropped from a full one; FE requests that wait for its
granules issue afresh and find it (10_buffer R264; log entry 40). -/
def State.listCopyFault (s : State) (l n : Nat) (f : CopyFault) : State :=
  let held := (s.storageAt l).waits.filter fun w => f.holds (w.loc / 16)
  let s1 := s.onStorage l fun x => { x with
    faults := (x.faults ++ [f]).drop (x.faults.length - 7)
    waits := x.waits.filter fun w => !f.holds (w.loc / 16) }
  if n = 0 then s
  else held.foldl (fun a w => a.onThread w.thread fun t => { t with inTable := false }) s1

/-- The cluster whose scratchpad an address of window 0xFD or 0xFC names for an agent's thread. -/
def State.scratchName (s : State) (t : ThreadRef) (ea : Word) : Option Nat :=
  if field ea 63 56 = 0xFD then some t.cluster else if field ea 63 56 = 0xFC then s.namedCluster ea else none

/-- A piece of a shadow copy has failed at an address: the FAILED bit of the pair that it targets is set (10_buffer R263). -/
def State.failPair (s : State) (e : EngineCmd) (ea : Word) : State :=
  match s.scratchName e.owner ea with
  | some c =>
    if e.sh && s.enabled c then
      s.onCluster c fun x => { x with failedPairs := x.failedPairs ||| BitVec.ofNat 16 (2 ^ (field ea 19 15 % 16)) }
    else s
  | none => s

/-- A piece has failed at destination k, at an address: its mask bit, and its shadow pair's FAILED bit (10_buffer R263). -/
def State.failAt (s : State) (cl : Nat) (e : EngineCmd) (k : Nat) (ea : Word) : State := (s.failDest cl e k).failPair e ea

/-- A piece whose source failed, at one destination: it has failed there; with FE its range enters the copy-fault list, unless the copy
was issued through a binding, released since or not (10_buffer R263, 13_queue R335). -/
def State.failPiece (s : State) (cl : Nat) (e : EngineCmd) (k : Nat) (ea : Word) (n : Nat) : EngineWrite :=
  match s.engineReach cl e true ea with
  | (.deny, s1) => .done (s1.failAt cl e k ea)
  | (.walk, s1) => .waits s1
  | (.place p, s1) =>
    let l := shadowLoc e.sh p.loc
    let s2 := s1.failAt cl e k ea
    let mask := ((s2.engineCmd cl e.slot).map (·.mask)).getD 0#64
    .done (if e.fe && e.via.isNone && !e.unbound && Loc.isStorage l then
        s2.listCopyFault l n { first := l / 16, count := (l + n - 1) / 16 + 1 - l / 16, id := e.id, owner := e.owner, mask := mask }
      else s2)

/-! ### The run of a copy -/

/-- A copy moved on from its current beat. -/
def EngineCmd.advance (e : EngineCmd) : EngineCmd :=
  if e.part + e.beatLen < e.len then { e with part := e.part + e.beatLen, read := none, pending := [] }
  else { e with row := e.row + 1, part := 0, read := none, pending := [] }

/-- Destination k of the current beat is settled; after the last one the copy moves on. -/
def EngineCmd.settle (e : EngineCmd) (k : Nat) : EngineCmd :=
  let rest := e.pending.filter fun j => j != k
  if rest.isEmpty then e.advance else { e with pending := rest }

/-- Whether a copy still has a beat to read: its current one is unread, or another follows (10_buffer R261). -/
def EngineCmd.reading (e : EngineCmd) : Bool :=
  !e.copied && (e.read.isNone || decide (e.row + 1 < e.rows) || decide (e.part + e.beatLen < e.len))

/-- Whether every scalar-path event that a command's thread issued before it has been performed (11_ordering R278). -/
def State.engineOrdered (s : State) (e : EngineCmd) : Bool :=
  let x := s.thread e.owner
  !(x.loads.any fun l => decide (l.seq < e.id) && l.touches) && (!x.stores.any fun w => decide (w.seq < e.id)) && !s.awaitsMark e.owner e.id

/-- The copy that a cluster's engine starts next, when it can start one (10_buffer R258, R261). -/
def State.nextCopy (s : State) (cl : Nat) : Option EngineCmd :=
  let l := (s.cluster cl).engine
  if l.any fun e => e.isCopy && e.state == .running && e.reading then none
  else (l.find? fun e => e.isCopy && e.state == .queued).bind fun e => if s.engineOrdered e then some e else none

/-- Whether a cluster's copy engine starts a copy. -/
def State.copyStartDue (s : State) (cl : Nat) : Bool := (s.cluster cl).switchedOut.isNone && (s.nextCopy cl).isSome

/-- A cluster's next copy is RUNNING. -/
def State.copyStart (s : State) (cl : Nat) : State :=
  match s.nextCopy cl with
  | some e => s.onEngine cl e.slot fun x => { x with state := .running }
  | none => s

/-- COPY_START: the engine of a cluster starts its next copy, when it can (10_buffer R258). -/
def execCopyStart (cl : Nat) (s : State) : Host.Outcome State Fault Refusal :=
  .next (if s.copyStartDue cl then s.copyStart cl else s)

/-- The destinations that the current beat of a copy has yet to reach: all of them, or after a bell within the beat those that it had not
reached by then (10_buffer R259, 05_traps R140). -/
def EngineCmd.toReach (e : EngineCmd) : List Nat := if e.pending.isEmpty then e.dests else e.pending

/-- Whether the current beat of the copy in slot k can be brought to destination dst: one already read goes on after a bell (05_traps
R143). -/
def State.beatDue (s : State) (cl k dst : Nat) : Bool :=
  match s.engineCmd cl k with
  | some e => ((s.cluster cl).switchedOut.isNone || e.read.isSome) && e.isCopy && e.state == .running && !e.copied &&
      (if e.read.isNone then e.toReach.contains dst else e.pending.contains dst)
  | none => false

/-- The beat that slot k's copy has read, at destination dst: written, or failed there (10_buffer R259, R263). -/
def State.beatWrite (s : State) (cl k dst : Nat) : State :=
  match s.engineCmd cl k with
  | none => s
  | some e =>
    let n := e.beatLen
    match s.destAddress e.beatDst (e.kind == .cpym) dst, e.read with
    | none, _ => (s.failDest cl e dst).onEngine cl k fun x => x.settle dst
    | some _, none => s
    | some ea, some (some b) =>
      match s.engineWrite cl e e.fe e.sh ea b with
      | .done s1 => s1.onEngine cl k fun x => ({ x with before := x.before ++ s.underWrite cl e ea b.length } : EngineCmd).settle dst
      | .denied s1 => (s1.failAt cl e dst ea).onEngine cl k fun x => x.settle dst
      | .waits s1 => s1
      | .dropped s1 => s1
    | some ea, some none =>
      match s.failPiece cl e dst ea n with
      | .done s1 => s1.onEngine cl k fun x => x.settle dst
      | .denied s1 => s1
      | .waits s1 => s1
      | .dropped s1 => s1

/-- One arrival of the current beat of slot k's copy: read once for all destinations, then brought to dst. -/
def State.beat (s : State) (cl k dst : Nat) : State :=
  match s.engineCmd cl k with
  | none => s
  | some e =>
    match e.read with
    | some _ => s.beatWrite cl k dst
    | none =>
      match s.beatRead cl e with
      | .waits s1 => s1
      | .dead s1 => s1
      | .data b s1 => (s1.onEngine cl k fun x => { x with read := some b, pending := x.toReach }).beatWrite cl k dst

/-- COPY_BEAT_ARRIVAL: the current beat of the copy in slot k of a cluster reaches destination dst, when it is due (10_buffer
R259, R261). -/
def execCopyBeatArrival (cl k dst : Nat) (s : State) : Host.Outcome State Fault Refusal :=
  .next (if s.beatDue cl k dst then s.beat cl k dst else s)

/-! ### Barrier arrivals -/

/-- Event 0x0006: an arrival by an engine has been refused; A is the barrier's address, B the kernel (14_barrier R367,
16_link R416). -/
def State.refuseArrival (s : State) (cl : Nat) (e : EngineCmd) (bar : Word) : State :=
  s.postEvent (cl / Config.sites) 6 bar (match e.kernel with
    | some k => (s.kernel k).elim 0#64 (handleOf k)
    | none => 0#64)

/-- An engine's arrival on a barrier: performed, refused with an event, or waiting (14_barrier R367). -/
def State.engineArrive (s : State) (cl : Nat) (e : EngineCmd) (bar : Word) : EngineWrite :=
  if bar.toNat % 8 ≠ 0 then .done (s.refuseArrival cl e bar)
  else
    match s.engineReach cl e true bar with
    | (.deny, s1) => .done (s1.refuseArrival cl e bar)
    | (.walk, s1) => .waits s1
    | (.place p, s1) =>
      if !s1.reachable cl p.loc 8 then .waits s1
      else if s1.readPoisoned p 8 then
        match s1.enginePoison e p.loc with
        | .dead s2 => .dropped s2
        | _ => .done (s1.refuseArrival cl e bar)
      else
        match (arriveWord (readPlace s1 p 0 8)).1 with
        | none => .done (s1.refuseArrival cl e bar)
        | some w =>
          match s1.writePlace e.kernel p 8 w with
          | .waits s2 => .waits s2
          | .dropped s2 => .dropped s2
          | .done s2 =>
            .done (((s2.dropCached p.loc).touchBank p.loc).onThread e.owner fun t =>
              t.count 16 (s2.pkg.drafts.length - s1.pkg.drafts.length))

/-- Whether the copy in slot k makes its barrier arrival now: every piece is written or failed (10_buffer R265). -/
def State.engineArrivalDue (s : State) (cl k : Nat) : Bool :=
  match s.engineCmd cl k with
  | some e => (s.cluster cl).switchedOut.isNone && e.isCopy && e.state == .running && e.copied && e.bar != 0#64 && !e.arrived
  | none => false

/-- The arrival of slot k's copy on its barrier. -/
def State.engineArrival (s : State) (cl k : Nat) : State :=
  match s.engineCmd cl k with
  | none => s
  | some e =>
    match s.engineArrive cl e e.bar with
    | .done s1 => s1.onEngine cl k fun x => { x with arrived := true }
    | .denied s1 => s1
    | .waits s1 => s1
    | .dropped s1 => s1

/-- ENGINE_BARRIER_ARRIVAL: the copy in slot k of a cluster arrives on its barrier, when it is due (14_barrier R367). -/
def execEngineBarrierArrival (cl k : Nat) (s : State) : Host.Outcome State Fault Refusal :=
  .next (if s.engineArrivalDue cl k then s.engineArrival cl k else s)

/-! ### Completion -/

/-- The failed operations with one more, in the order of their issue. -/
def insertFailed (f : FailedOp) : List FailedOp → List FailedOp
  | [] => [f]
  | g :: r => if f.id < g.id then f :: g :: r else g :: insertFailed f r

/-- The result word of a copy issued through a COPY binding (13_queue R335). -/
def EngineCmd.resultWord (e : EngineCmd) (tag : Nat) : Word :=
  BitVec.ofNat 64 (tag * 2 ^ 32 + 2 ^ 31 + if e.mask = 0#64 then 0 else 2 ^ 30 + trailingZeros 64 e.mask.toNat)

/-- The end of an engine command: its slot is free, or holds its result; a failure is recorded for WAIT; a thread that has
exited ends its kernel by it (10_buffer R257, R258; 13_queue R335; 06_group R172). -/
def State.finishEngine (s : State) (cl k : Nat) : State :=
  match s.engineCmd cl k with
  | none => s
  | some e =>
    match e.via with
    | some (_, tag) =>
      (s.onEngine cl k fun x => { x with state := .complete, result := some (e.resultWord tag) }).settleThread e.owner
    | none =>
      let s1 := s.onCluster cl fun c => { c with engine := c.engine.filter fun x => x.slot != k }
      let failed := e.mask != 0#64 && !e.reported
      if failed && (s.thread e.owner).phase == .retired then
        match e.kernel with
        | some j => s1.abortKernel j 0x44 false
        | none => s1
      else
        let s2 := if failed then
            s1.onThread e.owner fun t => { t with failed := insertFailed { id := e.id, tile := e.tile, mask := e.mask } t.failed }
          else s1
        s2.settleThread e.owner

/-- Whether the copy in slot k completes (10_buffer R258). -/
def State.copyDone (s : State) (cl k : Nat) : Bool :=
  match s.engineCmd cl k with
  | some e => (s.cluster cl).switchedOut.isNone && e.isCopy && e.state == .running && e.copied && (e.bar == 0#64 || e.arrived)
  | none => false

/-- COPY_COMPLETE: the copy in slot k of a cluster completes, when it is done (10_buffer R258). -/
def execCopyComplete (cl k : Nat) (s : State) : Host.Outcome State Fault Refusal :=
  .next (if s.copyDone cl k then s.finishEngine cl k else s)

/-! ### Issue -/

/-- A check of R260 that fails. -/
inductive CopyCheck where
  | illegal
  | misaligned
deriving DecidableEq, Repr

/-- The checks at issue of a copy command (10_buffer R260). -/
def EngineCmd.check (e : EngineCmd) : Option CopyCheck :=
  let w := field e.dst 63 56
  if (e.fe ∧ (w < 0xFB ∨ 0xFE < w)) ∨ (e.sh ∧ w ≠ 0xFD ∧ w ≠ 0xFC) ∨ (e.kind = .cpym ∧ w ≠ 0xFC) then some .illegal
  else if e.fe ∧ (e.dst.toNat % 16 ≠ 0 ∨ e.len % 16 ≠ 0 ∨ (e.kind ≠ .cpyx ∧ field e.strides 31 0 % 16 ≠ 0)) then some .misaligned
  else none

/-- The lowest free engine command slot of a cluster (10_buffer R258). -/
def State.freeEngineSlot (s : State) (cl : Nat) : Option Nat :=
  (List.range 16).find? fun k => (s.engineCmd cl k).isNone

/-- A command accepted by the running thread's cluster (10_buffer R258). -/
def State.acceptEngine (s : State) (k : Nat) (e : EngineCmd) : State :=
  let x := { e with
    id := s.ctx.nextSeq, slot := k, owner := s.cur, kernel := s.ctx.kernel, asid := s.ctx.asid.toNat, sys := s.ctx.sys }
  (s.onCluster s.cur.cluster fun c => { c with engine := c.engine ++ [x] }).onCtx fun t => { t with nextSeq := t.nextSeq + 1 }

/-- The two words of an LC instruction as a trap value (03_encoding R69, R79). -/
def lcWords (sub : Nat) (d a h t : BitVec 5) (second : Nat) : Word :=
  BitVec.ofNat 64 (0x3E * 2 ^ 26 + sub * 2 ^ 22 + d.toNat * 2 ^ 17 + a.toNat * 2 ^ 12 + h.toNat * 2 ^ 7 + t.toNat * 2 ^ 2 +
    second * 2 ^ 32)

/-- The option word of a copy command (03_encoding R69). -/
def optionWord (fe sh : BitVec 1) (g : BitVec 5) (n : BitVec 2) (set : BitVec 5) : Nat :=
  fe.toNat * 2 ^ 31 + sh.toNat * 2 ^ 30 + g.toNat * 2 ^ 25 + n.toNat * 2 ^ 23 + set.toNat * 2 ^ 18

/-- A copy instruction: the checks of R260, a free slot, acceptance (10_buffer R258-R260). -/
def copyOp (words : Word) (e : EngineCmd) (s : State) : Host.Outcome State Fault Refusal :=
  match e.check with
  | some .illegal => .next (s.trap causeIllegal words)
  | some .misaligned => .next (s.trap causeMisaligned e.dst)
  | none =>
    match s.freeEngineSlot s.cur.cluster with
    | none => .next s.block
    | some k => .next (s.acceptEngine k e).retireLong

/-- The command of a copy instruction with its operands captured (10_buffer R259). -/
def copyCmd (s : State) (kind : EngineKind) (d a h t : BitVec 5) (fe sh : BitVec 1) (g : BitVec 5) (n : BitVec 2) (set : Word) :
    EngineCmd :=
  { id := 0, slot := 0, kind := kind, owner := s.cur, dst := s.ctx.g d.toNat, src := s.ctx.g a.toNat, shape := s.ctx.g h.toNat
    strides := s.ctx.g t.toNat, bar := s.ctx.g g.toNat, set := set, fe := fe == 1#1, sh := sh == 1#1, tile := n == 1#2 }

/-- CPY: a copy of rows (10_buffer R259). -/
def execCpy (d a h t : BitVec 5) (e w : BitVec 1) (g : BitVec 5) (n : BitVec 2) (s : State) : Host.Outcome State Fault Refusal :=
  copyOp (lcWords 0 d a h t (optionWord e w g n 0#5)) (copyCmd s .cpy d a h t e w g n 0#64) s

/-- CPYX: a copy of rows named by an index list (10_buffer R259). -/
def execCpyx (d a h t : BitVec 5) (e w : BitVec 1) (g : BitVec 5) (n : BitVec 2) (s : State) : Host.Outcome State Fault Refusal :=
  copyOp (lcWords 1 d a h t (optionWord e w g n 0#5)) (copyCmd s .cpyx d a h t e w g n 0#64) s

/-- CPYM: a copy of rows to several clusters (10_buffer R259). -/
def execCpym (d a h t : BitVec 5) (e w : BitVec 1) (g : BitVec 5) (n : BitVec 2) (x1 : BitVec 5) (s : State) :
    Host.Outcome State Fault Refusal :=
  copyOp (lcWords 2 d a h t (optionWord e w g n x1)) (copyCmd s .cpym d a h t e w g n (s.ctx.g x1.toNat)) s

/-! ### PUB -/

/-- Whether a shadow copy writes pairs lo to hi - 1 of a cluster (10_buffer R267). -/
def State.shadows (s : State) (e : EngineCmd) (cl lo hi : Nat) : Bool :=
  (e.dests.any fun k => (s.destAddress e.dst (e.kind == .cpym) k).bind (s.scratchName e.owner) == some cl) &&
  (List.range e.rows).any fun r =>
    let o := (e.dst + BitVec.ofNat 64 r * e.dstStride).toNat % 2 ^ 20
    (List.range 32).any fun region =>
      decide (lo ≤ region % 16) && decide (region % 16 < hi) && decide (o < region * 32768 + 32768) &&
        decide (region * 32768 < o + e.len)

/-- The pairs lo to hi - 1 as bits of a cluster's swap and FAILED words. -/
def pairBits (lo n : Nat) : BitVec 16 := BitVec.ofNat 16 ((2 ^ n - 1) * 2 ^ lo)

/-- PUB: waits for the thread's earlier accesses of both paths (11_ordering R278) and its shadow copies of the pairs, then
swaps the pairs, or reports those that failed (10_buffer R267). DESIGN CHOICE: an address in any window but 0xFD and 0xFC raises ACCESS
with TVAL = g[gd], for which the spec names no cause (log entry 87). -/
def execPub (d h : BitVec 5) (c : BitVec 3) (s : State) : Host.Outcome State Fault Refusal :=
  let ea := s.ctx.g d.toNat
  let n := field (s.ctx.g h.toNat) 4 0
  let k0 := field ea 19 15 % 16
  if n = 0 ∨ 16 < k0 + n ∨ (field ea 63 56 ≠ 0xFD ∧ field ea 63 56 ≠ 0xFC) then .next (s.trap causeAccess ea)
  else
    match s.windowOf s.agent ea with
    | .deny => .next (s.trap causeAccess ea)
    | .translated => .next (s.trap causeAccess ea)
    | .loc l =>
      if Loc.void ≤ l then .next s.retireLong
      else
        let cl := (l - 2 ^ 62) / 2 ^ 20
        if !s.released || !s.vectorPathDone s.cur true true || ((s.cluster s.cur.cluster).engine.any fun e =>
            e.isCopy && e.sh && e.owner == s.cur && e.state != .complete && s.shadows e cl k0 (k0 + n)) then .next s.block
        else
          let f := (s.cluster cl).failedPairs &&& pairBits k0 n
          if f ≠ 0#16 then
            .next ((s.onCluster cl fun c => { c with failedPairs := c.failedPairs &&& ~~~f }).trap causeCopyFault
              (BitVec.ofNat 64 (f.toNat / 2 ^ k0)))
          else .next ((s.flush s.cur c.toNat).onCluster cl fun x => { x with swap := x.swap ^^^ pairBits k0 n }).retireLong

/-! ### Decoders -/

/-- Decode engine e of a die. -/
def Die.engine (d : Die) (e : Nat) : DecodeEngine := if e = 0 then d.engine0 else d.engine1

/-- The state with decode engine e of a die changed. -/
def State.onDecoder (s : State) (die e : Nat) (f : DecodeEngine → DecodeEngine) : State :=
  s.onDie die fun d => if e = 0 then { d with engine0 := f d.engine0 } else { d with engine1 := f d.engine1 }

/-- DEC: a decode job for an engine of the thread's die; it needs an engine command slot and a place in the engine's queue of
8 (10_buffer R269; the status array's alignment, log entry 41). -/
def execDec (d a : BitVec 5) (n : BitVec 2) (e : BitVec 1) (s : State) : Host.Outcome State Fault Refusal :=
  let die := dieOf s.cur
  if (s.ctx.g d.toNat).toNat % 8 ≠ 0 then .next (s.trap causeMisaligned (s.ctx.g d.toNat))
  else
    match s.freeEngineSlot s.cur.cluster with
    | none => .next s.block
    | some k =>
      if 8 ≤ ((s.die die).engine e.toNat).jobs.length then .next s.block
      else
        let x : EngineCmd := { id := 0, slot := k, kind := .dec, owner := s.cur, dst := s.ctx.g d.toNat, src := s.ctx.g a.toNat
                               tile := n == 1#2, engine := e.toNat }
        .next ((s.acceptEngine k x).onDecoder die e.toNat fun j => { j with jobs := j.jobs ++ [(s.cur.cluster, k)] }).retireLong

/-- DECST: the state of a decode engine of the thread's die (10_buffer R273). -/
def execDecst (d a : BitVec 5) (s : State) : Host.Outcome State Fault Refusal :=
  let x := (s.die (dieOf s.cur)).engine (field (s.ctx.g a.toNat) 0 0)
  let job := (x.jobs.head?.bind fun j => s.engineCmd j.1 j.2).map (·.job)
  let v := x.total % 2 ^ 32 * 2 ^ 32 + (match job with
    | some j => if j.started then j.done % 2 ^ 16 * 2 ^ 16 + 1 else 0
    | none => 0) + x.jobs.length * 16
  .next ((s.onCtx fun t => t.setG d.toNat (BitVec.ofNat 64 v)).retireLong)

/-- Word i of a job's descriptor. -/
def DecodeJob.word (j : DecodeJob) (i : Nat) : Word := j.desc.getD i 0#64

/-- Whether a job descriptor is valid (10_buffer R269). -/
def DecodeJob.ok (j : DecodeJob) : Bool :=
  field (j.word 2) 63 32 != 0 && field (j.word 3) 63 7 == 0 && decide (field (j.word 3) 1 0 ≤ 1) &&
  decide (field (j.word 3) 3 2 ≤ 1) && decide (field (j.word 3) 5 4 ≤ 2) && j.word 5 != 0#64 && field (j.word 6) 63 32 != 0 &&
  !(bit (j.word 3) 6 && (field (j.word 6) 31 0 % 16 != 0 || (j.word 4).toNat % 16 != 0))

/-- The job ends: it leaves its engine's queue, and its command completes (10_buffer R269, R272). -/
def State.endJob (s : State) (die e cl k : Nat) (failed : Bool) : State :=
  ((s.onDecoder die e fun x => { x with jobs := x.jobs.filter fun j => j != (cl, k) }).onEngine cl k fun x =>
    { x with mask := if failed then 1#64 else 0#64 }).finishEngine cl k

/-- The first job of a decode engine whose cluster runs, or whose frame begun before the bell goes on (05_traps R140, 10_buffer R272). -/
def State.headJob (s : State) (die e : Nat) : Option (Nat × EngineCmd) :=
  ((s.die die).engine e).jobs.findSome? fun j =>
    (s.engineCmd j.1 j.2).bind fun x => if (s.cluster j.1).switchedOut.isSome && x.job.frame.isNone then none else some (j.1, x)

/-- Whether a decode engine's next job starts. -/
def State.jobStartDue (s : State) (die e : Nat) : Bool :=
  match s.headJob die e with
  | some (_, x) => !x.job.started && s.engineOrdered x
  | none => false

/-- The start of a job: its descriptor is read; an invalid one, or a read that fails, ends it (10_buffer R269). -/
def State.jobStart (s : State) (die e : Nat) : State :=
  match s.headJob die e with
  | none => s
  | some (cl, x) =>
    match s.engineRead cl x 2 x.src 64 with
    | .waits s1 => s1
    | .dead s1 => s1
    | .data none s1 => s1.endJob die e cl x.slot true
    | .data (some b) s1 =>
      let j := { x.job with started := true, key := s.fresh, desc := (List.range 8).map fun i => BitVec.ofNat 64 (leWord b (8 * i) 8) }
      if j.ok then s1.onEngine cl x.slot fun y => { y with state := .running, job := j }
      else s1.endJob die e cl x.slot true

/-- DEC_JOB_START: decode engine e of a die starts its next job (10_buffer R269). -/
def execDecJobStart (die e : Nat) (s : State) : Host.Outcome State Fault Refusal :=
  .next (if s.jobStartDue die e then s.jobStart die e else s)

/-! ### Bands -/

/-- The element of an output sample (10_buffer R270): zero beyond the frame, N8 or BF16. Frames count from the job's first one (R269). -/
def DecodeJob.sampleOf (j : DecodeJob) (frame w h plane row col : Nat) : Nat :=
  if h ≤ row ∨ w ≤ col then 0
  else
    let v := (Config.sample j.key (field (j.word 2) 31 0 + frame) plane row col).toNat
    let ten := Config.tenBit j.key (field (j.word 2) 31 0 + frame)
    let x := if ten then v else v % 256
    if field (j.word 3) 3 2 = 0 then (if ten then min ((x + 2) / 4) 255 else x)
    else (roundVal fmtBF16 0 false (FVal.div 64 (.fin false x 0) (.fin false (if ten then 1023 else 255) 0)).1).1

/-- The samples of a plane's rows of a band, in the order of the layout: plane, its width and height, first row, row count
(10_buffer R270). -/
def DecodeJob.planeOf (j : DecodeJob) (frame plane w h row0 rows : Nat) : List Nat :=
  if field (j.word 3) 1 0 = 0 then
    (List.range rows).flatMap fun r => (List.range w).map fun c => j.sampleOf frame w h plane (row0 + r) c
  else
    (List.range (ceilDiv w 16)).flatMap fun t => (List.range rows).flatMap fun r =>
      (List.range 16).map fun c => j.sampleOf frame w h plane (row0 + r) (16 * t + c)

/-- The bytes of one sample. -/
def DecodeJob.sampleBytes (j : DecodeJob) : Nat := if field (j.word 3) 3 2 = 0 then 1 else 2

/-- The length of a band of a frame of width w (10_buffer R270). -/
def DecodeJob.bandBytes (j : DecodeJob) (w : Nat) : Nat :=
  let wc := ceilDiv w 2
  (if field (j.word 3) 1 0 = 0 then 16 * w + 16 * wc else 256 * ceilDiv w 16 + 256 * ceilDiv wc 16) * j.sampleBytes

/-- Band b of a frame, as bytes; zeros when the frame is none (10_buffer R270, R271). -/
def DecodeJob.band_ (j : DecodeJob) (frame : Option Nat) (w h b : Nat) : List Byte :=
  match frame with
  | none => List.replicate (j.bandBytes w) 0#8
  | some f =>
    let wc := ceilDiv w 2
    let hc := ceilDiv h 2
    (j.planeOf f 0 w h (16 * b) 16 ++ j.planeOf f 1 wc hc (8 * b) 8 ++ j.planeOf f 2 wc hc (8 * b) 8).flatMap fun v =>
      (List.range j.sampleBytes).map fun i => BitVec.ofNat 8 (v / 256 ^ i)

/-- The set bits of a mask, lowest first. -/
def setBits (m : Word) : List Nat := (List.range 64).filter fun k => bit m k

/-- The address of a job's band q, none when its cluster is out of range or its window is not 0xFC (10_buffer R270). DESIGN CHOICE: R269
does not list a word 4 of another window among the invalid descriptors, and states no outcome of one; here such a job is accepted, none of
its bands has an address, and each fails like a refused write (log entry 107). -/
def State.bandAddress (s : State) (j : DecodeJob) (q : Nat) : Option Word :=
  let l := setBits (j.word 5)
  let pos := q / l.length % field (j.word 6) 63 32 * field (j.word 6) 31 0
  if field (j.word 4) 63 56 = 0xFC then
    (s.destAddress (j.word 4) true (l.getD (q % l.length) 0)).bind fun a =>
      if field a 19 0 + pos < 2 ^ 20 then some (a + BitVec.ofNat 64 pos) else none
  else none

/-- The number of bands of a frame of height h. -/
def bandCount (h : Nat) : Nat := ceilDiv h 16

/-- A frame that is to be written: OVERSIZE when its band exceeds the slot stride (10_buffer R270). -/
def DecodeJob.sized (j : DecodeJob) (status w h : Nat) (frame : Option Nat) : FrameWork :=
  if field (j.word 6) 31 0 < j.bandBytes w then { status := 4, w := w, h := h }
  else { status := status, w := w, h := h, bands := some (frame, w, h) }

/-- A frame that is not OK, by the job's policy (10_buffer R271). -/
def DecodeJob.byPolicy (j : DecodeJob) (status w h : Nat) : FrameWork :=
  match field (j.word 3) 5 4 with
  | 0 => j.sized status w h none
  | 1 => match j.lastOk with
    | some (f, lw, lh) => { status := status, w := w, h := h, bands := some (some f, lw, lh) }
    | none => j.sized status w h none
  | _ => { status := status, w := w, h := h }

/-- Whether a frame of a job can reference a CORRUPT or TAINTED one: one of its frames was, or there are frames before its first
(10_buffer R269, R271). -/
def DecodeJob.mayTaint (j : DecodeJob) : Bool := j.spoilt || field (j.word 2) 31 0 != 0

/-- The plan of the next frame of a job by the decoder's result; a frame beyond 4,096 x 2,304 is UNSUPPORTED, and one reported TAINTED
with no CORRUPT or TAINTED frame to reference is CORRUPT (10_buffer R268, R271; log entry 16). -/
def DecodeJob.plan (j : DecodeJob) (r : FrameResult) : FrameWork :=
  if j.broken then { status := 6, w := 0, h := 0, ok := false }
  else
    match r with
    | .ok w h =>
      if 4096 < w.toNat ∨ 2304 < h.toNat then j.byPolicy 5 w.toNat h.toNat else j.sized 1 w.toNat h.toNat (some j.done)
    | .corrupt w h => j.byPolicy 2 w.toNat h.toNat
    | .tainted w h => j.byPolicy (if j.mayTaint then 3 else 2) w.toNat h.toNat
    | .unsupported w h => j.byPolicy 5 w.toNat h.toNat
    | .readFault => { status := 6, w := 0, h := 0, ok := false }

/-- The decoder's free report of the n-th frame, whose bitstream it could read (10_buffer R271; log entry 16). -/
def frameResult (n : Nat) : FrameResult :=
  let r := Config.frameReport n
  match r.1 % 4 with
  | 0 => .ok r.2.1 r.2.2
  | 1 => .corrupt r.2.1 r.2.2
  | 2 => .tainted r.2.1 r.2.2
  | _ => .unsupported r.2.1 r.2.2

/-- The read of the bitstream that a job's next frame makes: a block of it at a free place (10_buffer R269, R271; log entry 16). -/
def State.bitstreamRead (s : State) (cl : Nat) (x : EngineCmd) : EngineRead :=
  let n := (x.job.word 1).toNat
  if n = 0 then .data (some []) s
  else
    let o := Config.bitstreamAt x.job.key (x.job.done + field (x.job.word 2) 31 0) % n
    s.engineRead cl x 2 (x.job.word 0 + BitVec.ofNat 64 o) (min 64 (n - o))

/-- How the writing of a band from an address on ends: with every write made or one refused; waiting after some bytes; or dropped with its
kernel. -/
inductive BandEnd where
  | done (ok : Bool) (s : State)
  | waits (ok : Bool) (written : Nat) (s : State)
  | dropped (s : State)
deriving DecidableEq, Repr

/-- A list of bytes written by a decoder from an address on, in 64-byte blocks; a refused block has failed and the others proceed
(10_buffer R263, R270). -/
def State.bandWrite (s : State) (cl : Nat) (e : EngineCmd) (fe : Bool) : Nat → Bool → Nat → Word → List Byte → BandEnd
  | 0, ok, _, _, _ => .done ok s
  | fuel + 1, ok, written, ea, b =>
    if b.isEmpty then .done ok s
    else
      let n := 64 - ea.toNat % 64
      let go (a : State) (k : Bool) : BandEnd :=
        a.bandWrite cl e fe fuel k (written + (b.take n).length) (ea + BitVec.ofNat 64 n) (b.drop n)
      match s.engineWrite cl e fe false ea (b.take n) with
      | .done s1 => go s1 ok
      | .denied s1 => go s1 false
      | .waits s1 => .waits ok written s1
      | .dropped s1 => .dropped s1

/-- How the writing of a frame's bands ends: with the frame's work so far. -/
inductive FrameEnd where
  | done (f : FrameWork) (s : State)
  | waits (f : FrameWork) (s : State)
  | dropped (s : State)
deriving DecidableEq, Repr

/-- The bands of a frame from where its work stands, at most n of them (10_buffer R270). -/
def State.bandsWrite (s : State) (cl : Nat) (e : EngineCmd) (f : FrameWork) : Nat → FrameEnd
  | 0 => .done f s
  | n + 1 =>
    match f.bands with
    | none => .done f s
    | some (frame, w, h) =>
      if bandCount h ≤ f.band then .done f s
      else
        match s.bandAddress e.job (e.job.band + f.band) with
        | none => s.bandsWrite cl e { f with ok := false, band := f.band + 1, part := 0 } n
        | some a =>
          let b := (e.job.band_ frame w h f.band).drop f.part
          match s.bandWrite cl e (bit (e.job.word 3) 6) (b.length / 64 + 2) f.ok f.part (a + BitVec.ofNat 64 f.part) b with
          | .done ok s1 => s1.bandsWrite cl e { f with ok := ok, band := f.band + 1, part := 0 } n
          | .waits ok m s1 => .waits { f with ok := ok, part := m } s1
          | .dropped s1 => .dropped s1

/-- Whether a result says that the bitstream could not be read. -/
def resultFault : FrameResult → Bool
  | .readFault => true
  | _ => false

/-- The status that a frame's record carries: FAULT when a band write or the bitstream read has failed (10_buffer R271). -/
def FrameWork.final (f : FrameWork) : Nat := if f.ok then f.status else 6

/-- The status record of a frame (10_buffer R271). -/
def FrameWork.record (f : FrameWork) : Nat := f.final * 2 ^ 32 + f.h * 2 ^ 16 + f.w

/-- A job whose frame is done: the frame counts, its bands are numbered, and its failure stays with the job. DESIGN CHOICE: a frame that
writes no band uses up the numbers of its bands, which the spec leaves open (10_buffer R270; log entry 88). DESIGN CHOICE: where the write
of the frame's own record fails, on which the spec is silent, the job goes on and is a failed operation in the end (log entry 42). -/
def DecodeJob.finish (j : DecodeJob) (f : FrameWork) (recorded : Bool) : DecodeJob :=
  { j with
    frame := none
    done := j.done + 1
    band := j.band + (match f.bands with
      | some (_, _, h) => bandCount h
      | none => bandCount f.h)
    lastOk := if f.final = 1 then some (j.done, f.w, f.h) else j.lastOk
    faulted := j.faulted || f.final == 6 || !recorded
    spoilt := j.spoilt || f.status == 2 || f.status == 3 }

/-- The state in which a decode engine keeps its frame's work and waits. -/
def State.keepFrame (s : State) (cl slot : Nat) (f : FrameWork) : State :=
  s.onEngine cl slot fun y => { y with job := { y.job with frame := some f } }

/-- A frame's record, once its bands are written (10_buffer R271). -/
def State.frameRecord (s : State) (cl : Nat) (x : EngineCmd) (f : FrameWork) : FrameEnd :=
  if f.recorded.isSome then .done f s
  else
    match s.engineWrite cl x false false (x.dst + BitVec.ofNat 64 (8 * x.job.done))
        ((List.range 8).map fun i => BitVec.ofNat 8 (f.record / 256 ^ i)) with
    | .done s1 => .done { f with recorded := some true } s1
    | .denied s1 => .done { f with recorded := some false } s1
    | .waits s1 => .waits f s1
    | .dropped s1 => .dropped s1

/-- A frame's arrival on the job's barrier, after its record (10_buffer R272). -/
def State.frameArrival (s : State) (cl : Nat) (x : EngineCmd) (f : FrameWork) : FrameEnd :=
  if x.job.word 7 = 0#64 then .done f s
  else
    match s.engineArrive cl x (x.job.word 7) with
    | .done s1 => .done f s1
    | .denied s1 => .done f s1
    | .waits s1 => .waits f s1
    | .dropped s1 => .dropped s1

/-- The output of a frame from where its work stands: bands, record, arrival (10_buffer R270-R272). -/
def State.frameOutput (s : State) (cl : Nat) (x : EngineCmd) (f : FrameWork) : FrameEnd :=
  match s.bandsWrite cl x f ((f.bands.map fun b => bandCount b.2.2).getD 0 + 1) with
  | .done f1 s1 =>
    match s1.frameRecord cl x f1 with
    | .done f2 s2 => s2.frameArrival cl x f2
    | r => r
  | r => r

/-- Whether decode engine e of a die has a job in decode. -/
def State.frameDue (s : State) (die e : Nat) : Bool :=
  match s.headJob die e with
  | some (_, x) => x.job.started
  | none => false

/-- A frame's output goes on, and when all of it is made the frame is done; after the last frame the job ends (10_buffer R271, R272). -/
def State.frameGoesOn (s : State) (die e cl : Nat) (x : EngineCmd) (f : FrameWork) : State :=
  match s.frameOutput cl x f with
  | .waits f1 s1 => s1.keepFrame cl x.slot f1
  | .dropped s1 => s1
  | .done f1 s1 =>
    let s2 := (s1.onDecoder die e fun d => { d with total := d.total + 1 }).onEngine cl x.slot fun y =>
      { y with job := y.job.finish f1 (f1.recorded.getD true) }
    match s2.engineCmd cl x.slot with
    | some y => if field (y.job.word 2) 63 32 ≤ y.job.done then s2.endJob die e cl x.slot y.job.faulted else s2
    | none => s2

/-- The next frame of a decode engine's job is decoded with a result and its output made, or the output of a frame that waited goes on; a
bitstream read that fails makes this frame and the remaining ones FAULT (10_buffer R271, R272). -/
def State.frameEnd (s : State) (die e : Nat) (r : FrameResult) : State :=
  match s.headJob die e with
  | none => s
  | some (cl, x) =>
    match x.job.frame with
    | some f => s.frameGoesOn die e cl x f
    | none =>
      let start (a : State) (q : FrameResult) : State :=
        let j := { x.job with broken := x.job.broken || resultFault q }
        (a.onEngine cl x.slot fun y => { y with job := j }).frameGoesOn die e cl { x with job := j } (x.job.plan q)
      if x.job.broken then start s r
      else
        match s.bitstreamRead cl x with
        | .waits s1 => s1
        | .dead s1 => s1
        | .data none s1 => start s1 .readFault
        | .data (some _) s1 => start s1 r

/-- DEC_FRAME_COMPLETE: decode engine e of a die completes the next frame of its job with the decoder's result (10_buffer
R271). -/
def execDecFrameComplete (die e : Nat) (r : FrameResult) (s : State) : Host.Outcome State Fault Refusal :=
  .next (if s.frameDue die e then s.frameEnd die e r else s)

end Sys2Proof.Machine
end

