-- ==== Sys2Proof/Machine/Queue.lean ====
section
/-! DEFINITION. Queue registers and their bindings (13_queue R331-R336), task queues with their hardware slots (R337-R344),
the QUEUE major (R354-R358), and the taking of task records (R349). -/

namespace Sys2Proof.Machine

open Sys2Proof

/-! ### Bindings -/

/-- The binding in queue register q. -/
def Thread.binding (t : Thread) (q : Nat) : BitVec 28 := t.queues.toArray.getD q 0#28

/-- KIND of a binding (13_queue R331). -/
def bindKind (b : BitVec 28) : Nat := b.toNat / 2 ^ 24

/-- TARGET of a binding. -/
def bindTarget (b : BitVec 28) : Nat := b.toNat % 2 ^ 24

/-- A binding set in queue register q. -/
def Thread.bind (t : Thread) (q : Nat) (b : BitVec 28) : Thread := { t with queues := t.queues.setIfInBounds q b }

/-! ### Task queues at their home agent -/

/-- Whether the fields of a queue table entry other than STATE are valid (13_queue R337; log entry 43). -/
def State.queueFields (s : State) (q : Nat) : Bool :=
  let w (i : Nat) : Word := s.queueWord q i
  field (w 1) 63 32 == 0 && decide (32 ≤ field (w 1) 31 0) && field (w 4) 63 37 == 0 && decide (field (w 4) 20 16 ≤ 23) &&
  w 7 == 0#64 && (bit (w 4) 22 || w 5 == 0#64)

/-- Whether a queue takes operations: its entry is valid, and STATE UNMAPPED, or MAPPED in a slot of its home die (13_queue
R337, R358). -/
def State.queueUsable (s : State) (q : Nat) : Bool :=
  s.queueFields q &&
  (field (s.queueWord q 4) 24 23 == 1 || (field (s.queueWord q 4) 24 23 == 2 && (s.queueSlot q).isSome))

/-- Whether a queue table entry can be bound: it takes operations, or the device itself has put it into OVERRUN (13_queue
R337, R355; log entry 43). -/
def State.queueBindable (s : State) (q : Nat) : Bool :=
  s.queueUsable q || (s.queueFields q && field (s.queueWord q 4) 24 23 == 3 && s.pkg.overrun.contains q)

/-- SIZE of a queue. -/
def State.queueSize (s : State) (q : Nat) : Nat := field (s.queueWord q 1) 31 0

/-- The place of record k of a queue in its ring (13_queue R338). -/
def State.ringPlace (s : State) (q k : Nat) (write : Bool) : Option Place :=
  let a := (s.queueWord q 0).toNat + 64 * (k % s.queueSize q)
  if a % 64 = 0 then s.devicePlace (field (s.queueWord q 4) 15 0) write (BitVec.ofNat 64 a) else none

/-- Whether the home agent of queue q reaches n bytes at a location now: no commit freezes them, and the way there is open (12_kernel R316,
16_link R398-R401; 15_page R389, R392). -/
def State.agentReady (s : State) (q l n : Nat) : Bool := !(Loc.isPhys l && s.frozen l n) && s.siteReady (walkerSite (s.queueDie q)) l

/-- Whether record k's ring slot takes the agent's access now; one that cannot be reached is answered at once. -/
def State.ringReady (s : State) (q k : Nat) (write : Bool) : Bool := (s.ringPlace q k write).all fun p => s.agentReady q p.loc 64

/-- The location of a queue's entry in memory (13_queue R337). -/
def State.entryLoc (s : State) (q : Nat) : Nat := (s.pkg.qtbase.toNat + 64 * q) % 2 ^ 60

/-- Whether a queue's entry in memory takes the agent's access now. -/
def State.entryReady (s : State) (q : Nat) : Bool := s.agentReady q (s.entryLoc q) 64

/-- Whether the control block of queue q, if it is a host queue, takes the agent's access now (13_queue R344; 16_link R398, R401). -/
def State.hostReady (s : State) (q : Nat) : Bool :=
  !bit (s.queueWord q 4) 22 || s.routeOpen (walkerSite (s.queueDie q)) (Loc.host 0)

/-- The 64 bytes of record k in the ring, none when they cannot be read. -/
def State.ringRead (s : State) (q k : Nat) : Option (List Byte) :=
  (s.ringPlace q k false).bind fun p =>
    if s.readPoisoned { p with draft := none } 64 then none
    else some ((List.range 64).map (readPlaceByte s { p with draft := none }))

/-- Record k written into the ring, none when that fails. -/
def State.ringWrite (s : State) (q k : Nat) (r : List Byte) : Option State :=
  (s.ringPlace q k true).map fun p => ((s.dropCached p.loc).storeBytes p.loc 64 (leNat r)).wakeWatches p.loc 64 1

/-- The queues of a home die that stand UNMAPPED with work after software has written words 2 to 4 of their entry, and are not on the
waiting list (13_queue R341, R342). -/
def State.recovered (s : State) (die : Nat) : List Nat :=
  s.pkg.rewritten.filter fun q => s.queueDie q == die && s.queueUsable q && (s.queueSlot q).isNone &&
    decide (s.queueHead q < s.queueTail q) && !(s.die die).waiting.contains q

/-- A die's waiting list as it stands: queues that software has given work join it at its tail. -/
def State.waitingList (s : State) (die : Nat) : List Nat := (s.die die).waiting ++ s.recovered die

/-- An UNMAPPED queue that has gained work joins its die's waiting list (13_queue R341). -/
def State.joinWaiting (s : State) (q : Nat) : State :=
  let l := s.waitingList (s.queueDie q)
  s.onDie (s.queueDie q) fun d => { d with waiting := if l.contains q then l else l ++ [q] }

/-- Records of a MAPPED queue in the ring that are neither on chip nor in flight (13_queue R339). -/
def QueueSlot.spilled (x : QueueSlot) : Nat := x.tail - x.head - x.records.length - x.flight

/-- refill_check (13_queue R339). -/
def QueueSlot.refill (x : QueueSlot) : QueueSlot :=
  if x.records.length ≤ 24 ∧ 0 < x.spilled ∧ x.flight = 0 then { x with flight := min 8 x.spilled } else x

/-- Whether a push to queue q, or its refusal, can be made at the home agent now: what it writes in memory takes the access. -/
def State.pushReady (s : State) (q : Nat) : Bool :=
  match s.queueSlot q with
  | some (_, x) => (x.spilled == 0 && x.flight == 0 && decide (x.records.length < 32)) || s.ringReady q x.tail true
  | none => s.entryReady q && s.ringReady q (s.queueTail q) true

/-- push at the home agent: the state after it, none when it fails (13_queue R339, R342). DESIGN CHOICE: a push through a binding that was
made before software redefined the entry with HOST = 1 succeeds like any other: R344 has QBIND refuse the binding and says nothing of the
push (log entry 106). -/
def State.queuePush (s : State) (q : Nat) (r : List Byte) : Option State :=
  if !s.queueUsable q || s.queueTail q - s.queueHead q == s.queueSize q then none
  else
    match s.queueSlot q with
    | some (_, x) =>
      if x.spilled = 0 ∧ x.flight = 0 ∧ x.records.length < 32 then
        some (s.onQueueSlot q fun y => { y with records := y.records ++ [r], tail := y.tail + 1 })
      else (s.ringWrite q x.tail r).map fun s1 => s1.onQueueSlot q fun y => { y with tail := y.tail + 1 }
    | none =>
      let t := s.queueTail q
      (s.ringWrite q t r).map fun s1 =>
        ((s1.noteRead (s.entryLoc q) 64).writeQueueWord q 3 (BitVec.ofNat 64 (t + 1))).joinWaiting q

/-- The first on-chip record of a queue, when a pop would succeed (13_queue R339). -/
def State.queueFirst (s : State) (q : Nat) : Option (List Byte) :=
  if s.queueUsable q then (s.queueSlot q).bind fun p => p.2.records.head? else none

/-- The write of HEAD to a host queue's control block (13_queue R344). -/
def State.writeHostHead (s : State) (q : Nat) : State :=
  let l := Loc.host ((s.queueWord q 5).toNat % 2 ^ 52) + 8
  (s.storeBytes l 8 (s.queueHead q)).wakeWatches l 8 1

/-- A pop of the first on-chip record: HEAD advances, the chip refills, and a host queue's HEAD is written after every 8
removals (13_queue R339, R344). -/
def State.queuePop (s : State) (q : Nat) : State :=
  let s1 := s.onQueueSlot q fun x =>
    ({ x with records := x.records.drop 1, head := x.head + 1, removed := x.removed + 1 } : QueueSlot).refill
  match s1.queueSlot q with
  | some (_, x) =>
    if bit (s.queueWord q 4) 22 && x.removed == 8 then (s1.writeHostHead q).onQueueSlot q fun y => { y with removed := 0 } else s1
  | none => s1

/-! ### Mapping -/

/-- Whether the head of a die's waiting list takes a slot now: one of the 64 is free, and the queue's entry takes the agent's access
(13_queue R341). -/
def State.mapDue (s : State) (die : Nat) : Bool :=
  ((s.waitingList die).head?.any s.entryReady) && decide ((s.die die).slots.length < 64)

/-- The lowest free hardware slot of a die: which of several FREE ones the head of the waiting list takes is left open (13_queue R341;
DESIGN CHOICE, log entry 106). -/
def Die.freeQueueSlot (d : Die) : Nat := ((List.range 64).find? fun k => !d.slots.any fun p => p.1 == k).getD 0

/-- The head of a die's waiting list takes a free slot, with a fetch of its oldest records in flight; a queue that can no
longer be mapped leaves the list (13_queue R341). DESIGN CHOICE: word 4 of the entry in memory shows STATE 2 and the slot at once, and
after the unmapping STATE 1 and SLOT 0; the spec says only that the slot keeps words 2 to 4 meanwhile (R337; log entry 106). -/
def State.mapQueue (s : State) (die : Nat) : State :=
  match s.waitingList die with
  | [] => s
  | q :: rest =>
    let s1 := (s.noteRead (s.entryLoc q) 64).onDie die fun d => { d with waiting := rest }
    if !s1.queueUsable q || (s1.queueSlot q).isSome || s1.queueDie q != die then s1
    else
      let k := (s1.die die).freeQueueSlot
      let w := BitVec.ofNat 64 (splice (splice (s1.queueWord q 4).toNat 23 2 2) 25 6 k)
      let x : QueueSlot :=
        { queue := q, flight := min 32 (s1.queueTail q - s1.queueHead q), quantum := s.now, head := s1.queueHead q
          tail := s1.queueTail q, ended := (s1.queueWord q 6).toNat, word4 := w }
      ((s1.onDie die fun d => { d with slots := Table.set k x d.slots }).writeQueueWord q 4 w).onPkg fun g =>
        { g with overrun := g.overrun.filter fun r => r != q, rewritten := g.rewritten.filter fun r => r != q }

/-- QUEUE_MAP: the head of a die's waiting list takes a free slot, when there is one (13_queue R341). -/
def execQueueMap (die : Nat) (s : State) : Host.Outcome State Fault Refusal :=
  .next (if s.mapDue die then s.mapQueue die else s)

/-- Whether a fetch of queue q is in flight and can arrive. -/
def State.fetchDue (s : State) (q : Nat) : Bool :=
  (s.queueSlot q).any fun p => decide (0 < p.2.flight) &&
    (List.range p.2.flight).all fun i => s.ringReady q (p.2.head + p.2.records.length + i) false

/-- The records of a fetch arrive and are appended on chip in order; one that cannot be read ends the fetch (13_queue R339;
log entry 43). -/
def State.fetchArrive (s : State) (q : Nat) : State :=
  match s.queueSlot q with
  | none => s
  | some (_, x) =>
    let first := x.head + x.records.length
    let rs := (List.range x.flight).map fun i => s.ringRead q (first + i)
    let good := (rs.takeWhile Option.isSome).filterMap id
    let s1 := (List.range x.flight).foldl (fun a i => (s.ringPlace q (first + i) false).elim a fun p => a.noteRead p.loc 64) s
    s1.onQueueSlot q fun y =>
      let z : QueueSlot := { y with records := y.records ++ good, flight := 0 }
      if good.length = rs.length then z.refill else z

/-- QUEUE_FETCH_ARRIVAL: queue q's fetch arrives (13_queue R339). -/
def execQueueFetchArrival (q : Nat) (s : State) : Host.Outcome State Fault Refusal :=
  .next (if s.fetchDue q then s.fetchArrive q else s)

/-- The on-chip records of a queue written back to its ring; a host queue's ring is never written (13_queue R341, R344). -/
def State.writeBack (s : State) (q : Nat) : Nat → List (List Byte) → State
  | _, [] => s
  | k, r :: rest => ((s.ringWrite q k r).getD s).writeBack q (k + 1) rest

/-- A MAPPED queue leaves its slot in the state given: records and entry are written back (13_queue R341, R342). -/
def State.unmapQueue (s : State) (q state : Nat) : State :=
  match s.queueSlot q with
  | none => s
  | some (k, x) =>
    let host := bit (s.queueWord q 4) 22
    let s1 := if host then s.writeHostHead q else s.writeBack q x.head x.records
    let w := BitVec.ofNat 64 (splice (splice x.word4.toNat 23 2 state) 25 6 0)
    let s2 := (((s1.writeQueueWord q 2 (BitVec.ofNat 64 x.head)).writeQueueWord q 3 (BitVec.ofNat 64 x.tail)).writeQueueWord q 6
      (BitVec.ofNat 64 x.ended)).writeQueueWord q 4 w
    s2.onDie (s.queueDie q) fun d => { d with slots := Table.erase k d.slots }

/-- Whether what the unmapping of queue q writes takes the agent's accesses now: its records' ring slots, its entry and a host queue's
control block (13_queue R341, R344). -/
def State.unmapReady (s : State) (q : Nat) (x : QueueSlot) : Bool :=
  s.entryReady q && s.hostReady q &&
  (bit (s.queueWord q 4) 22 || (List.range x.records.length).all fun i => s.ringReady q (x.head + i) true)

/-- Whether queue q's quantum ends, or it gives way for want of work (13_queue R341). -/
def State.quantumDue (s : State) (q : Nat) : Bool :=
  match s.queueSlot q with
  | none => false
  | some (_, x) =>
    let waiting := !(s.waitingList (s.queueDie q)).isEmpty
    let out := x.flight == 0 && s.unmapReady q x
    (decide (x.quantum + 4096 ≤ s.now) && (!waiting || out)) || (waiting && x.tail == x.head && out)

/-- The end of queue q's quantum: unmapped when another waits, else a new quantum (13_queue R341). -/
def State.quantumEnd (s : State) (q : Nat) : State :=
  if (s.waitingList (s.queueDie q)).isEmpty then s.onQueueSlot q fun x => { x with quantum := s.now }
  else
    let work := decide (s.queueHead q < s.queueTail q)
    let s1 := s.unmapQueue q 1
    if work then s1.joinWaiting q else s1

/-- QUEUE_QUANTUM_END: queue q's quantum ends, when it is due (13_queue R341). -/
def execQueueQuantumEnd (q : Nat) (s : State) : Host.Outcome State Fault Refusal :=
  .next (if s.quantumDue q then s.quantumEnd q else s)

/-! ### Host queues -/

/-- The address of a host queue's control block as a location. -/
def State.controlBlock (s : State) (q : Nat) : Nat := Loc.host ((s.queueWord q 5).toNat % 2 ^ 52)

/-- The home agent sees a TAIL in a host queue's control block: accepted, or the queue is OVERRUN (13_queue R342, R344). -/
def State.seeTail (s : State) (q tail : Nat) : State :=
  if !bit (s.queueWord q 4) 22 || !s.queueUsable q then s
  else
    if tail < s.queueTail q ∨ s.queueSize q < tail - s.queueHead q then
      let s1 := (s.storeBytes (s.controlBlock q + 16) 1 (Memory.readNat (s.controlBlock q + 16) 1 s.mem ||| 1)).wakeWatches
        (s.controlBlock q + 16) 1 1
      let s2 := match s1.queueSlot q with
        | some _ => s1.unmapQueue q 3
        | none => s1.writeQueueWord q 4 (BitVec.ofNat 64 (splice (s1.queueWord q 4).toNat 23 2 3))
      let s3 := s2.onPkg fun g => { g with overrun := q :: g.overrun.filter fun r => r != q }
      (s3.onDie (s.queueDie q) fun d => { d with waiting := d.waiting.filter fun r => r != q }).postEvent (s.queueDie q) 4
        (BitVec.ofNat 64 q) (BitVec.ofNat 64 tail)
    else
      match s.queueSlot q with
      | some _ => s.onQueueSlot q fun x => ({ x with tail := tail } : QueueSlot).refill
      | none =>
        let s2 := s.writeQueueWord q 3 (BitVec.ofNat 64 tail)
        if s.queueHead q < tail then s2.joinWaiting q else s2

/-- How a write of the host to its own memory reaches the device: not at all in PCIe modes, without power or over a FAILED link; at once; or
only when a link that holds its traffic goes on, until which the host has to wait and make the write again (16_link R398, R400, R401,
R411). -/
inductive Snoop where
  | unseen
  | seen
  | held
deriving DecidableEq, Repr

/-- What becomes of the snoops of the host's writes now. -/
def State.snoops (s : State) : Snoop :=
  if !s.pkg.hostMode.isCxl || !(s.pkg.boot == .rollCall || s.pkg.boot == .sealed) || s.behind .failed (Loc.host 0) then .unseen
  else if (linksOf (Loc.host 0)).any s.linkHeld then .held
  else .seen

/-- HOST_QUEUE_CONTROL_SNOOP: the host writes TAIL in queue q's control block; over CXL the write reaches the home agent as a
snoop (13_queue R344, 16_link R411). -/
def execHostQueueControlSnoop (q : Nat) (tail : BitVec 64) (s : State) : Host.Outcome State Fault Refusal :=
  let s1 := writeDirect s (s.controlBlock q) 8 tail.toNat
  .next (match s.snoops with
    | .seen => (s1.wakeWatches (s.controlBlock q) 8 1).seeTail q tail.toNat
    | .unseen => s1
    | .held => s)

/-- The host queues whose TAIL lies in n bytes of host memory from a location (13_queue R344). -/
def State.tailsAt (s : State) (l n : Nat) : List Nat :=
  if !s.sealed then []
  else (List.range 65536).filter fun q => bit (s.queueWord q 4) 22 && rangesMeet (s.controlBlock q) 8 l n

/-- The home agents of the queues given see the TAILs that stand in their control blocks (13_queue R344). -/
def State.seeTails (s : State) (qs : List Nat) : State :=
  qs.foldl (fun a q => a.seeTail q (Memory.readNat (a.controlBlock q) 8 a.mem)) s

/-- Whether the home agent polls queue q's control block: over PCIe, every 4,096 cycles, when the host answers (16_link R398, R400,
R411). -/
def State.pollDue (s : State) (q : Nat) : Bool :=
  s.sealed && !s.pkg.hostMode.isCxl && bit (s.queueWord q 4) 22 && decide (Table.get 0 q s.pkg.hostPolls + 4096 ≤ s.now) &&
  !s.behind .failed (Loc.host 0) && s.hostReady q

/-- The host queues of a home die that take TAILs, in PCIe modes, where the agent polls them (16_link R411). -/
def State.polled (s : State) (die : Nat) : List Nat :=
  if s.pkg.hostMode.isCxl || !s.sealed then []
  else (List.range 65536).filter fun q => bit (s.queueWord q 4) 22 && s.queueDie q == die && s.queueUsable q

/-- HOST_QUEUE_PCIE_POLL: the home agent reads queue q's control block (16_link R411). -/
def execHostQueuePciePoll (q : Nat) (s : State) : Host.Outcome State Fault Refusal :=
  .next (if s.pollDue q then
      (s.onPkg fun g => { g with hostPolls := Table.set q s.now g.hostPolls }).seeTail q
        (Memory.readNat (s.controlBlock q) 8 s.mem)
    else s)

/-! ### The taking of records -/

/-- A TCB named by a record that creates no kernel becomes FAULTED with the refusal code, when it is in a state that would
accept one (13_queue R349). -/
def State.faultTcb (s : State) (asid : Nat) (tcb code : Word) : State :=
  match (if tcb = 0#64 then none else s.tcbPlace asid tcb) with
  | some p => if tcbAccepts (s.blockWordAt p 0) then (s.writeWordAt p 6 code).writeWordAt p 0 6#64 else s
  | none => s

/-- A record refused with a code: its TCB, and event 0x0003 (13_queue R349, 16_link R416). -/
def State.refuseRecord (s : State) (q asid : Nat) (tcb code : Word) : State :=
  (s.faultTcb asid tcb code).postEvent (s.queueDie q) 3 (BitVec.ofNat 64 q) code

/-- The stream table of a record, none when it cannot be read (13_queue R349). -/
def State.recordStreams (s : State) (asid : Nat) (ea : Word) : Option (List Word) :=
  if ea = 0#64 then some []
  else if ea.toNat % 32 ≠ 0 then none
  else
    let ws := (List.range 64).map fun i =>
      (s.devicePlace asid false (ea + BitVec.ofNat 64 (8 * i))).map fun p => s.blockWordAt p 0
    if ws.all Option.isSome then some (ws.filterMap id) else none

/-- Whether a commit freezes a part of the stream table at an address (12_kernel R316). -/
def State.streamsFrozen (s : State) (asid : Nat) (ea : Word) : Bool :=
  ea != 0#64 && (List.range 64).any fun i => s.frozenAt asid (ea + BitVec.ofNat 64 (8 * i))

/-- Whether the home agent takes a record of dispatch queue q now (13_queue R349). -/
def State.takeDue (s : State) (q : Nat) : Bool :=
  match s.queueSlot q with
  | some (_, x) => bit (s.queueWord q 4) 21 && s.queueUsable q && s.hostReady q && s.freeEntry.isSome &&
      (x.records.head?.any fun r => !s.streamsFrozen (field (s.queueWord q 4) 15 0) (BitVec.ofNat 64 (leWord r 40 8))) &&
      (match x.lastTake with
        | some c => decide (c + 16 ≤ s.now)
        | none => true)
  | none => false

/-- The first on-chip record of queue q becomes a kernel, or is refused; HEAD advances in either case (13_queue R349). -/
def State.takeRecord (s : State) (q : Nat) : State :=
  match s.queueFirst q, s.freeEntry with
  | some r, some e =>
    let asid := field (s.queueWord q 4) 15 0
    let pos := s.queueHead q
    let words := (List.range 8).map fun i => BitVec.ofNat 64 (leWord r (8 * i) 8)
    let tcb := words.getD 6 0#64
    let s1 := (s.queuePop q).onQueueSlot q fun x => { x with lastTake := some s.now }
    let s2 := match s.recordStreams asid (words.getD 5 0#64) with
      | none => s1.refuseRecord q asid tcb refusedPacket
      | some ts =>
        let p : Packet := { words := words, streams := ts }
        if !p.ok false then s1.refuseRecord q asid tcb refusedPacket
        else if !s1.tcbUsable asid tcb then s1.refuseRecord q asid tcb refusedTcb
        else
          s1.createKernel e { serial := 0, asid := asid, part := field (s.queueWord q 4) 36 31, holdDebug := bit (p.word 2) 3
                              fromQueue := some (q, pos) } p
    s2.noteEnded q
  | _, _ => s

/-- TASK_RECORD_TAKE: the home agent takes a record of queue q, when it is due (13_queue R349). -/
def execTaskRecordTake (q : Nat) (s : State) : Host.Outcome State Fault Refusal :=
  .next (if s.takeDue q then s.takeRecord q else s)

/-! ### Mailboxes -/

/-- The location of byte o of the mailbox area that a thread's MBOXRX binding names (13_queue R336). -/
def State.mailbox (s : State) (t : ThreadRef) (b : BitVec 28) : Nat :=
  Loc.scratch t.cluster (shadowOffset (s.cluster t.cluster) (bindTarget b % 4096 * 256))

/-- A thread's MBOXRX binding, if it has one. -/
def Thread.mailBinding (t : Thread) : Option (BitVec 28) := t.queues.toList.find? fun b => bindKind b == 2

/-- Write a doubleword of a mailbox area. -/
def State.mailWrite (s : State) (l x : Nat) : State := (writeDirect s l 8 (x % 2 ^ 64)).wakeWatches l 8 1

/-- push of a value to the mailbox of the thread that a binding names, none when it fails (13_queue R336). -/
def State.mailPush (s : State) (b : BitVec 28) (v : Word) : Option State :=
  let n := bindTarget b
  (s.physicalOf (n / 32)).bind fun c =>
    let t : ThreadRef := ⟨c, n / 4 % 8, n % 4⟩
    if !s.clusterAnswers s.agent c || !s.scratchOpen s.agent c || (s.thread t).phase == .free then none
    else
      (s.thread t).mailBinding.bind fun rx =>
        let l := s.mailbox t rx
        let head := Memory.readNat (l + 128) 8 s.mem
        let tail := Memory.readNat (l + 136) 8 s.mem
        if 16 ≤ (tail + 2 ^ 64 - head) % 2 ^ 64 then none
        else some ((s.mailWrite (l + 8 * (tail % 16)) v.toNat).mailWrite (l + 136) (tail + 1))

/-- The scope of a mailbox push: the receiver's cluster is the sender's, or not (13_queue R336). -/
def State.mailScope (s : State) (b : BitVec 28) : Nat := if s.physicalOf (bindTarget b / 32) = some s.cur.cluster then 1 else 3

/-- The number of entries of a mailbox. -/
def State.mailCount (s : State) (l : Nat) : Nat :=
  (Memory.readNat (l + 136) 8 s.mem + 2 ^ 64 - Memory.readNat (l + 128) 8 s.mem) % 2 ^ 64

/-- pop of the running thread's mailbox, none when it fails (13_queue R336). -/
def State.mailPop (s : State) (b : BitVec 28) : Option (Word × State) :=
  let l := s.mailbox s.cur b
  let n := s.mailCount l
  if n = 0 ∨ 16 < n then none
  else
    let head := Memory.readNat (l + 128) 8 s.mem
    some (BitVec.ofNat 64 (Memory.readNat (l + 8 * (head % 16)) 8 s.mem), s.mailWrite (l + 128) (head + 1))

/-! ### QBIND and QUNBIND -/

/-- Whether a binding code is one that QBIND takes (13_queue R331, R355). -/
def State.bindOk (s : State) (q : Nat) (c : Word) : Bool :=
  let b := BitVec.ofNat 28 c.toNat
  let n := bindTarget b
  field c 63 28 == 0 && match bindKind b with
    | 0 | 1 => n == 0
    | 2 => decide (n < 4096) && !(List.range 16).any fun k => k != q && bindKind (s.ctx.binding k) == 2
    | 3 => decide (n < 2 ^ 18)
    | 4 => decide (n < 2 ^ 17) && s.queueBindable (n % 65536) &&
        (field (s.queueWord (n % 65536) 4) 15 0 == s.ctx.asid.toNat || s.ctx.sys) &&
        (if n / 65536 = 1 then !bit (s.queueWord (n % 65536) 4) 21 else !bit (s.queueWord (n % 65536) 4) 22)
    | _ => false

/-- Queue register q released (13_queue R355). -/
def State.unbind (s : State) (q : Nat) : State :=
  (if bindKind (s.ctx.binding q) = 1 then s.releaseCopies s.cur (some q) else s).onCtx fun t => t.bind q 0#28

/-- QBIND: binds a queue register to what a code names (13_queue R355). -/
def execQbind (q : BitVec 4) (a : BitVec 5) (p : BitVec 3) (s : State) : Host.Outcome State Fault Refusal :=
  let c := s.ctx.g a.toNat
  if s.bindOk q.toNat c then
    let b := BitVec.ofNat 28 c.toNat
    let s1 := (s.unbind q.toNat).onCtx fun t => t.bind q.toNat b
    let s2 := if bindKind b = 2 then (s1.mailWrite (s1.mailbox s.cur b + 128) 0).mailWrite (s1.mailbox s.cur b + 136) 0 else s1
    .next (s2.onCtx fun t => (t.setP p.toNat true).retire 1)
  else .next (s.onCtx fun t => (t.setP p.toNat false).retire 1)

/-- QUNBIND: releases a queue register (13_queue R355). -/
def execQunbind (q : BitVec 4) (s : State) : Host.Outcome State Fault Refusal := .next (s.unbind q.toNat).retire

/-! ### COPY bindings -/

/-- Whether a copy descriptor's words 4, 5 and 7 are valid (13_queue R334). -/
def descriptorOk (w4 w5 w7 : Word) : Bool :=
  decide (w4.toNat ≤ 2) && field w5 29 25 == 0 && field w5 24 23 ≤ 1 && field w5 22 0 == 0 && (w4 == 2#64 || w7 == 0#64)

/-- The command that a copy descriptor describes, issued through a queue register (13_queue R334, R335). -/
def descriptorCmd (s : State) (q : Nat) (w : List Word) : EngineCmd :=
  let x (i : Nat) : Word := w.getD i 0#64
  { id := 0, slot := 0, owner := s.cur, dst := x 0, src := x 1, shape := x 2, strides := x 3, bar := x 6, set := x 7
    kind := match (x 4).toNat with
      | 0 => .cpy
      | 1 => .cpyx
      | _ => .cpym
    fe := bit (x 5) 31, sh := bit (x 5) 30, tile := field (x 5) 24 23 == 1, via := some (q, field (x 5) 63 32) }

/-- A copy descriptor's checks and its acceptance; `full` gives the state when no engine slot is free (13_queue R334, R356). -/
def copyAccept (q : Nat) (ea : Word) (w : List Word) (full : State → State) (accepted : Thread → Thread) (s : State) :
    Host.Outcome State Fault Refusal :=
  if !descriptorOk (w.getD 4 0#64) (w.getD 5 0#64) (w.getD 7 0#64) then .next (s.trap causeIllegal ea)
  else
    let e := descriptorCmd s q w
    match e.check with
    | some .illegal => .next (s.trap causeIllegal ea)
    | some .misaligned => .next (s.trap causeMisaligned e.dst)
    | none =>
      match s.freeEngineSlot s.cur.cluster with
      | none => .next (full s)
      | some k => .next ((s.acceptEngine k e).onCtx fun t => (accepted { t with pushing := none }).retire 1)

/-- The push of a copy descriptor: its read, its checks, and acceptance; `full` gives from the descriptor the state when no engine slot is
free. A QPUSH that has waited for a slot does not read its descriptor again (13_queue R334, R356). -/
def copyPush (q : Nat) (ea : Word) (full : List Word → State → State) (accepted : Thread → Thread) (s : State) :
    Host.Outcome State Fault Refusal :=
  match s.ctx.pushing.filter fun p => p.1 == s.ctx.pc with
  | some (_, w) => copyAccept q ea w (full w) accepted s
  | none =>
  if ea.toNat % 64 ≠ 0 then .next (s.trap causeMisaligned ea)
  else
    match s.reach s.agent (.thread s.cur false) true false false ea with
    | (.deny, s1) => .next (s1.trap causeAccess ea)
    | (.walk, s1) => .next s1.block
    | (.place p, s1) =>
      if !s1.mayPerform s1.cur s1.ctx.nextSeq p 64 false then .next s1.block
      else if s1.readPoisoned p 64 then .next (s1.poisonStop p.loc)
      else
        let w := (List.range 8).map fun i => BitVec.ofNat 64 (readPlace s1 p (8 * i) 8)
        copyAccept q ea w (full w) accepted s1

/-- The commands of the running thread's queue register that have not been popped, oldest first (13_queue R335). -/
def State.copiesVia (s : State) (q : Nat) : List EngineCmd :=
  (s.cluster s.cur.cluster).engine.filter fun e => e.owner == s.cur && match e.via with
    | some (r, _) => r == q
    | none => false

/-- The oldest of a list of commands. -/
def oldest (l : List EngineCmd) : Option EngineCmd := leastBy (·.id) l

/-- The pop of a result: 0 when none is owed, the oldest command's result once it exists; else as `wait` says (13_queue R335,
R356). -/
def copyPop (q d : Nat) (wait : State → State) (done : Thread → Thread) (s : State) : Host.Outcome State Fault Refusal :=
  match oldest (s.copiesVia q) with
  | none => .next (s.onCtx fun t => (done (t.setG d 0#64)).retire 1)
  | some e =>
    match e.result with
    | some r =>
      .next ((s.onCluster s.cur.cluster fun c => { c with engine := c.engine.filter fun x => x.slot != e.slot }).onCtx fun t =>
        (done (t.setG d r)).retire 1)
    | none => .next (wait s)

/-! ### Pushes and pops -/

/-- A QPUSH waits for an engine command slot with its descriptor read and checked (13_queue R356). -/
def State.holdPush (s : State) (w : List Word) : State := s.onCtx fun t => { t.wait with pushing := some (t.pc, w) }

/-- QPUSH: a copy descriptor for a COPY binding; QUEUEFAULT on a mailbox (13_queue R333, R356). -/
def execQpush (q : BitVec 4) (a : BitVec 5) (s : State) : Host.Outcome State Fault Refusal :=
  match bindKind (s.ctx.binding q.toNat) with
  | 1 => copyPush q.toNat (s.ctx.g a.toNat) (fun w x => x.holdPush w) id s
  | 2 | 3 => .next (s.trap causeQueueFault (wordsValue (.qpush q a)))
  | _ => .next (s.trap causeIllegal (wordsValue (.qpush q a)))

/-- QPOP: the oldest result of a COPY binding; QUEUEFAULT on the thread's own mailbox (13_queue R333, R356). -/
def execQpop (d : BitVec 5) (q : BitVec 4) (s : State) : Host.Outcome State Fault Refusal :=
  match bindKind (s.ctx.binding q.toNat) with
  | 1 => copyPop q.toNat d.toNat State.block id s
  | 2 => .next (s.trap causeQueueFault (wordsValue (.qpop d q)))
  | _ => .next (s.trap causeIllegal (wordsValue (.qpop d q)))

/-- QPUSHT: a copy descriptor or a mailbox push that does not wait for room (13_queue R333, R356). -/
def execQpusht (q : BitVec 4) (a : BitVec 5) (p : BitVec 3) (s : State) : Host.Outcome State Fault Refusal :=
  match bindKind (s.ctx.binding q.toNat) with
  | 1 => copyPush q.toNat (s.ctx.g a.toNat) (fun _ x => x.putP p.toNat false) (fun t => t.setP p.toNat true) s
  | 3 =>
    if !s.released then .next s.block
    else
      let s0 := s.flush s.cur (s.mailScope (s.ctx.binding q.toNat))
      match s0.mailPush (s.ctx.binding q.toNat) (s.ctx.g a.toNat) with
      | some s1 => .next (s1.putP p.toNat true)
      | none => .next (s0.putP p.toNat false)
  | _ => .next (s.trap causeIllegal (wordsValue (.qpusht q a p)))

/-- QPOPT: a copy result or a mailbox pop that does not wait (13_queue R333, R356). -/
def execQpopt (d : BitVec 5) (q : BitVec 4) (p : BitVec 3) (s : State) : Host.Outcome State Fault Refusal :=
  match bindKind (s.ctx.binding q.toNat) with
  | 1 => copyPop q.toNat d.toNat (fun x => x.putP p.toNat false) (fun t => t.setP p.toNat true) s
  | 2 =>
    match s.mailPop (s.ctx.binding q.toNat) with
    | some (v, s1) => .next (s1.onCtx fun t => ((t.setG d.toNat v).setP p.toNat true).retire 1)
    | none => .next (s.putP p.toNat false)
  | _ => .next (s.trap causeIllegal (wordsValue (.qpopt d q p)))

/-- What QSTAT reads from a binding (13_queue R357). -/
def State.queueStatus (s : State) (q : Nat) : Word :=
  let b := s.ctx.binding q
  match bindKind b with
  | 1 =>
    let l := s.copiesVia q
    BitVec.ofNat 64 (2 ^ 60 + l.length * 2 ^ 8 + (l.filter fun e => e.state == .complete).length)
  | 2 =>
    let n := s.mailCount (s.mailbox s.cur b)
    BitVec.ofNat 64 (2 * 2 ^ 60 + if n < 2 ^ 28 then n else 0x0FFFFFFF)
  | 4 =>
    let r := bindTarget b % 65536
    let n := match s.queueSlot r with
      | some (_, x) => x.records.length
      | none => 0
    BitVec.ofNat 64 (4 * 2 ^ 60 + field (s.queueWord r 4) 24 23 * 2 ^ 38 + n * 2 ^ 32 +
      (s.queueTail r + 2 ^ 64 - s.queueHead r) % 2 ^ 32)
  | k => BitVec.ofNat 64 (k * 2 ^ 60)

/-- QSTAT: a snapshot of a binding's endpoint (13_queue R357). -/
def execQstat (d : BitVec 5) (q : BitVec 4) (s : State) : Host.Outcome State Fault Refusal :=
  .next (s.put d.toNat (s.queueStatus q.toNat))

/-- The queue that a TASK binding of the direction given names. -/
def taskQueue (b : BitVec 28) (pop : Bool) : Option Nat :=
  if bindKind b = 4 ∧ decide (bindTarget b / 65536 = 1) = pop then some (bindTarget b % 65536) else none

/-- TQPUSH: a record of 64 bytes pushed to a task queue, as a release (13_queue R358). -/
def execTqpush (q : BitVec 4) (a : BitVec 5) (p : BitVec 3) (s : State) : Host.Outcome State Fault Refusal :=
  match taskQueue (s.ctx.binding q.toNat) false with
  | none => .next (s.trap causeIllegal (wordsValue (.tqpush q a p)))
  | some r =>
    let ea := s.ctx.g a.toNat
    if ea.toNat % 64 ≠ 0 then .next (s.trap causeMisaligned ea)
    else if !s.released then .next s.block
    else
      match (s.flush s.cur 4).scalarAccess ea 64 false true false with
      | .stop s1 => .next s1
      | .ok m s1 =>
        if !s1.mayPerform s1.cur s1.ctx.nextSeq m 64 false then .next s1.block
        else if s1.readPoisoned m 64 then .next (s1.poisonStop m.loc)
        else if !s1.pushReady r then .next s1.block
        else
          match s1.queuePush r ((List.range 64).map (readPlaceByte s1 m)) with
          | some s2 => .next (s2.putP p.toNat true)
          | none => .next (s1.putP p.toNat false)

/-- TQPOP: a record of 64 bytes popped from a task queue, then written to memory as an ordinary write of the thread; the predicate follows
that write (13_queue R343, R358). -/
def execTqpop (q : BitVec 4) (a : BitVec 5) (p : BitVec 3) (s : State) : Host.Outcome State Fault Refusal :=
  match taskQueue (s.ctx.binding q.toNat) true with
  | none => .next (s.trap causeIllegal (wordsValue (.tqpop q a p)))
  | some r =>
    if 16 ≤ s.cntst s.cur then .next s.block
    else
    match s.scalarAccess (s.ctx.g a.toNat) 64 true false true with
    | .stop s1 => .next s1
    | .ok m s1 =>
      if !s1.hostReady r then .next s1.block
      else
      match s1.queueFirst r with
      | none => .next (s1.putP p.toNat false)
      | some rec =>
        .next ((s1.queuePop r).onCtx fun t =>
          (t.buffer { seq := 0, place := m, bytes := 64, value := leNat rec, pred := some p.toNat }).retire 1)

end Sys2Proof.Machine
end

