-- ==== Sys2Proof/Machine/Page.lean ====
section
/-! DEFINITION. The PAGE major (15_page R393-R396), migrations (R384-R388), memory banks (R389), uncorrectable and corrected
errors and the self-test (R391, R392), and the folding of committed draft lines (12_kernel R317). -/

namespace Sys2Proof.Machine

open Sys2Proof


/-! ### Outstanding translated accesses -/

/-- The location range of a page under a leaf (15_page R375). -/
def leafRange (leaf : Word) (large : Bool) : Nat × Nat :=
  let frame := field leaf 51 16
  (match field leaf 9 8 with
    | 0 | 1 => Loc.phys (frame * 65536)
    | 2 => Loc.host (frame * 65536)
    | _ => Loc.peer (frame / 2 ^ 26) (frame % 2 ^ 26 * 65536), if large then 2 ^ 29 else 65536)

/-- Whether a vector instruction holds a translation of a page in a range of locations. -/
def VCmd.accesses (v : VCmd) (lo n : Nat) : Bool :=
  v.pages.any fun e => decide ((leafRange e.leaf e.large).1 < lo + n) &&
    decide (lo < (leafRange e.leaf e.large).1 + (leafRange e.leaf e.large).2)

/-- Whether a thread that runs has an access outstanding in a range of locations, or a queued instruction that holds a
translation of a page of the ranges (15_page R394). -/
def Thread.accesses (t : Thread) (lo n : Nat) : Bool :=
  (t.loads.any fun l => l.touches && decide (l.place.loc < lo + n) && decide (lo < l.place.loc + l.bytes)) ||
  (t.stores.any fun w => decide (w.place.loc < lo + n) && decide (lo < w.place.loc + w.bytes)) ||
  t.checking.any fun v => v.accesses lo n

/-- Whether a tile command moves a record that lies in part in a range of locations. -/
def TCmd.accesses (v : TCmd) (lo n : Nat) : Bool := v.record? && v.pieces.any fun p => rangesMeet p.loc 256 lo n

/-- Whether a core's queues hold an instruction with a translation of a page in a range. -/
def Core.accesses (c : Core) (lo n : Nat) : Bool :=
  (c.loadQ.any fun v => v.accesses lo n) || (c.storeQ.any fun v => v.accesses lo n) || c.tileQ.any fun v => v.accesses lo n

/-- Whether any access of the module to a range of locations is outstanding under a translation already made. -/
def State.rangeBusy (s : State) (lo n : Nat) : Bool :=
  (s.threads.any fun p => p.2.accesses lo n) || (s.cores.any fun p => p.2.accesses lo n) ||
  s.clusters.any fun p => (p.2.fills.any fun x => rangesMeet (x.line * 64) 64 lo n) || match p.2.matrix with
    | some (_, v) => v.accesses lo n
    | none => false

/-- The TLB entries of the module that a choice names. -/
def State.tlbEntries (s : State) (f : TlbEntry → Bool) : List TlbEntry :=
  ((s.cores.flatMap fun p => p.2.microTlb) ++ (s.clusters.flatMap fun p => p.2.tlb) ++ s.dies.flatMap fun p => p.2.tlb).filter f

/-- Whether an address of an address space is mapped otherwise by now than to the line given (14_barrier R371). -/
def State.remapped (s : State) (asid : Nat) (va : Word) (line : Nat) : Bool :=
  match s.walk asid va.toNat with
  | .ok (_, leaf, large) => !(s.frameLoc leaf large asid va.toNat).any fun l => l / 64 * 64 == line
  | .error _ => true

/-- The threads with a watch, registered or on its way, of an address whose page an invalidation names and whose mapping has changed
(14_barrier R371; log entry 51). -/
def State.lostWatchers (s : State) (f : TlbEntry → Bool) : List ThreadRef :=
  (s.threads.filter fun p => p.2.yield.any fun y => y.watch.any fun line =>
    let named (large : Bool) : Bool := f { asid := p.2.asid.toNat, page := y.va.toNat / 65536, large := large, leaf := 0#64 }
    y.wake.isNone && field y.va 63 55 == 0 && (s.sealed || p.2.asid != 0) && (named false || named true) &&
      s.remapped p.2.asid.toNat y.va line).map (·.1)

/-- An invalidation of TLB entries: it waits for the accesses translated through them, then removes them (15_page R394); the
watches of a page whose mapping has changed are lost (14_barrier R371). -/
def State.invalidate (s : State) (f : TlbEntry → Bool) : Option State :=
  if (s.tlbEntries f).any fun e => s.rangeBusy (leafRange e.leaf e.large).1 (leafRange e.leaf e.large).2 then none
  else some ((s.lostWatchers f).foldl (fun a t => (a.withdraw t).wakeThread t 3) (s.dropTlbs f))

/-! ### The instructions -/

/-- A system-only instruction: PRIVILEGE without STATUS.SYS (03_encoding R81). -/
def privileged (word : Word) (s : State) (f : Host.Outcome State Fault Refusal) : Host.Outcome State Fault Refusal :=
  if s.ctx.sys then f else .next (s.trap causePrivilege word)

/-- An invalidation by the running thread, as a release (15_page R394). -/
def invalidateOp (f : TlbEntry → Bool) (s : State) : Host.Outcome State Fault Refusal :=
  if !s.released then .next s.block
  else
    match (s.flush s.cur 4).invalidate f with
    | some s1 => .next s1.retire
    | none => .next s.block

/-- TLBINV: the entries of one page of an address space (15_page R394). -/
def execTlbinv (a b : BitVec 5) (s : State) : Host.Outcome State Fault Refusal :=
  let va := s.ctx.g a.toNat
  let asid := field (s.ctx.g b.toNat) 15 0
  privileged (wordsValue (.tlbinv a b)) s
    (invalidateOp (fun e => field va 63 55 == 0 && e.covers asid va.toNat) s)

/-- TLBINVA: the entries of an address space, or all (15_page R394). -/
def execTlbinva (b : BitVec 5) (s : State) : Host.Outcome State Fault Refusal :=
  let x := s.ctx.g b.toNat
  privileged (wordsValue (.tlbinva b)) s (invalidateOp (fun e => bit x 16 || e.asid == field x 15 0) s)

/-- What PGPROBE answers: the leaf with [2] set for a large page, or a failure's kind (15_page R395). Before the seal the
address space 0 has no leaf, and the answer is a free value (log entry 44). -/
def State.probe (s : State) (asid : Nat) (va : Word) : Word :=
  let large (leaf : Word) (b : Bool) : Word := if b then setBit leaf 2 true else leaf
  if field va 63 55 ≠ 0 then BitVec.ofNat 64 (2 ^ 63 + 5 * 2 ^ 16)
  else if !s.sealed && asid == 0 then Config.probe va
  else
    match (s.die (dieOf s.cur)).tlb.find? fun e => e.covers asid va.toNat with
    | some e => large e.leaf e.large
    | none =>
      match s.walk asid va.toNat with
      | .ok (_, leaf, b) => large leaf b
      | .error k => BitVec.ofNat 64 (2 ^ 63 + k * 2 ^ 16)

/-- PGPROBE: a translation without filling, parking or trapping (15_page R395). -/
def execPgprobe (d a b : BitVec 5) (s : State) : Host.Outcome State Fault Refusal :=
  privileged (wordsValue (.pgprobe d a b)) s
    (.next (s.put d.toNat (s.probe (field (s.ctx.g b.toNat) 15 0) (s.ctx.g a.toNat))))

/-! ### Migrations -/

/-- The queue of migration engine f. -/
def State.migrationsOf (s : State) (f : Nat) : List Migration := Table.get [] f s.pkg.migrations

/-- The state with the queue of migration engine f changed. -/
def State.onMigrations (s : State) (f : Nat) (g : List Migration → List Migration) : State :=
  s.onPkg fun p => { p with migrations := Table.set f (g (s.migrationsOf f)) p.migrations }

/-- The migration engine of a source and a destination frame (15_page R384). -/
def migrationEngine (old new : Nat) : Nat :=
  if physFar old then (old - 0x20000000000) / 2 ^ 39 else (new - 0x20000000000) / 2 ^ 39

/-- Whether an uncommitted version holds a draft line on a page (15_page R385). -/
def State.draftsOn (s : State) (page : Nat) : Bool :=
  s.pkg.drafts.any fun d => d.commit.isNone && d.granule / 256 == page / 65536

/-- The leaf of a page that may migrate, with the leaf's address (15_page R385). -/
def State.migratable (s : State) (asid va : Nat) : Option (Nat × Word) :=
  match s.walk asid va with
  | .ok (at0, leaf, false) =>
    if field leaf 9 8 ≤ 1 ∧ !bit leaf 10 ∧ !bit leaf 11 ∧ !s.draftsOn (field leaf 51 16 * 65536) then some (at0, leaf) else none
  | _ => none

/-- Whether a frame may receive a page: 64 KiB aligned, in the near range below the draft region or in the far range (15_page
R396, 01_module R26). -/
def State.frameOk (s : State) (a : Nat) : Bool := a % 65536 == 0 && s.tableRange a

/-- The device's write of a leaf; watches on the entry wake (15_page R378, 14_barrier R371). -/
def State.writeLeaf (s : State) (at0 : Nat) (leaf : Word) : State := s.writeWordAt { loc := at0 } 0 leaf

/-- A migration accepted: the page is MIGRATING from here on, its watches are lost, and it joins its engine's queue (15_page R378, R384,
R386; 14_barrier R371). -/
def State.acceptMigration (s : State) (m : Migration) : State :=
  ((s.writeLeaf m.leafAt (setBit m.leaf 11 true)).wakeWatches m.old 65536 3).onMigrations (migrationEngine m.old m.new) fun l => l ++ [m]

/-- MIGRATE once its descriptor is read: a result code, or an accepted migration (15_page R396). -/
def State.migrateWith (s : State) (d : Nat) (p : Place) (w0 w1 w2 : Word) : State :=
  if field w0 63 55 ≠ 0 ∨ w0.toNat % 65536 ≠ 0 ∨ field w1 63 16 ≠ 0 ∨ !s.frameOk w2.toNat then s.put d 1#64
  else
    match s.migratable (field w1 15 0) w0.toNat with
    | none => s.put d 2#64
    | some (at0, leaf) =>
      let old := field leaf 51 16 * 65536
      if physNear old && physNear w2.toNat then s.put d 4#64
      else if 16 ≤ (s.migrationsOf (migrationEngine old w2.toNat)).length then s.put d 3#64
      else if !s.bankReady at0 || !s.bankReady p.loc then s.block
      else
        let m : Migration := { asid := field w1 15 0, va := w0.toNat, leafAt := at0, old := old, new := w2.toNat, leaf := leaf
                               status := some { p with loc := p.loc + 24 } }
        ((((s.dropCached p.loc).writeWordAt p 3 0#64)).acceptMigration m).put d 0#64

/-- MIGRATE: reads its descriptor, as a release, and hands the migration to an engine (15_page R396). -/
def execMigrate (d a : BitVec 5) (s : State) : Host.Outcome State Fault Refusal :=
  let ea := s.ctx.g a.toNat
  privileged (wordsValue (.migrate d a)) s <|
    if ea.toNat % 32 ≠ 0 then .next (s.trap causeMisaligned ea)
    else if !s.released then .next s.block
    else
      match (s.flush s.cur 4).reach s.agent (.thread s.cur false) true false false ea with
      | (.deny, s1) => .next (s1.trap causeAccess ea)
      | (.walk, s1) => .next s1.block
      | (.place p, s1) =>
        if !s1.mayPerform s1.cur s1.ctx.nextSeq p 32 false then .next s1.block
        else if s1.readPoisoned p 32 then .next (s1.poisonStop p.loc)
        else
          let w (i : Nat) : Word := BitVec.ofNat 64 (readPlace s1 p (8 * i) 8)
          .next (s1.migrateWith d.toNat p (w 0) (w 1) (w 2))

/-- The committed line of a granule with the least commit sequence number folded into memory, and its version's tag freed when
that was its last line (12_kernel R308, R317). -/
def State.foldLine (s : State) (g : Nat) : State :=
  match leastBy (fun d => d.commit.getD 0) (s.pkg.drafts.filter fun d => d.commit.isSome && d.granule == g) with
  | none => s
  | some d =>
    let full (k : Nat) : Bool := k / 4 == g && (List.range 64).all fun i => d.bytes.any fun b => b.1 == k % 4 * 64 + i
    let rest := s.pkg.drafts.filter fun x => x != d
    { s with
      mem := d.bytes.foldl (fun m b => Memory.write (g * 256 + b.1) b.2 m) s.mem
      poison := s.poison.filter fun k => !full k
      pkg := { s.pkg with
        drafts := rest
        freeTags := if rest.any fun x => x.tag == d.tag then s.pkg.freeTags else insertNat d.tag s.pkg.freeTags } }

/-- Every committed line of a granule folded. -/
def State.foldAll (s : State) (g : Nat) : Nat → State
  | 0 => s
  | n + 1 => if s.pkg.drafts.any fun d => d.commit.isSome && d.granule == g then (s.foldLine g).foldAll g n else s

/-- Every committed line of a page folded (15_page R386). -/
def State.foldPage (s : State) (page : Nat) : State :=
  ((s.pkg.drafts.filter fun d => d.commit.isSome && d.granule / 256 == page / 65536).map (·.granule)).foldl
    (fun a g => a.foldAll g 64) s

/-- The TLB entries of a migration's page. -/
def Migration.covered (m : Migration) (e : TlbEntry) : Bool := e.covers m.asid m.va

/-- Every cached copy of a page's lines removed, the dirty ones written back. -/
def State.dropPage (s : State) (page : Nat) : State :=
  let here (e : CacheLine) : Bool := e.line / 1024 == page / 65536
  let es := (s.cores.flatMap fun p => p.2.dcache.filter here) ++ s.dies.flatMap fun p => p.2.cache.filter here
  es.foldl State.writeHome (s.mapCaches fun c => c.filter fun e => !here e)

/-- Whether migration engine f reaches both frames of a migration: its die's link is UP or DEGRADED, and no link on the way holds its
traffic (16_link R398, R400). -/
def State.engineOpen (s : State) (f : Nat) (m : Migration) : Bool :=
  let site := homeSite (0x20000000000 + f * 2 ^ 39)
  s.linkState (.farDie f) != .failed && !s.linkHeld (.farDie f) && s.routeOpen site m.old && s.routeOpen site m.new

/-- Whether engine f starts its next migration: the accesses translated before it have been performed. -/
def State.migrationStarts (s : State) (f : Nat) : Bool :=
  match (s.migrationsOf f).head? with
  | some m => !m.entered && s.engineOpen f m && !s.rangeBusy m.old 65536
  | none => false

/-- Engine f's next migration starts: the invalidation and the folding of the page, whose lines leave the caches (15_page R386). -/
def State.migrationStart (s : State) (f : Nat) : State :=
  match s.migrationsOf f with
  | [] => s
  | m :: r => (((s.dropTlbs m.covered).foldPage m.old).dropPage m.old).onMigrations f fun _ => { m with entered := true } :: r

/-- MIGRATION_ENTRY: migration engine f starts its next migration, when it can (15_page R386). -/
def execMigrationEntry (f : Nat) (s : State) : Host.Outcome State Fault Refusal :=
  .next (if s.migrationStarts f then s.migrationStart f else s)

/-- Whether engine f's migration can copy its next step: no access to it is outstanding (15_page R387). -/
def State.migrationSteps (s : State) (f : Nat) : Bool :=
  match (s.migrationsOf f).head? with
  | some m => m.entered && s.engineOpen f m && decide (m.step < 256) && !s.rangeBusy (m.old + 256 * m.step) 256 &&
      (List.range 4).all fun i => s.siteReady (homeSite m.old) (m.old + 256 * m.step + 64 * i) &&
        s.siteReady (homeSite m.new) (m.new + 256 * m.step + 64 * i)
  | none => false

/-- The lines of n bytes from an address that a read finds uncorrectable, by their index (15_page R391). -/
def badLines (s : State) (src n : Nat) : List Nat := (List.range (n / 64)).filter fun i => poisoned s (src + 64 * i) 64

/-- A range of committed memory copied line by line, an uncorrectable line with its poison marker; behind a FAILED link every line is lost
(15_page R388, 16_link R400; log entry 83). -/
def copyRange (s : State) (src dst n : Nat) : State :=
  let lost := s.behind .failed dst
  let marks := (if lost then List.range (n / 64) else badLines s src n).map fun i => dst / 64 + i
  { s with
    mem := if lost then s.mem else Memory.writeList dst (Memory.readList src n s.mem) s.mem
    poison := marks.foldl (fun l k => insertNat k l)
      (s.poison.filter fun k => decide (k < dst / 64) || decide ((dst + n) / 64 ≤ k)) }

/-- The events of a copied range: one for each uncorrectable line read, and one for lines lost (15_page R391). -/
def copyErrors (s : State) (src dst n : Nat) : State :=
  let s1 := (badLines s src n).foldl (fun a i => a.errorAt (src + 64 * i)) s
  if s.behind .failed dst then s1.errorAt dst else s1

/-- One 256-byte step of engine f's migration (15_page R386). -/
def State.migrationCopy (s : State) (f : Nat) : State :=
  match s.migrationsOf f with
  | [] => s
  | m :: r =>
    let src := m.old + 256 * m.step
    let dst := m.new + 256 * m.step
    let s1 := (copyRange (copyErrors s src dst 256) src dst 256).onMigrations f fun _ => { m with step := m.step + 1 } :: r
    (s1.touchBank src).touchBank dst

/-- MIGRATION_STEP: engine f's migration copies its next 256 bytes, when it can (15_page R386). -/
def execMigrationStep (f : Nat) (s : State) : Host.Outcome State Fault Refusal :=
  .next (if s.migrationSteps f then s.migrationCopy f else s)

/-- Whether engine f's migration ends: every step is copied and no access under the old leaf is outstanding. -/
def State.migrationEnds (s : State) (f : Nat) : Bool :=
  match (s.migrationsOf f).head? with
  | some m => m.entered && s.engineOpen f m && decide (256 ≤ m.step) && !s.rangeBusy m.old 65536 && !s.rangeBusy m.new 65536 &&
      s.bankReady m.leafAt && m.status.all fun p => s.bankReady p.loc
  | none => false

/-- The leaf of a migrated page: FRAME and TIER of the destination, MIGRATING clear, the rest as at acceptance (15_page R378,
R386). -/
def Migration.newLeaf (m : Migration) : Word :=
  BitVec.ofNat 64 (splice (splice (splice m.leaf.toNat 16 36 (m.new / 65536)) 8 2 (if physNear m.new then 0 else 1)) 11 1 0)

/-- The end of engine f's migration: the leaf, the invalidation, the loss of the page's watches, DONE, and event 0x0007 (15_page R386,
14_barrier R371). -/
def State.migrationEnd (s : State) (f : Nat) : State :=
  match s.migrationsOf f with
  | [] => s
  | m :: r =>
    let s1 := (((s.writeLeaf m.leafAt m.newLeaf).dropTlbs m.covered).wakeWatches m.old 65536 3).wakeWatches m.new 65536 3
    let s2 := match m.status with
      | some p => (s1.dropCached p.loc).writeWordAt p 0 1#64
      | none => s1
    (s2.onMigrations f fun _ => r).postEvent (farAttached f) 7 (BitVec.ofNat 64 m.va) (BitVec.ofNat 64 m.asid)

/-- MIGRATION_COMPLETE: engine f's migration ends, when it is done (15_page R386). -/
def execMigrationComplete (f : Nat) (s : State) : Host.Outcome State Fault Refusal :=
  .next (if s.migrationEnds f then s.migrationEnd f else s)

/-! ### Errors and self-test -/

/-- A resource as the self-test takes it: a save area or a tile's record is a row of memory (15_page R392, 05_traps R145). -/
def testedAs (r : Resource) : Resource :=
  match r with
  | .saveArea _ _ a | .tileRecord _ _ _ a => .dram a
  | _ => r

/-- Whether two errors fall on one resource of the self-test: a memory row, a 4 KiB segment, a lane (15_page R392). -/
def sameResource (q r : Resource) : Bool :=
  q == r ||
  match testedAs q, testedAs r with
  | .dram a, .dram b => sameRow a b
  | .localStore c k o, .localStore d j p => c == d && k == j && o / 4096 == p / 4096
  | .scratchpad c o, .scratchpad d p => c == d && o / 4096 == p / 4096
  | .vectorFile c k o, .vectorFile d j p => c == d && k == j && o / 4096 == p / 4096
  | .accumulator c o, .accumulator d p => c == d && o / 4096 == p / 4096
  | .scalarCache c k o _, .scalarCache d j p _ => c == d && k == j && o / 4096 == p / 4096
  | .instructionCache c o, .instructionCache d p => c == d && o / 4096 == p / 4096
  | .dieCache c x o _, .dieCache d y p _ => c == d && x == y && o / 4096 == p / 4096
  | .linkLane l n _ _, .linkLane k m _ _ => l == k && n == m
  | _, _ => false

/-- The state of a resource under test: in service when not listed (15_page R392). -/
def State.testState (s : State) (r : Resource) : TestState :=
  ((s.pkg.tests.find? fun p => sameResource p.1 r).map (·.2)).getD .inService

/-- A resource's test state set. -/
def State.setTest (s : State) (r : Resource) (t : TestState) : State :=
  s.onPkg fun g => { g with tests := (g.tests.filter fun p => !sameResource p.1 r) ++ (if t == .inService then [] else [(r, t)]) }

/-- An error puts a resource that is in service under test; another error meanwhile is counted (15_page R392). -/
def State.startTest (s : State) (r : Resource) : State :=
  match s.testState r with
  | .inService => s.setTest r (.testing 0)
  | .testing n => s.setTest r (.testing (n + 1))
  | .retired => s

/-- A unit of a cluster in payload A of events 0x0008 and 0x0009 (16_link R416). -/
def unitName (kind cluster core offset : Nat) : Word :=
  BitVec.ofNat 64 (2 ^ 63 + kind * 2 ^ 56 + cluster / Config.sites * 2 ^ 51 + cluster % Config.sites / 16 * 2 ^ 46 +
    cluster % 16 * 2 ^ 42 + core * 2 ^ 39 + offset / 4096 * 4096 % 2 ^ 32)

/-- The code of a link in payload A of event 0x0010, which the spec does not give (log entry 15). -/
def linkName : Link → Nat
  | .crossing b c => (Config.linkCode 0 b c).toNat
  | .nearDie k => (Config.linkCode 1 k 0).toNat
  | .farDie k => (Config.linkCode 2 k 0).toNat
  | .ioDie k => (Config.linkCode 3 k 0).toNat
  | .host => (Config.linkCode 4 0 0).toNat
  | .port k => (Config.linkCode 5 k 0).toNat

/-- Whether a link exists (01_module R14, 16_link R397). -/
def linkReal : Link → Bool
  | .crossing b c => decide (b < 38) && decide (c < boundaryChannels b)
  | .nearDie k => decide (k < 8)
  | .farDie k => decide (k < 4)
  | .ioDie k => decide (k < 2)
  | .host => true
  | .port k => decide (k < 16)

/-- Every link of the module (01_module R14, 16_link R397). -/
def allLinks : List Link :=
  ((List.range 38).flatMap fun b => (List.range (boundaryChannels b)).map fun c => Link.crossing b c) ++
    (List.range 8).map Link.nearDie ++ (List.range 4).map Link.farDie ++ (List.range 2).map Link.ioDie ++ [.host] ++
    (List.range 16).map Link.port

/-- The lower numbered of the two dies that a boundary joins (01_module R14; log entry 81). -/
def boundaryDie (b : Nat) : Nat := if b < 18 then b / 3 * 4 + b % 3 else b - 18

/-- The compute die through which a link's events are posted: a die that it joins (16_link R416; log entry 15). -/
def linkDie : Link → Nat
  | .crossing b _ => boundaryDie b
  | .nearDie k => nearAttached k
  | .farDie k => farAttached k
  | .ioDie k => if k = 0 then 8 else 15
  | .host => 8
  | .port k => if k < 8 then 8 else 15

/-- The code of a link state in event 0x0010 (16_link R398, R416). -/
def LinkState.code : LinkState → Nat
  | .down => 0
  | .training => 1
  | .up => 2
  | .degraded => 3
  | .failed => 4

/-- A link's entry. -/
def State.linkInfo (s : State) (l : Link) : LinkInfo := ((s.pkg.links.find? fun p => p.1 == l).map (·.2)).getD {}

/-- A link's entry set; a link that is UP with no failed attempt is not listed. -/
def State.setLink (s : State) (l : Link) (x : LinkInfo) : State :=
  s.onPkg fun g => { g with links := (g.links.filter fun p => p.1 != l) ++ if x = {} then [] else [(l, x)] }

/-- A link enters a state that is reported by event 0x0010 (16_link R398). -/
def State.reportLink (s : State) (l : Link) (st : LinkState) : State :=
  (s.setLink l { s.linkInfo l with state := st }).postEvent (linkDie l) 0x10 (BitVec.ofNat 64 (linkName l)) (BitVec.ofNat 64 st.code)

/-- The groups of 64 bonds of a crossing channel, or the modules of an advanced-package link; other links go by their own standards
(16_link R397). -/
def linkParts : Link → Option Nat
  | .crossing b _ => some (352 / boundaryChannels b)
  | .nearDie _ => some 32
  | .farDie _ => some 4
  | .ioDie _ => some 8
  | .host | .port _ => none

/-- Whether the group of bond n of a crossing channel has one of its two spare bonds left; what redundancy another link has is its
standard's, and as given (16_link R397). -/
def State.spareLeft (s : State) (l : Link) (n : Nat) (spare : Bool) : Bool :=
  match l with
  | .crossing _ _ => decide (((s.linkInfo l).remapped.filter fun m => m / 64 == n / 64).length < 2)
  | _ => spare

/-- The fault of lane n remapped onto a spare, or its group or module gone (16_link R397, R398). -/
def State.noteLane (s : State) (l : Link) (n : Nat) (spare : Bool) : State :=
  let x := s.linkInfo l
  if s.spareLeft l n spare then s.setLink l { x with remapped := n :: x.remapped }
  else s.setLink l { x with gone := n / 64 :: x.gone.filter fun g => g != n / 64 }

/-- Whether a link has width left: a group or module that is not gone (16_link R397). -/
def State.widthLeft (s : State) (l : Link) (width : Bool) : Bool :=
  match linkParts l with
  | some g => decide ((s.linkInfo l).gone.length < g)
  | none => width

/-- The lasting fault of lane n: remapped onto a spare, or the link loses width or fails (16_link R397, R398). -/
def State.loseLane (s : State) (l : Link) (n : Nat) (spare width : Bool) : State :=
  let s1 := s.noteLane l n spare
  match s.linkState l with
  | .up => if s.spareLeft l n spare then s1 else s1.reportLink l .degraded
  | .degraded => if s.spareLeft l n spare || s1.widthLeft l width then s1 else s1.reportLink l .failed
  | _ => s

/-- A resource's posting die, its name and its KIND (16_link R416). -/
def resourceName (r : Resource) : Nat × Word × Nat :=
  match r with
  | .dram a | .saveArea _ _ a | .tileRecord _ _ _ a => (memoryDie a, BitVec.ofNat 64 a, if physNear a then 0 else 1)
  | .localStore c k o => (c / Config.sites, unitName 2 c k o, 2)
  | .scratchpad c o => (c / Config.sites, unitName 3 c 0 o, 3)
  | .vectorFile c k o => (c / Config.sites, unitName 4 c k o, 4)
  | .accumulator c o => (c / Config.sites, unitName 5 c 0 o, 5)
  | .scalarCache c k o _ => (c / Config.sites, unitName 6 c k o, 6)
  | .instructionCache c o => (c / Config.sites, unitName 7 c 0 o, 7)
  | .dieCache d x o _ =>
    (d, unitName 8 (d * Config.sites + (if x < 16 then 7 else 14) * 16 + x % 16) 0 o, 8)
  | .linkLane l n _ _ => (linkDie l, BitVec.ofNat 64 (2 ^ 63 + 9 * 2 ^ 56 + linkName l * 2 ^ 32 + n), 9)

/-- Every kernel placed on a cluster aborts with UNCORRECTABLE (15_page R391). -/
def State.abortOn (s : State) (c : Nat) : State :=
  (s.kernels.filter fun p => p.2.state.placed && p.2.cores.any fun k => k / 8 == c).foldl
    (fun a p => a.abortKernel p.1 0x42 false) s

/-- The poison marker put on the line of a location (15_page R391). -/
def State.mark (s : State) (l : Nat) : State := { s with poison := insertNat (l / 64) s.poison }

/-- What an uncorrectable error does where it is met, the event apart (15_page R391). A save area or a spilled tile's record is lost with
its line until the unit is saved again (05_traps R149, 09_tile R230). -/
def State.corrupt (s : State) (r : Resource) : State :=
  match r with
  | .dram a => s.mark a
  | .saveArea p u a => (s.mark a).onPartition p fun x => { x with spoiled := u :: x.spoiled.filter fun v => v != u }
  | .tileRecord p t n a =>
    (s.mark a).onPartition p fun x => { x with spoiledTiles := (t, n) :: x.spoiledTiles.filter fun v => v != (t, n) }
  | .localStore c _ _ | .scratchpad c _ | .vectorFile c _ _ | .accumulator c _ => s.abortOn c
  | .scalarCache _ _ _ (some l) | .dieCache _ _ _ (some l) => s.mark l
  | .instructionCache c _ => s.onCluster c fun x => { x with icache := [] }
  | _ => s

/-- The uncommitted draft line that an address of the draft region holds, if one: which one is a free value (12_kernel R310; log entry
45). -/
def State.draftLineAt (s : State) (a : Nat) : Option DraftLine :=
  if s.draftBase ≤ a ∧ a < 0x14000000000 then
    (s.pkg.drafts.filter fun d => d.commit.isNone && poolOf (d.granule * 256) == poolOf a)[Config.draftLine a]?
  else none

/-- An uncorrectable draft line aborts its version: in phase 1 of the commit each kernel of the cohort, else the kernel and its cohort
(12_kernel R304, R318). -/
def State.draftError (s : State) (r : Resource) : State :=
  match r with
  | .dram a =>
    match (s.draftLineAt a).map fun d => s.versionKernels d.tag with
    | some ks =>
      (ks.head?.map fun p => s.abortCohort KState.draftAbortable p.1 0x42 false).getD s
    | none => s
  | _ => s

/-- UNCORRECTABLE_ERROR: ECC finds an error in a resource; every one posts an event, and that of a clean cache line does nothing else but
start the test (15_page R391, R392). -/
def execUncorrectableError (r : Resource) (s : State) : Host.Outcome State Fault Refusal :=
  let (die, name, kind) := resourceName r
  .next ((((s.corrupt r).draftError r).startTest r).postEvent die 8 name (BitVec.ofNat 64 kind))

/-- CORRECTED_ERROR: a corrected error puts its resource under test (15_page R392). -/
def execCorrectedError (r : Resource) (s : State) : Host.Outcome State Fault Refusal := .next (s.startTest r)

/-- The rows of an address's bank that have been retired (15_page R392). -/
def State.retiredRows (s : State) (a : Nat) : Nat :=
  (s.pkg.tests.filter fun p => p.2 == .retired && match testedAs p.1 with
    | .dram b => bankKey b == bankKey a
    | _ => false).length

/-- The lines of a die's cache beyond the ways that serve their sets, most recently used first (01_module R463, 15_page R392). -/
def Die.beyondWays (d : Die) : List CacheLine → List CacheLine → List CacheLine
  | _, [] => []
  | before, e :: r =>
    if d.ways e.line ≤ (before.filter fun x => x.line % 65536 == e.line % 65536).length then e :: d.beyondWays before r
    else d.beyondWays (e :: before) r

/-- A segment of a die cache slice mapped out: its sets serve with a way less, and a line that has none left is written back (15_page R392,
01_module R463; log entry 84). -/
def State.loseWay (s : State) (die slice offset : Nat) : State :=
  let s1 := s.onDie die fun d => { d with lostWays := d.lostWays ++ [(slice, offset / 4096)] }
  let out := (s1.die die).beyondWays [] (s1.die die).cache
  out.foldl State.writeHome (s1.onDie die fun d => { d with cache := d.cache.filter fun e => !out.contains e })

/-- The action on a lasting fault (15_page R392): a row is spared, or with no spare left poisoned; a cluster is taken off
placement and its kernels abort; a segment of a die cache is mapped out. -/
def State.retire_ (s : State) (r : Resource) : State :=
  match r with
  | .dram a | .saveArea _ _ a | .tileRecord _ _ _ a =>
    if 8 ≤ s.retiredRows a then s.onPkg fun g => { g with deadRows := insertNat a g.deadRows } else s
  | .localStore c _ _ | .scratchpad c _ | .vectorFile c _ _ | .accumulator c _ | .scalarCache c _ _ _ | .instructionCache c _ =>
    (s.onCluster c fun x => { x with outOfService := true }).abortOn c
  | .linkLane l n spare width => s.loseLane l n spare width
  | .dieCache d x o _ => s.loseWay d x o

/-- SELF_TEST_COMPLETE: a resource's test ends, TRANSIENT or LASTING (15_page R392). -/
def execSelfTestComplete (r : Resource) (pass : Bool) (s : State) : Host.Outcome State Fault Refusal :=
  if !(s.testState r).isTesting then .next s
  else
    let (die, name, _) := resourceName r
    let s1 := if pass then s.setTest r .inService else (s.retire_ r).setTest r .retired
    .next (s1.postEvent die 9 name (if pass then 0#64 else 1#64))

end Sys2Proof.Machine
end

