-- ==== Sys2Proof/Machine/VecMem.lean ====
section
/-! DEFINITION. The vector loads and stores (07_vector R186-R199) and the tile moves TST, TSTX and TLD (09_tile R243, R244):
issue, the checks by which an instruction passes or stops, and the access of one element. -/

namespace Sys2Proof.Machine

open Sys2Proof

/-! ### What an element touches -/

/-- One access of an element: an address with its bytes, the bits of them that belong to the element, and the place of these
bits in the flat string of the vector registers. -/
structure Touch where
  va    : Word
  bytes : Nat
  lo    : Nat
  bits  : Nat
  reg   : Nat
deriving DecidableEq, Repr

/-- The memory form of an operation; tile moves have none. -/
def VOp.form : VOp → Option VMemForm
  | .load f => some f
  | .store f => some f
  | _ => none

/-- Whether an instruction is an MX segment form (07_vector R189). -/
def VCmd.mxSegment (c : VCmd) : Bool := c.op.form == some .segment && isMx c.fmt

/-- The elements of one indivisible unit of an instruction: 32 for an MX segment (07_vector R189, R190). -/
def VCmd.unit (c : VCmd) : Nat := if c.mxSegment then 32 else 1

/-- How many element positions an instruction has (07_vector R188, 09_tile R243). -/
def VCmd.total (c : VCmd) : Nat := if c.op.isTileMove then 256 else c.vl

/-- Bits lo to lo + n - 1 of a string packed from an address, byte by byte (02_numbers R35). -/
def packedTouch (base : Word) (lo n reg : Nat) : List Touch :=
  let o := lo % 8
  if o + n ≤ 8 then [{ va := base + BitVec.ofNat 64 (lo / 8), bytes := 1, lo := o, bits := n, reg := reg }]
  else [{ va := base + BitVec.ofNat 64 (lo / 8), bytes := 1, lo := o, bits := 8 - o, reg := reg },
        { va := base + BitVec.ofNat 64 (lo / 8 + 1), bytes := 1, lo := 0, bits := o + n - 8, reg := reg + (8 - o) }]

/-- The address of cell (i, j) of a tile move (09_tile R243). -/
def VCmd.cellAddress (c : VCmd) (i j : Nat) : Word :=
  (match c.op with
    | .tst true => c.x1 + BitVec.ofNat 64 (elem (c.sources.getD 0 0) 32 i)
    | _ => c.x1 + BitVec.ofNat 64 i * c.x2) + BitVec.ofNat 64 (j * c.width / 8)

/-- The first byte of the MX segment that holds element i (07_vector R189). -/
def VCmd.segmentBase (c : VCmd) (i : Nat) : Word := c.x1 + BitVec.ofNat 64 (i / 32 * (4 * c.width + 1))

/-- The accesses of element i, were it active (07_vector R188, R189, R192; 09_tile R243). -/
def VCmd.touches (c : VCmd) (t : Thread) (i : Nat) : List Touch :=
  let w := c.width
  let whole (va : Word) (reg : Nat) : Touch := { va := va, bytes := w / 8, lo := 0, bits := w, reg := reg }
  match c.op.form with
  | some .strided => [whole (c.x1 + BitVec.ofNat 64 i * c.x2) (c.vd * t.vbits + w * i)]
  | some .indexed => [whole (c.x1 + BitVec.ofNat 64 (t.vElem c.va 32 i)) (c.vd * t.vbits + w * i)]
  | some .segment =>
    if isMx c.fmt then packedTouch (c.segmentBase i) (w * (i % 32)) w (c.vd * t.vbits + w * i)
    else (List.range c.nf).map fun f =>
      whole (c.x1 + BitVec.ofNat 64 ((i * c.nf + f) * w / 8)) ((c.vd + f) * t.vbits + w * i)
  | some .plane =>
    (List.range w).map fun j =>
      { va := c.x1 + BitVec.ofNat 64 j * c.x2 + BitVec.ofNat 64 (i / 8), bytes := 1, lo := i % 8, bits := 1
        reg := c.vd * t.vbits + w * i + (w - 1 - j) }
  | some _ =>
    if w < 8 then packedTouch c.x1 (w * i) w (c.vd * t.vbits + w * i)
    else [whole (c.x1 + BitVec.ofNat 64 (w * i / 8)) (c.vd * t.vbits + w * i)]
  | none => [whole (c.cellAddress (i / 16) (i % 16)) 0]

/-- Whether element i is selected by its masks, padding or not (07_vector R188, 09_tile R243). -/
def VCmd.selected (c : VCmd) (t : Thread) (i : Nat) : Bool :=
  if c.op.isTileMove then decide (i % 16 < c.vl) && t.maskBit c.mr (i / 16) && t.maskBit c.mc (i % 16) else t.maskBit c.msk i

/-- Whether element i is padding. -/
def VCmd.pads (c : VCmd) (i : Nat) : Bool := decide (c.vreq ≤ if c.op.isTileMove then i % 16 else i)

/-- Whether element i makes an access: active and not padding. -/
def VCmd.active (c : VCmd) (t : Thread) (i : Nat) : Bool := c.selected t i && !c.pads i

/-- The scale byte of the MX segment of element i (07_vector R189). -/
def VCmd.scaleTouch (c : VCmd) (t : Thread) (i : Nat) : Touch :=
  { va := c.segmentBase i + BitVec.ofNat 64 (4 * c.width), bytes := 1, lo := 0, bits := 8
    reg := (c.vd + 1) * t.vbits + 8 * (i / 32) }

/-- The accesses of the unit that begins at element i: of its active elements, and of an MX segment's scale byte when one of
them is active. -/
def VCmd.unitTouches (c : VCmd) (t : Thread) (i : Nat) : List Touch :=
  let l := ((List.range c.unit).filter fun j => c.active t (i + j)).flatMap fun j => c.touches t (i + j)
  if c.mxSegment && !l.isEmpty then l ++ [c.scaleTouch t i] else l

/-- The first elements of the units from VSTART up (07_vector R188, R196). -/
def VCmd.units (c : VCmd) : List Nat :=
  (List.range (ceilDiv (c.total - c.vstart) c.unit)).map fun k => c.vstart + c.unit * k

/-- The address by which a stop at a unit is reported: a segment's first byte, a packed element's first byte, else that of the access
that failed (07_vector R199). -/
def VCmd.stopAddress (c : VCmd) (i : Nat) (va : Word) : Word :=
  match c.op.form with
  | some .segment => if isMx c.fmt then c.segmentBase i else c.x1 + BitVec.ofNat 64 (i * c.nf * c.width / 8)
  | some .unit | some .faultFirst => c.x1 + BitVec.ofNat 64 (i * c.width / 8)
  | _ => va

/-! ### The checks -/

/-- Whether an instruction writes memory. -/
def VOp.writesMemory : VOp → Bool
  | .store _ => true
  | .tst _ => true
  | _ => false

/-- A thread as the agent of a queued instruction, with the address space and privilege captured. -/
def State.cmdAgent (s : State) (t : ThreadRef) (c : VCmd) : Agent :=
  { who := t, asid := c.asid, sys := c.sys, draft := s.versionOf c.kernel }

/-- An address with the offset of a window that has an offset range at 0. -/
def clearOffset (ea : Word) : Word :=
  if field ea 63 56 = 0xFE ∨ field ea 63 56 = 0xFB then BitVec.ofNat 64 (ea.toNat / 2 ^ 18 * 2 ^ 18) else ea

/-- Whether the decoding of an address's window fails, its offset range and permission apart (07_vector R196 item 1). -/
def State.windowFails (s : State) (a : Agent) (ea : Word) : Bool :=
  s.windowOf { a with sys := true } (clearOffset ea) == .deny

/-- The page of an address among those that have passed the checks of an instruction. -/
def VCmd.page (c : VCmd) (va : Word) : Option TlbEntry := c.pages.find? fun e => e.covers c.asid va.toNat

/-- How the checks of one unit end. -/
inductive UnitCheck where
  | ok (c : VCmd) (s : State)
  | walk (c : VCmd) (s : State)
  | fail (cause : Nat) (va : Word) (s : State)
deriving DecidableEq, Repr

/-- Window offset range, translation and permission of one access, by the page sorter, which looks up each page once
(07_vector R196, R197). -/
def State.checkTouch (s : State) (t : ThreadRef) (c : VCmd) (x : Touch) : UnitCheck :=
  let a := s.cmdAgent t c
  let w := c.op.writesMemory
  match (if field x.va 63 56 = 0 then c.page x.va else none) with
  | some e =>
    if leafAllows e.leaf a.sys w false && (s.placeOf a e.leaf e.large x.va.toNat).isSome then .ok c s else .fail causeAccess x.va s
  | none =>
    match s.reach a (.thread t false) false w false x.va with
    | (.deny, s1) => .fail causeAccess x.va s1
    | (.walk, s1) => .walk c s1
    | (.place _, s1) =>
      if field x.va 63 56 = 0 then
        match (s1.cluster t.cluster).tlb.find? fun e => e.covers c.asid x.va.toNat with
        | some e => .ok { c with pages := e :: c.pages } s1
        | none => .ok c s1
      else .ok c s1

/-- The checks of a list of accesses in turn. -/
def State.checkTouches (s : State) (t : ThreadRef) (c : VCmd) : List Touch → UnitCheck
  | [] => .ok c s
  | x :: r => match s.checkTouch t c x with
    | .ok c1 s1 => s1.checkTouches t c1 r
    | e => e

/-- The checks of one unit: window decode, alignment, then offset range, translation and permission, then breakpoints
(07_vector R196, 05_traps R134, 17_watch R431). -/
def State.checkUnit (s : State) (t : ThreadRef) (c : VCmd) (l : List Touch) : UnitCheck :=
  match l.find? fun x => s.windowFails (s.cmdAgent t c) x.va with
  | some x => .fail causeAccess x.va s
  | none =>
    match l.find? fun x => x.va.toNat % x.bytes != 0 with
    | some x => .fail causeMisaligned x.va s
    | none =>
      match s.checkTouches t c l with
      | .ok c1 s1 =>
        match l.findSome? fun x => (s.thread t).watchHit (!c.op.writesMemory) c.op.writesMemory x.va x.bytes with
        | some b => .fail causeWatch b s1
        | none => .ok c1 s1
      | e => e

/-- The span of byte addresses that an instruction's checked elements touch, with one more access (07_vector R183). -/
def VCmd.spanWith (c : VCmd) (x : Touch) : VCmd :=
  let lo := x.va.toNat
  let hi := x.va.toNat + x.bytes - 1
  { c with span := some (match c.span with
      | none => (lo, hi)
      | some (a, b) => (min a lo, max b hi)) }

/-- How the checks of an instruction end: passed; awaiting a walk; or failed at an element. -/
inductive ChecksEnd where
  | pass (c : VCmd) (s : State)
  | walk (c : VCmd) (s : State)
  | fail (i cause : Nat) (va : Word) (c : VCmd) (s : State)
deriving DecidableEq, Repr

/-- The checks of the units given, in ascending order; padding and masked-off elements make no lookup (07_vector R196). -/
def State.checkUnits (s : State) (t : ThreadRef) (c : VCmd) : List Nat → ChecksEnd
  | [] => .pass c s
  | i :: r =>
    let l := c.unitTouches (s.thread t) i
    match s.checkUnit t c l with
    | .ok c1 s1 => s1.checkUnits t (l.foldl VCmd.spanWith c1) r
    | .walk c1 s1 => .walk c1 s1
    | .fail cause va s1 => .fail i cause (if cause = causeWatch then va else c.stopAddress i va) c s1

/-! ### Stops -/

/-- The elements of an instruction below element i enter its queue and complete; the thread's VSTART is i (07_vector R199).
Answers their sequence number, if there are any. -/
def State.cutVector (s : State) (t : ThreadRef) (c : VCmd) (i : Nat) : Option Nat × State :=
  let set (a : State) : State := a.onThread t fun x => { x with checking := none, vstart := BitVec.ofNat 64 i }
  if i ≤ c.vstart then (none, set s)
  else (some (s.thread t).nextSeq, set (s.acceptVector t { c with limit := i, cut := true }))

/-- A thread moves to PARKED at an address (04_context R99, R100). -/
def State.park (s : State) (t : ThreadRef) (va : Word) (fetch : Bool) : State :=
  s.onRecorded t fun a => a.onThread t fun x => { x with phase := .parked, parkedAt := some (va, fetch), parkFail := false }

/-- The trap of an instruction whose earlier elements have completed; WATCH takes an owned thread to STOPPED (05_traps R133,
07_vector R199). -/
def State.trapOwed (s : State) (t : ThreadRef) (cause : Nat) (va : Word) : State :=
  if cause = causeWatch && (s.thread t).owned then
    s.onRecorded t fun a => a.onThread t fun x => x.stop .ready
  else s.trapLate t cause (s.thread t).pc va

/-- The instruction of thread t has passed its checks and enters its queue; it retires, and a single step ends (05_traps R136,
17_watch R433). -/
def State.passVector (s : State) (t : ThreadRef) (c : VCmd) : State :=
  let pc := (s.thread t).pc
  let s1 := (s.acceptVector t c).onThread t fun x => { x with checking := none }
  s1.onRecorded t fun a => (a.onThread t fun x => x.retire 1).endStep t pc

/-- Where a fault of VLDFF at element i cuts it, if it is not taken (07_vector R191). -/
def VCmd.firstFault (c : VCmd) (t : Thread) (i : Nat) : Option Nat :=
  let n := roundDown i (blockSize c.blk)
  if c.op = .load .faultFirst then
    match c.units.find? fun j => c.active t j with
    | some f => if f < i ∧ f < n then some n else none
    | none => none
  else none

/-- The sequence number of the elements below VSTART of the thread's vector instruction at its PC that have not completed. -/
def State.cutSeq (s : State) (t : ThreadRef) : Option Nat :=
  ((s.core (coreKey t)).commands.find? fun v => v.slot == t.slot && v.cut && v.pc == (s.thread t).pc).map (·.seq)

/-- The checks fail at element i: VLDFF ends short; a translation fault parks the thread; any other cause traps once the
elements below i are complete, those that an earlier stop of the instruction left in the queue among them (07_vector R191, R199). -/
def State.stopVector (s : State) (t : ThreadRef) (c : VCmd) (i : Nat) (cause : Option Nat) (va : Word) : State :=
  match c.firstFault (s.thread t) i with
  | some n =>
    (s.onThread t fun x => { x with vl := BitVec.ofNat 64 n, vreq := BitVec.ofNat 64 (min x.vreq.toNat n) }).passVector t
      { c with vl := n, vreq := min c.vreq n, limit := n }
  | none =>
    let r := s.cutVector t c i
    match cause, r.1.or (s.cutSeq t) with
    | none, _ => r.2.park t va false
    | some k, none => r.2.trapOwed t k va
    | some k, some q => r.2.onThread t fun x => { x with owedTrap := some (q, k, va) }

/-- Whether a walk of the thread's die has the thread's access among its waiters. -/
def State.walking (s : State) (t : ThreadRef) (fetch : Bool) : Bool :=
  (s.die (dieOf t)).walks.any fun w => w.waiters.any fun x => x.who == .thread t fetch

/-- Whether a queue of a core has a free entry for an operation. -/
def State.queueRoom (s : State) (k : Nat) (op : VOp) : Bool := decide (queueEntries ((s.core k).queue op.queue) < 16)

/-- Whether an instruction of thread t in its checks may enter its queue: the queue has a free entry, and no instruction of the core for
that queue that issued before is still in its checks (07_vector R182). -/
def State.mayEnter (s : State) (t : ThreadRef) (c : VCmd) : Bool :=
  s.queueRoom (coreKey t) c.op && (List.range 4).all fun i =>
    let x := s.thread { t with slot := i }
    i == t.slot || !(x.phase == .waiting || x.phase == .ready) || !x.checking.any fun e =>
      e.op.queue == c.op.queue && decide (e.issuedAt < c.issuedAt)

/-- Whether the elements of a thread that an owed trap waits for have completed. -/
def State.cutDone (s : State) (t : ThreadRef) (q : Nat) : Bool :=
  !((s.core (coreKey t)).commands.any fun v => v.slot == t.slot && v.seq == q)

/-- Whether thread t has checks to go on with, or an owed trap to take. -/
def State.checksDue (s : State) (t : ThreadRef) : Bool :=
  let x := s.thread t
  (x.phase == .waiting || x.phase == .ready) &&
  match x.owedTrap, x.checking with
  | some (q, _, _), _ => s.cutDone t q
  | none, some c => !s.walking t false && s.mayEnter t c
  | none, none => false

/-- The checks of thread t's vector memory instruction as far as they go, or its owed trap (07_vector R196, R199). -/
def State.runChecks (s : State) (t : ThreadRef) : State :=
  match (s.thread t).owedTrap, (s.thread t).checking with
  | some (_, k, va), _ => (s.onThread t fun x => { x with owedTrap := none }).trapOwed t k va
  | none, some c =>
    match s.checkUnits t c c.units with
    | .pass c1 s1 => s1.passVector t c1
    | .walk c1 s1 => s1.onThread t fun x => { x with checking := some c1 }
    | .fail i cause va c1 s1 => s1.stopVector t c1 i (some cause) va
  | none, none => s

/-- VECTOR_CHECKS_END: the checks of a vector memory instruction of thread t, as far as its pages' translations have come
(07_vector R196). -/
def execVectorChecksEnd (t : ThreadRef) (s : State) : Host.Outcome State Fault Refusal :=
  .next (if s.checksDue t then s.runChecks t else s)

/-! ### Issue -/

/-- Whether a format has an element width of 8 bits or more and is neither MX nor BPk (07_vector R187). -/
def plainWide (f : Nat) : Bool := !isMx f && decide (f < 24) && decide (8 ≤ fmtWidth f)

/-- Whether a vector memory form accepts its format and registers (07_vector R187, R189; 09_tile R243, R244). By these tables F64 and the
widths below 8 move as bit strings, although 02_numbers R34 lists F64 for Scalar and VCVT only: the model takes the instructions' own
tables (DESIGN CHOICE, log entry 92). -/
def VCmd.memoryAccepted (c : VCmd) (t : Thread) : Bool :=
  let f := c.fmt
  let k := indexRegs c.vl c.vlmax
  match c.op with
  | .tld | .tst _ => [0, 1, 2, 4, 5, 6, 8, 9, 10, 12, 13].contains f && (c.op != .tst true || groupFits t c.va 1)
  | op =>
    match op.form with
    | some .strided => plainWide f && groupFits t c.vd 1
    | some .indexed =>
      plainWide f && groupFits t c.vd 1 && groupFits t c.va (max 1 k) &&
        (op.writesMemory || decide (c.vd < c.va) || decide (c.va + k ≤ c.vd))
    | some .segment =>
      (if isMx f then c.nf == 2 && c.vstart % 32 == 0 else plainWide f) && groupFits t c.vd c.nf
    | some .plane => decide (24 ≤ f) && groupFits t c.vd 1
    | some _ => decide (f < 24) && groupFits t c.vd 1
    | none => false

/-- The mask registers and the index registers that an instruction's checks read. -/
def VCmd.checkReads (c : VCmd) : List BitRange :=
  let m := 8 * c.vlmax
  maskAll c.msk ++ maskAll c.mr ++ maskAll c.mc ++
    match c.op with
    | .tst true => [regRange m c.va 1]
    | op => if op.form = some .indexed then [regRange m c.va (indexRegs c.vl c.vlmax)] else []

/-- Whether an earlier instruction of the running thread that writes a mask or index register of an instruction has not
completed (07_vector R196, 09_tile R233). -/
def State.checkBlocked (s : State) (c : VCmd) : Bool :=
  let k := coreKey s.cur
  ((s.core k).commands.any fun e => e.slot == s.cur.slot && rangesShare (e.writes e.vstart e.limit) c.checkReads) ||
  ((s.queuedTiles k s.cur.slot ++ s.runningTile k s.cur.slot).any fun e => rangesShare e.writes c.checkReads)

/-- Whether the limits of 04_context R120 let one more instruction of an operation issue. -/
def State.countRoom (s : State) (op : VOp) : Bool :=
  (!op.isLoad || decide (s.cntld s.cur < 8)) && (!op.isStore || decide (s.cntst s.cur < 16))

/-- The issue of a vector memory instruction or tile move: its formats and registers, then a place in its queue, then its
checks, for which the thread waits (07_vector R177, R182, R187, R196; 05_traps R136). -/
def memoryIssue (c : VCmd) (s : State) : Host.Outcome State Fault Refusal :=
  if !s.ctx.typed || !c.memoryAccepted s.ctx then .next s.illegalType
  else if c.op.isTileMove && !s.tileBound c.vd then .next (s.unboundTile c.vd)
  else if s.queueFull c.op || !s.countRoom c.op || s.checkBlocked c then .next s.block
  else .next (s.onCtx fun t => { t.wait with checking := some { c with limit := c.total } })

/-- A vector memory form with its captured base, stride and registers. -/
def State.captureMem (s : State) (op : VOp) (vd base va m nf : Nat) (st word : Word) : VCmd :=
  { s.capture op vd va 0 m word.toNat with x1 := s.ctx.g base, x2 := st, nf := nf }

/-- VLD: unit-stride load (07_vector R188). -/
def execVld (d : BitVec 6) (a : BitVec 5) (m : BitVec 3) (s : State) : Host.Outcome State Fault Refusal :=
  memoryIssue (s.captureMem (.load .unit) d.toNat a.toNat 0 m.toNat 0 0#64 (wordsValue (.vld d a m))) s

/-- VLDS: strided load (07_vector R188). -/
def execVlds (d : BitVec 6) (a x : BitVec 5) (m : BitVec 3) (s : State) : Host.Outcome State Fault Refusal :=
  memoryIssue (s.captureMem (.load .strided) d.toNat a.toNat 0 m.toNat 0 (s.ctx.g x.toNat) (wordsValue (.vlds d a x m))) s

/-- VLDX: indexed load (07_vector R188). -/
def execVldx (d : BitVec 6) (a : BitVec 5) (x : BitVec 6) (m : BitVec 3) (s : State) : Host.Outcome State Fault Refusal :=
  memoryIssue (s.captureMem (.load .indexed) d.toNat a.toNat x.toNat m.toNat 0 0#64 (wordsValue (.vldx d a x m))) s

/-- VLSEG: segment load (07_vector R189). -/
def execVlseg (d : BitVec 6) (a : BitVec 5) (m f : BitVec 3) (s : State) : Host.Outcome State Fault Refusal :=
  memoryIssue (s.captureMem (.load .segment) d.toNat a.toNat 0 m.toNat (f.toNat + 1) 0#64 (wordsValue (.vlseg d a m f))) s

/-- VLDFF: unit-stride load that stops without a trap behind its first element (07_vector R191). -/
def execVldff (d : BitVec 6) (a : BitVec 5) (m : BitVec 3) (s : State) : Host.Outcome State Fault Refusal :=
  memoryIssue (s.captureMem (.load .faultFirst) d.toNat a.toNat 0 m.toNat 0 0#64 (wordsValue (.vldff d a m))) s

/-- VLDP: plane load (07_vector R192). -/
def execVldp (d : BitVec 6) (a x : BitVec 5) (m : BitVec 3) (s : State) : Host.Outcome State Fault Refusal :=
  memoryIssue (s.captureMem (.load .plane) d.toNat a.toNat 0 m.toNat 0 (s.ctx.g x.toNat) (wordsValue (.vldp d a x m))) s

/-- VST: unit-stride store (07_vector R188). -/
def execVst (d : BitVec 6) (a : BitVec 5) (m : BitVec 3) (s : State) : Host.Outcome State Fault Refusal :=
  memoryIssue (s.captureMem (.store .unit) d.toNat a.toNat 0 m.toNat 0 0#64 (wordsValue (.vst d a m))) s

/-- VSTS: strided store (07_vector R188). -/
def execVsts (d : BitVec 6) (a x : BitVec 5) (m : BitVec 3) (s : State) : Host.Outcome State Fault Refusal :=
  memoryIssue (s.captureMem (.store .strided) d.toNat a.toNat 0 m.toNat 0 (s.ctx.g x.toNat) (wordsValue (.vsts d a x m))) s

/-- VSTX: indexed store (07_vector R188). -/
def execVstx (d : BitVec 6) (a : BitVec 5) (x : BitVec 6) (m : BitVec 3) (s : State) : Host.Outcome State Fault Refusal :=
  memoryIssue (s.captureMem (.store .indexed) d.toNat a.toNat x.toNat m.toNat 0 0#64 (wordsValue (.vstx d a x m))) s

/-- VSSEG: segment store (07_vector R189). -/
def execVsseg (d : BitVec 6) (a : BitVec 5) (m f : BitVec 3) (s : State) : Host.Outcome State Fault Refusal :=
  memoryIssue (s.captureMem (.store .segment) d.toNat a.toNat 0 m.toNat (f.toNat + 1) 0#64 (wordsValue (.vsseg d a m f))) s

/-- VSTP: plane store (07_vector R192). -/
def execVstp (d : BitVec 6) (a x : BitVec 5) (m : BitVec 3) (s : State) : Host.Outcome State Fault Refusal :=
  memoryIssue (s.captureMem (.store .plane) d.toNat a.toNat 0 m.toNat 0 (s.ctx.g x.toNat) (wordsValue (.vstp d a x m))) s

/-- A tile move with its captured base, stride, index register and masks. -/
def State.captureDrain (s : State) (op : VOp) (ta base va mr mc : Nat) (st : Word) (word : Nat) : VCmd :=
  { s.capture op ta va 0 0 word with x1 := s.ctx.g base, x2 := st, mr := mr, mc := mc, sources := [s.ctx.v va], scalar := some s.ctx.tctl }

/-- TST: a tile's rows to memory by a stride (09_tile R243). -/
def execTst (t : BitVec 4) (a x : BitVec 5) (r c : BitVec 3) (s : State) : Host.Outcome State Fault Refusal :=
  memoryIssue (s.captureDrain (.tst false) t.toNat a.toNat 0 r.toNat c.toNat (s.ctx.g x.toNat)
    (0xC4000004 + put t 22 + put a 16 + put x 10 + put r 7 + put c 4)) s

/-- TSTX: a tile's rows to memory by an index register (09_tile R243). -/
def execTstx (t : BitVec 4) (a : BitVec 5) (x : BitVec 6) (r c : BitVec 3) (s : State) : Host.Outcome State Fault Refusal :=
  memoryIssue (s.captureDrain (.tst true) t.toNat a.toNat x.toNat r.toNat c.toNat 0#64
    (0xC4000005 + put t 22 + put a 16 + put x 10 + put r 7 + put c 4)) s

/-- TLD: a tile's rows from memory by a stride (09_tile R243). -/
def execTld (t : BitVec 4) (a x : BitVec 5) (r c : BitVec 3) (s : State) : Host.Outcome State Fault Refusal :=
  memoryIssue (s.captureDrain .tld t.toNat a.toNat 0 r.toNat c.toNat (s.ctx.g x.toNat)
    (0xC4000006 + put t 22 + put a 16 + put x 10 + put r 7 + put c 4)) s

/-! ### Performing -/

/-- Whether a resource is part of the vector register file of core k: a test of a segment holds all the core's vector work (15_page R392; log
entry 91). -/
def ofVectorFile (k : Nat) : Resource → Bool
  | .vectorFile c j _ => c * 8 + j == k
  | _ => false

/-- Whether a resource is part of the accumulator store of a cluster (15_page R392; log entry 91). -/
def ofAccumulator (cl : Nat) : Resource → Bool
  | .accumulator c _ => c == cl
  | _ => false

/-- The location that a window address names, its permission having been checked (10_buffer R247). -/
def State.storageLoc (s : State) (who : ThreadRef) (ea : Word) : Option Nat :=
  let scratch (c : Nat) : Nat :=
    if !s.sealed && !s.enabled c then Loc.void + field ea 19 0 else Loc.scratch c (shadowOffset (s.cluster c) (field ea 19 0))
  match field ea 63 56 with
  | 0xFE => some (Loc.localStore (coreKey who) (field ea 17 0))
  | 0xFD => some (scratch who.cluster)
  | 0xFC => (s.namedCluster ea).map scratch
  | 0xFB => (s.namedCluster ea).map fun c =>
      if !s.sealed && !s.enabled c then Loc.void + field ea 17 0 else Loc.localStore (c * 8 + s.namedCore ea) (field ea 17 0)
  | _ => none

/-- The place that an address of a queued instruction reaches: through the leaf by which it passed the checks, or, before the
seal, identity-mapped. -/
def State.cmdPlace (s : State) (t : ThreadRef) (c : VCmd) (va : Word) : Option Place :=
  if field va 63 56 = 0 then
    match c.page va with
    | some e => s.placeOf (s.cmdAgent t c) e.leaf e.large va.toNat
    | none => if c.asid = 0 then some { loc := va.toNat, cached := true, direct := true } else none
  else (s.storageLoc t va).map fun l => { loc := l }

/-- Whether one access of a queued instruction can be performed now: its place is reached and accepts it, and nothing freezes it. -/
def State.touchReady (s : State) (t : ThreadRef) (c : VCmd) (x : Touch) : Bool :=
  match s.cmdPlace t c x.va with
  | some p => !(Loc.isPhys p.loc && s.frozen p.loc x.bytes) && s.siteReady t.cluster p.loc
  | none => false

/-- The bytes, by location, that the elements of an instruction still to be performed touch. -/
def State.openBytes (s : State) (t : ThreadRef) (c : VCmd) : List (Nat × Nat) :=
  (c.units.filter fun i => c.open_.any fun p => decide (p.1 < i + c.unit) && decide (i < p.2)).flatMap fun i =>
    (c.unitTouches (s.thread t) i).filterMap fun x => (s.cmdPlace t c x.va).map fun p => (p.loc, x.bytes)

/-- The bytes, by location, of the record of a TSAVE or TREST. -/
def State.recordBytes (s : State) (c : TCmd) : List (Nat × Nat) := if c.record? then c.pieces.map fun p => (s.locNow p, 256) else []

/-- Whether two lists of byte ranges share a byte. -/
def bytesShare (l m : List (Nat × Nat)) : Bool := l.any fun x => m.any fun y => rangesMeet x.1 x.2 y.1 y.2

/-- Whether two instructions' byte ranges overlap by their virtual addresses (07_vector R183). -/
def VCmd.spansMeet (c e : VCmd) : Bool :=
  match c.span, e.span with
  | some (a, b), some (x, y) => decide (a ≤ y) && decide (x ≤ b)
  | _, _ => false

/-- Whether two vector memory instructions of a thread overlap: by their byte ranges (07_vector R183), or in a byte that they name by
different addresses (11_ordering R278, R279). -/
def State.overlap (s : State) (t : ThreadRef) (c e : VCmd) : Bool := c.spansMeet e || bytesShare (s.openBytes t c) (s.openBytes t e)

/-- Whether a vector memory instruction of a thread and the record of one of its TSAVE or TREST overlap (11_ordering R278). -/
def State.onRecord (s : State) (t : ThreadRef) (v : VCmd) (c : TCmd) : Bool :=
  v.meetsRecord c || bytesShare (s.openBytes t v) (s.recordBytes c)

/-- Whether the unit at element i can be performed now. -/
def State.unitReady (s : State) (t : ThreadRef) (c : VCmd) (i : Nat) : Bool :=
  (c.unitTouches (s.thread t) i).all fun x => s.touchReady t c x

/-- The bits that one access reads. -/
def State.touchRead (s : State) (t : ThreadRef) (c : VCmd) (x : Touch) : Nat :=
  match s.cmdPlace t c x.va with
  | some p => readPlace s p 0 x.bytes / 2 ^ x.lo % 2 ^ x.bits
  | none => 0

/-- Where one access reads an uncorrectable value, if it does (15_page R391). -/
def State.touchPoisoned (s : State) (t : ThreadRef) (c : VCmd) (x : Touch) : Option Nat :=
  (s.cmdPlace t c x.va).bind fun p => if s.readPoisoned p x.bytes then some p.loc else none

/-- The state after one access has touched its bank and snooped the caches: a store drops the copies of its line, a load leaves them in
place, written back (07_vector R193). -/
def State.touchDone (s : State) (t : ThreadRef) (c : VCmd) (x : Touch) : State :=
  match s.cmdPlace t c x.va with
  | some p =>
    if !p.cached then s.touchBank p.loc
    else if c.op.writesMemory then (s.touchBank p.loc).dropCached p.loc else (s.touchBank p.loc).snoopRead p.loc
  | none => s

/-- The write of one access: its bits over the bytes as the agent sees them (07_vector R188, R192). -/
def State.touchWrite (s : State) (t : ThreadRef) (c : VCmd) (x : Touch) (v : Nat) : WriteEnd :=
  match s.cmdPlace t c x.va with
  | some p =>
    match s.writePlace c.kernel p x.bytes (splice (readPlace s p 0 x.bytes) x.lo x.bits v) with
    | .done s1 =>
      .done ((s1.onThread t fun y => y.count 16 (s1.pkg.drafts.length - s.pkg.drafts.length)).touchDone t c x)
    | e => e
  | none => .waits s

/-- The writes of one unit, all or none: where one of them has to wait or is dropped, the others have not been made (07_vector R190,
12_kernel R313). -/
def State.writeAll (s : State) (t : ThreadRef) (c : VCmd) : List (Touch × Nat) → State → WriteEnd
  | [], a => .done a
  | (x, v) :: r, a =>
    match a.touchWrite t c x v with
    | .done b => s.writeAll t c r b
    | .dropped b =>
      match s.touchWrite t c x v with
      | .dropped d => .dropped d
      | _ => .dropped b
    | .waits _ =>
      match s.touchWrite t c x v with
      | .waits b => .waits b
      | .dropped b => .dropped b
      | .done _ => .waits s

/-- An element of a load or store padded: the fields of a load become 0 (07_vector R188). -/
def VCmd.pad (c : VCmd) (t : Thread) (i : Nat) : Thread :=
  (c.touches t i).foldl (fun a x => a.setBitsAt x.reg x.bits 0) t

/-- The unit of a load at element i performed (07_vector R188, R189, R192). -/
def State.loadUnit (s : State) (t : ThreadRef) (c : VCmd) (i : Nat) : State :=
  let x := s.thread t
  let l := c.unitTouches x i
  let padded := ((List.range c.unit).filter fun j => c.pads (i + j)).foldl (fun a j => c.pad a (i + j)) x
  let loaded := l.foldl (fun a y => a.setBitsAt y.reg y.bits (s.touchRead t c y)) padded
  l.foldl (fun a y => a.touchDone t c y) (s.setThread t loaded)

/-- The unit of a store at element i performed. -/
def State.storeUnit (s : State) (t : ThreadRef) (c : VCmd) (i : Nat) : WriteEnd :=
  let x := s.thread t
  s.writeAll t c ((c.unitTouches x i).map fun y => (y, x.bitsAt y.reg y.bits)) s

/-- The value that a tile cell has in memory, with its conditions (09_tile R243). -/
def VCmd.drained (c : VCmd) (cell : Nat) : Nat × Conds := convert (if c.fmt < 8 then 2 else 10) c.fmt c.rm c.sat cell

/-- The value that memory gives a tile cell, with its conditions (09_tile R243). -/
def VCmd.loaded (c : VCmd) (x : Nat) : Nat × Conds :=
  if c.fmt < 4 then ((sext x c.width).toNat % 2 ^ 32, 0#7) else if c.fmt < 8 then (x % 2 ^ 32, 0#7) else convert c.fmt 10 0 false x

/-- The thread with conditions accrued in TFLAGS. -/
def Thread.accrueT (t : Thread) (c : Conds) : Thread := { t with tflags := accrueTflags t.tflags c }

/-- Cell e of a TLD performed (09_tile R243). -/
def State.loadCell (s : State) (t : ThreadRef) (c : VCmd) (e : Nat) : State :=
  let set (a : State) (v : Nat) : State := a.setTileOf t c.vd ((a.tileOf t c.vd).setCell (e / 16) (e % 16) v)
  if !c.selected (s.thread t) e then s
  else if c.pads e then set s 0
  else
    match c.touches (s.thread t) e with
    | x :: _ =>
      let r := c.loaded (s.touchRead t c x)
      ((set s r.1).onThread t fun y => y.accrueT r.2).touchDone t c x
    | [] => s

/-- Cell e of a TST or TSTX performed (09_tile R243). -/
def State.drainCell (s : State) (t : ThreadRef) (c : VCmd) (e : Nat) : WriteEnd :=
  match c.unitTouches (s.thread t) e with
  | x :: _ =>
    let r := c.drained ((s.tileOf t c.vd).cell (e / 16) (e % 16))
    match s.touchWrite t c x r.1 with
    | .done s1 => .done (s1.onThread t fun y => y.accrueT r.2)
    | z => z
  | [] => .done s

end Sys2Proof.Machine
end

