-- ==== Sys2Proof/Machine/VecUnit.lean ====
section
/-! DEFINITION. The vector unit of a cluster: the binding of lane groups to queue heads (07_vector R182-R185), chunk results
(08_vector_ops R207, 07_vector R185), whole-operand completion (08_vector_ops R205, R208), watermark stalls (12_kernel R321),
and what the completion of an instruction leaves: its trace record (17_watch R426, R427) and its sample (R430). -/

namespace Sys2Proof.Machine

open Sys2Proof

/-- The thread slot of a queued instruction of core k. -/
def slotRef (k slot : Nat) : ThreadRef := ⟨k / 8, k % 8, slot⟩

/-! ### Chunks -/

/-- The elements of a chunk for an element width (07_vector R185). -/
def chunkSize (w : Nat) : Nat := if w ≤ 8 then 64 else if w ≤ 16 then 32 else if w ≤ 32 then 16 else 8

/-- The widest element that an instruction reads or writes (08_vector_ops R207). For an instruction that touches mask registers only,
MAND to MANDN, MPOPC, MFIRST and MSET, the rule names none, and the model takes the element width of VTYPE (DESIGN CHOICE, log entry
95). -/
def VCmd.widest (c : VCmd) : Nat :=
  match c.op with
  | .load _ => c.width
  | .store _ => c.width
  | _ => max c.width c.destWidth

/-- The first row of a tile move from row r on with a selected cell below the limit (09_tile R244). -/
def VCmd.activeRow (c : VCmd) (t : Thread) (r : Nat) : Option Nat :=
  (List.range (16 - r)).findSome? fun d =>
    if (List.range 16).any fun j => decide (c.next ≤ 16 * (r + d) + j) && decide (16 * (r + d) + j < c.limit) &&
        c.selected t (16 * (r + d) + j) then some (r + d) else none

/-- The next chunk of an instruction: its first element and its end; none when it has no chunk left (07_vector R185, 09_tile
R244, 08_vector_ops R208). -/
def VCmd.chunk (c : VCmd) (t : Thread) : Option (Nat × Nat) :=
  if c.limit ≤ c.next then (if (c.op == .ext || c.op == .ins) && !c.started then some (c.next, c.next) else none)
  else
    match c.op with
    | .ext | .ins => some (c.next, c.limit)
    | .tld | .tst _ => (c.activeRow t (c.next / 16)).map fun r => (max c.next (16 * r), min c.limit (16 * r + 16))
    | _ => some (c.next, min c.limit (c.next + chunkSize c.widest))

/-! ### Eligibility -/


/-- Whether an instruction may start: within VSLIP; after the overlapping stores or loads and tile records; a whole-operand instruction after
its sources; a tile move after the earlier instructions that name its tile (07_vector R183, 08_vector_ops R205, 09_tile
R233, 11_ordering R278). -/
def State.startable (s : State) (k : Nat) (c : VCmd) : Bool :=
  let t := slotRef k c.slot
  let early := s.earlierCmds k c.slot c.seq
  let tiles := (s.queuedTiles k c.slot ++ s.runningTile k c.slot).filter fun e => decide (e.seq < c.seq)
  !(early.any fun e => !e.started && decide (e.vseq + (s.thread t).vslip.toNat < c.vseq)) &&
  !(early.any fun e => (c.op.queue == 0 && e.op.queue == 2 || c.op.queue == 2 && e.op.queue == 0) && s.overlap t c e) &&
  !(tiles.any fun e => s.onRecord t c e) &&
  (!c.op.whole || (!(early.any fun e => rangesShare e.pendingWrites c.pendingReads) &&
    !(tiles.any fun e => rangesShare e.writes c.pendingReads))) &&
  (!c.op.isTileMove || (!(early.any fun e => e.op.isTileMove && e.vd == c.vd) && !(tiles.any fun e => e.ta == c.vd)))

/-- Whether what a chunk reads has been written by every earlier instruction of the thread: chaining (07_vector R183, 09_tile
R233). -/
def State.chained (s : State) (k : Nat) (c : VCmd) (a b : Nat) : Bool :=
  let r := c.reads a b
  !((s.earlierCmds k c.slot c.seq).any fun e => rangesShare e.pendingWrites r) &&
  !((s.queuedTiles k c.slot ++ s.runningTile k c.slot).any fun e => decide (e.seq < c.seq) && rangesShare e.writes r)

/-- Whether a chunk of a load has an element beyond a stream's watermark (12_kernel R321). -/
def State.chunkBeyond (s : State) (k : Nat) (c : VCmd) (a b : Nat) : Bool :=
  c.op.queue == 0 && c.kernel.isSome && (List.range (b - a)).any fun i =>
    (c.unitTouches (s.thread (slotRef k c.slot)) (a + i)).any fun x => s.beyondMark c.kernel x.va.toNat x.bytes

/-- Whether a bell has stopped the units that work for a thread slot (05_traps R143). -/
def State.stoppedAt (s : State) (t : ThreadRef) : Bool := (s.thread t).phase == .switched || (s.cluster t.cluster).switchedOut.isSome

/-- Whether a queue head may start or continue now, watermarks apart. -/
def State.mayDispatch (s : State) (k : Nat) (c : VCmd) : Bool :=
  let t := slotRef k c.slot
  !s.stoppedAt t && !c.stalled && !(c.op.queue != 1 && s.awaitsMark t c.seq) && !s.underTest (ofVectorFile k) &&
  (c.started || s.startable k c) &&
  match c.chunk (s.thread t) with
  | some (a, b) => c.op.whole || s.chained k c a b
  | none => true

/-- Whether a queue head is eligible: it may start or continue and has a chunk to dispatch (07_vector R184). -/
def State.eligible (s : State) (k : Nat) (c : VCmd) : Bool :=
  s.mayDispatch k c &&
  match c.chunk (s.thread (slotRef k c.slot)) with
  | some (a, b) => !s.chunkBeyond k c a b
  | none => false

/-- Whether the next chunk of a queue head lies beyond a watermark, so that it stalls (12_kernel R321). -/
def State.stalls (s : State) (k : Nat) (c : VCmd) : Bool :=
  s.mayDispatch k c &&
  match c.chunk (s.thread (slotRef k c.slot)) with
  | some (a, b) => s.chunkBeyond k c a b
  | none => false

/-- Whether a queue head has no chunk left and leaves without a lane group. -/
def State.empties (s : State) (k : Nat) (c : VCmd) : Bool :=
  s.mayDispatch k c && (c.chunk (s.thread (slotRef k c.slot))).isNone

/-- The heads of a cluster's 24 vector queues, with their cores and queues (07_vector R182). -/
def State.heads (s : State) (cl : Nat) : List (Nat × Nat × VCmd) :=
  (List.range 24).filterMap fun n =>
    let k := cl * 8 + n / 3
    (((s.core k).queue (n % 3)).find? fun c => !c.left).map fun c => (k, n % 3, c)

/-- A queued instruction as it stands by now. -/
def State.current (s : State) (k : Nat) (c : VCmd) : Option VCmd :=
  ((s.core k).queue c.op.queue).find? fun e => e.slot == c.slot && e.seq == c.seq && !e.left

/-! ### Completion -/

/-- Whether element i counts among those that an instruction performs: active and not padding; every element of a VMERGE is active (17_watch
R427, 08_vector_ops R212), and a whole-operand instruction goes by the mask that it read (R205). -/
def VCmd.counted (c : VCmd) (t : Thread) (i : Nat) : Bool :=
  if c.op == .merge then !c.pads i
  else if c.op.whole && c.started then bitAt c.srcMask i && !c.pads i
  else c.active t i

/-- The elements from a to b that count as performed. -/
def State.runCount (s : State) (k : Nat) (c : VCmd) (a b : Nat) : Nat :=
  ((List.range (b - a)).filter fun i => c.counted (s.thread (slotRef k c.slot)) (a + i)).length

/-- The elements that an instruction has performed. -/
def VCmd.performed (c : VCmd) : Nat := (c.lanes.map fun p => p.2).foldl (· + ·) 0

/-- The trace record of an instruction (17_watch R427). -/
def VCmd.traceRecord (c : VCmd) : TraceRecord :=
  { w0 := BitVec.ofNat 64 (2 ^ 63 + c.word / 2 ^ 26 % 64 * 2 ^ 50 + c.slot * 2 ^ 48 + c.width % 128 * 2 ^ 41 +
      (c.performed + c.before) % 2 ^ 24 * 2 ^ 17 + c.vl % 2 ^ 17)
    w1 := BitVec.ofNat 64 (c.lowest.getD 0), w2 := BitVec.ofNat 64 (c.highest.getD 0) }

/-- Whether a core's trace records an instruction (17_watch R425, R426). -/
def Core.traces (x : Core) (c : VCmd) : Bool := bit x.trcctl 0 && (!bit x.trcctl 1 || c.op.queue != 1) && !c.cut

/-- A core with one more trace record. -/
def Core.addTrace (x : Core) (r : TraceRecord) : Core := { x with trace := (r :: x.trace).take 256, trcpos := x.trcpos + 1 }

/-- A count as a sample record holds it (17_watch R430). -/
def saturate16 (n : Nat) : Nat := min n 0xFFFF

/-- The sample record of an instruction as one number of 64 bytes (17_watch R430). -/
def VCmd.sampleRecord (c : VCmd) (now fresh : Nat) : Nat :=
  let lane (g : Nat) : Nat :=
    let p := c.lanes.getD g (0, 0)
    saturate16 p.1 + saturate16 p.2 * 2 ^ 16 + (Config.laneWaits fresh g).toNat * 2 ^ 32
  c.pc.toNat + (saturate16 (c.startedAt - c.issuedAt) + saturate16 (now - c.issuedAt) * 2 ^ 16 +
    c.instret.toNat % 2 ^ 32 * 2 ^ 32) * 2 ^ 64 + (c.vl + c.word % 2 ^ 32 * 2 ^ 32) * 2 ^ 128 +
    lane 0 * 2 ^ 192 + lane 1 * 2 ^ 256 + lane 2 * 2 ^ 320 + lane 3 * 2 ^ 384

/-- The sample record written to its thread's local store, its granules FULL in the same event (17_watch R430). -/
def State.writeSample (s : State) (k : Nat) (c : VCmd) : State :=
  let l := Loc.localStore k (field (s.thread (slotRef k c.slot)).smpbase 17 0)
  (((writeDirect s.draw l 64 (c.sampleRecord s.now s.fresh)).wakeWatches l 64 1)).fillGranules l 64

/-- The completion of a vector instruction: it leaves its core, and its record and sample are written (17_watch R426,
R430). -/
def State.completeVector (s : State) (k : Nat) (c : VCmd) : State :=
  let t := slotRef k c.slot
  let s1 := s.dropCmd k c
  let s2 := s1.onCore k fun x => if x.traces c then x.addTrace c.traceRecord else x
  (if c.sampled then s2.writeSample k c else s2).settleThread t

/-- An instruction that has left its head with nothing in flight completes; a whole-operand one completes by itself. -/
def State.settleCmd (s : State) (k : Nat) (c : VCmd) : State :=
  match ((s.core k).queue c.op.queue).find? fun e => e.slot == c.slot && e.seq == c.seq with
  | some e => if e.left && e.flight.isEmpty && !e.op.whole then s.completeVector k e else s
  | none => s

/-! ### Binding -/

/-- The least pass value among threads. -/
def State.leastPass (s : State) (l : List ThreadRef) : Option Nat := (leastBy (fun t => (s.thread t).vpass) l).map fun t => (s.thread t).vpass

/-- The threads of a cluster that have an eligible queue head. -/
def State.eligibleThreads (s : State) (cl : Nat) : List ThreadRef :=
  (((s.heads cl).filter fun p => s.eligible p.1 p.2.2).map fun p => slotRef p.1 p.2.2.slot).eraseDups

/-- Newly eligible threads take at least the least pass value of those already eligible (07_vector R184 item 5). -/
def State.letIn (s : State) (cl : Nat) (now : List ThreadRef) : State :=
  let before := (s.cluster cl).laneThreads
  let s1 := match s.leastPass (now.filter before.contains) with
    | some p => (now.filter fun t => !before.contains t).foldl (fun (a : State) t => a.onThread t fun x => { x with vpass := max x.vpass p }) s
    | none => s
  s1.onCluster cl fun c => { c with laneThreads := now }

/-- The start of an instruction: a whole-operand one reads its sources; a tile move touches its tile and promotes the run in
progress (08_vector_ops R205, 09_tile R243). -/
def State.startCmd (s : State) (k : Nat) (c : VCmd) : State :=
  let t := slotRef k c.slot
  let s1 :=
    if c.op.isTileMove then
      let a := s.touchTile t c.vd
      let r := (a.tileOf t c.vd).promote (bit (c.scalar.getD 0#64) 5)
      (a.setTileOf t c.vd r.1).onThread t fun x => x.accrueT r.2
    else s
  s1.onCmd k c fun e => { e with
    started := true, startedAt := s.now
    before := ((List.range c.vstart).filter fun i => c.counted (s.thread t) i).length
    sources := if c.op.whole then (s.thread t).wholeSources c else e.sources }

/-- The start of an instruction, or, for a tile move that a bell stopped, its touch of its tile again (09_tile R228). -/
def State.resumeCmd (s : State) (k : Nat) (c : VCmd) : State :=
  if !c.started then (s.startCmd k c).afterTouch s (slotRef k c.slot) c.vd
  else if c.op.isTileMove then (s.touchTile (slotRef k c.slot) c.vd).afterTouch s (slotRef k c.slot) c.vd
  else s

/-- A list with its n-th member changed. -/
def changeNth {α : Type} (n : Nat) (f : α → α) (l : List α) : List α :=
  match l[n]? with
  | some a => setNth n (f a) l
  | none => l

/-- Lane group g dispatches the next chunk of a head (07_vector R184, R185). -/
def State.dispatchChunk (s : State) (k g : Nat) (c : VCmd) : State :=
  let t := slotRef k c.slot
  match c.chunk (s.thread t) with
  | none => s
  | some (a, b) =>
    let s1 := s.resumeCmd k c
    let n := (s1.current k c).elim 0 fun e => s1.runCount k e a b
    let f (e : VCmd) : VCmd :=
      let e1 := { e with
        next := b
        flight := if e.op.whole then [] else e.flight ++ [(a, b, g)]
        lanes := changeNth g (fun p => (p.1 + 1, if e.op.whole then p.2 + n else p.2)) e.lanes }
      { e1 with left := (e1.chunk (s.thread t)).isNone }
    (s1.onCmd k c f).onThread t fun x =>
      { x.count 12 1 with vpass := x.vpass + 360360 / max 1 x.vshare.toNat }

/-- The heads that lane groups may take now, best first: least pass, then core, then queue (07_vector R184 item 2). -/
def State.chooseHead (s : State) (l : List (Nat × Nat × VCmd)) : Option (Nat × VCmd) :=
  let now := l.filterMap fun p => (s.current p.1 p.2.2).bind fun c => if s.eligible p.1 c then some (p.1, c) else none
  leastBy (fun p => (s.thread (slotRef p.1 p.2.slot)).vpass) now

/-- The lane groups from g on take their heads in turn. -/
def State.bindGroups (s : State) (l : List (Nat × Nat × VCmd)) : List Nat → State
  | [] => s
  | g :: r =>
    match s.chooseHead l with
    | some (k, c) => (s.dispatchChunk k g c).bindGroups l r
    | none => s

/-- Whether the lane groups of a cluster have something to do. -/
def State.bindDue (s : State) (cl : Nat) : Bool :=
  (s.heads cl).any fun p => s.eligible p.1 p.2.2 || s.stalls p.1 p.2.2 || s.empties p.1 p.2.2

/-- A head that has no chunk left leaves its queue, and completes when nothing of it is in flight; a whole-operand one then
only awaits its completion. -/
def State.emptyHead (s : State) (k : Nat) (c : VCmd) : State :=
  ((s.resumeCmd k c).onCmd k c fun e => { e with left := true }).settleCmd k c

/-- One cycle of binding: empty heads leave, heads beyond a watermark stall, and the four lane groups take the eligible heads
in turn; an entry behind one that left is not bound in this cycle (07_vector R182, R184; 12_kernel R321). -/
def State.bindLanes (s : State) (cl : Nat) : State :=
  let hs := s.heads cl
  let s1 := (hs.filter fun p => s.empties p.1 p.2.2).foldl (fun a p => a.emptyHead p.1 p.2.2) s
  let s2 := (hs.filter fun p => s.stalls p.1 p.2.2).foldl (fun a p => a.onCmd p.1 p.2.2 fun e => { e with stalled := true }) s1
  let rest := hs.filter fun p => !s.empties p.1 p.2.2 && !s.stalls p.1 p.2.2
  let threads := ((rest.filter fun p => s2.eligible p.1 p.2.2).map fun p => slotRef p.1 p.2.2.slot).eraseDups
  (s2.letIn cl threads).bindGroups rest [0, 1, 2, 3]

/-- LANE_GROUP_BIND: one cycle of binding in a cluster (07_vector R184). -/
def execLaneGroupBind (cl : Nat) (s : State) : Host.Outcome State Fault Refusal :=
  .next (if s.bindDue cl then s.bindLanes cl else s)

/-- Whether the head stalled at number k of a core's instructions is no longer beyond its watermark (12_kernel R321). -/
def State.stallOver (s : State) (k : Nat) (c : VCmd) : Bool :=
  c.stalled &&
  match c.chunk (s.thread (slotRef k c.slot)) with
  | some (a, b) => !s.chunkBeyond k c a b
  | none => true

/-- WATERMARK_STALL_END: the stall of a core's instruction number k ends, when its watermark has passed it (12_kernel
R321). -/
def execWatermarkStallEnd (cl core k : Nat) (s : State) : Host.Outcome State Fault Refusal :=
  match (s.core (cl * 8 + core)).commands[k]? with
  | some c =>
    .next (if s.stallOver (cl * 8 + core) c then s.onCmd (cl * 8 + core) c fun e => { e with stalled := false } else s)
  | none => .next s

/-! ### Chunk results -/

/-- Whether what an instruction writes for elements a to b may be written: every earlier instruction has read and written
those bits (07_vector R183, 09_tile R233). -/
def State.writeFree (s : State) (k : Nat) (c : VCmd) (a b : Nat) : Bool :=
  let w := c.writes a b
  let mine := s.queuedTiles k c.slot
  !((s.earlierCmds k c.slot c.seq).any fun e => rangesShare e.pendingReads w || rangesShare e.pendingWrites w) &&
  !(mine.any fun e => decide (e.seq < c.seq) && rangesShare e.reads w) &&
  !((mine ++ s.runningTile k c.slot).any fun e => decide (e.seq < c.seq) && rangesShare e.writes w)

/-- Whether chunk number f in flight of an instruction can be performed now; only a load's chunks overtake one another, and none
an earlier access of its kind to the same bytes (11_ordering R278). -/
def State.chunkDue (s : State) (k : Nat) (c : VCmd) (f : Nat) : Bool :=
  match c.flight[f]? with
  | some (a, b, _) =>
    let load := match c.op with
      | .load _ => true
      | _ => false
    (f == 0 || load) && s.writeFree k c a b && !s.underTest (ofVectorFile k) &&
    !((s.earlierCmds k c.slot c.seq).any fun e => e.op.queue == c.op.queue && c.op.queue != 1 && s.overlap (slotRef k c.slot) c e) &&
    (if c.op.queue == 2 then s.unitReady (slotRef k c.slot) c a
     else c.op.queue == 1 || (List.range (b - a)).all fun i =>
      c.unit != 1 && i % c.unit != 0 || s.unitReady (slotRef k c.slot) c (a + i))
  | none => false

/-- The addresses performed, with one more access (17_watch R427). -/
def VCmd.note (c : VCmd) (x : Touch) : VCmd :=
  let lo := x.va.toNat
  let hi := x.va.toNat + x.bytes - 1
  { c with lowest := some (min (c.lowest.getD lo) lo), highest := some (max (c.highest.getD hi) hi) }


/-- A performed run of elements a to b of a chunk in flight is noted: the chunk shrinks or goes, the n elements and the addresses
are counted (17_watch R427, R428, R430). -/
def State.noteRun (s : State) (k : Nat) (c : VCmd) (n f a b : Nat) : State :=
  let t := slotRef k c.slot
  let touches := if c.op.queue = 1 then [] else (List.range (b - a)).flatMap fun i =>
    if (a + i) % c.unit = 0 then c.unitTouches (s.thread t) (a + i) else []
  let g (e : VCmd) : VCmd :=
    match e.flight[f]? with
    | some (_, e2, l) =>
      let e1 := touches.foldl VCmd.note { e with lanes := changeNth l (fun p => (p.1, p.2 + n)) e.lanes }
      if e2 ≤ b then { e1 with flight := eraseNth f e.flight } else { e1 with flight := setNth f (b, e2, l) e.flight }
    | none => e
  (s.onCmd k c g).onThread t fun x => x.count 11 n

/-- Elements a to b of a load or TLD performed, in ascending order; an uncorrectable value aborts the kernel (07_vector
R194). -/
def State.performLoad (s : State) (k : Nat) (c : VCmd) (f a b : Nat) : State :=
  let t := slotRef k c.slot
  let units := ((List.range (b - a)).filter fun i => i % c.unit == 0).map (a + ·)
  let bad (i : Nat) : List Nat := (c.unitTouches (s.thread t) i).filterMap fun x => s.touchPoisoned t c x
  let s0 := ((units.flatMap bad).map (· / 64)).eraseDups.foldl (fun x l => x.errorAt (64 * l)) s
  if c.kernel.isSome && units.any (fun i => !(bad i).isEmpty) then s0.uncorrectable t
  else
    let s1 := units.foldl (fun x i => if !(bad i).isEmpty then x else if c.op = .tld then x.loadCell t c i else x.loadUnit t c i) s0
    (s1.noteRun k c (s1.runCount k c a b) f a b).settleCmd k c

/-- The poisoned lines all of whose 64 bytes the stores of elements a to b write, outside drafts: one chunk is one write (15_page
R391). -/
def State.linesCovered (s : State) (t : ThreadRef) (c : VCmd) (a b : Nat) : List Nat :=
  if s.poison.isEmpty then []
  else
    let units := ((List.range (b - a)).filter fun i => i % c.unit == 0).map (a + ·)
    let spans := (units.flatMap fun i => c.unitTouches (s.thread t) i).filterMap fun x => (s.cmdPlace t c x.va).bind fun p =>
      if p.draft.isNone && x.bits == 8 * x.bytes then some (p.loc, x.bytes) else none
    s.poison.filter fun k => (List.range 64).all fun i => spans.any fun q =>
      decide (q.1 ≤ 64 * k + i) && decide (64 * k + i < q.1 + q.2)

/-- Elements a to b of a store or drain performed in ascending order, as far as its target takes them (07_vector R188,
R199); with the last one the lines given, which they cover, lose their poison markers (15_page R391). Of two segments of one VSSEG that
write the same byte the higher one's value stands last, where R190 allows either (DESIGN CHOICE, log entry 94). -/
def State.performStore (s : State) (k : Nat) (c : VCmd) (f : Nat) (b : Nat) (lines : List Nat) : Nat → Nat → State
  | 0, _ => s
  | n + 1, a =>
    let t := slotRef k c.slot
    if b ≤ a then ({ s with poison := s.poison.filter fun l => !lines.contains l }).settleCmd k c
    else if !s.unitReady t c a then s
    else
      match (if c.op.isTileMove then s.drainCell t c a else s.storeUnit t c a) with
      | .done s1 => (s1.noteRun k c (s1.runCount k c a (a + c.unit)) f a (a + c.unit)).performStore k c f b lines n (a + c.unit)
      | .waits s1 => s1
      | .dropped s1 => s1

/-- Elements a to b of an arithmetic instruction performed, counted by the mask as they find it (08_vector_ops R200, R207; 17_watch
R427). -/
def State.performArith (s : State) (k : Nat) (c : VCmd) (f a b : Nat) : State :=
  let t := slotRef k c.slot
  ((s.onThread t fun x => c.performRange x a b).noteRun k c (s.runCount k c a b) f a b).settleCmd k c

/-- Chunk number f in flight of an instruction is performed. -/
def State.performChunk (s : State) (k : Nat) (c : VCmd) (f : Nat) : State :=
  match c.flight[f]? with
  | some (a, b, _) =>
    match c.op.queue with
    | 0 => s.performLoad k c f a b
    | 1 => s.performArith k c f a b
    | _ => s.performStore k c f b (s.linesCovered (slotRef k c.slot) c a b) (b - a + 1) a
  | none => s

/-- VECTOR_CHUNK_RESULT: the result of a chunk in flight, when it may be written: k mod 64 numbers the instruction on its core,
k div 64 the chunk (07_vector R183, R185; 08_vector_ops R207). -/
def execVectorChunkResult (cl core k : Nat) (s : State) : Host.Outcome State Fault Refusal :=
  match (s.core (cl * 8 + core)).commands[k % 64]? with
  | some c => .next (if s.chunkDue (cl * 8 + core) c (k / 64) then s.performChunk (cl * 8 + core) c (k / 64) else s)
  | none => .next s

/-- Whether a whole-operand instruction can complete: its chunks are dispatched, and its destinations may be written. -/
def State.wholeDue (s : State) (k : Nat) (c : VCmd) : Bool :=
  c.op.whole && c.started && c.left && !s.stoppedAt (slotRef k c.slot) && !s.underTest (ofVectorFile k) && s.writeFree k c 0 c.limit

/-- The completion of a whole-operand instruction (08_vector_ops R205, R208). -/
def State.completeWhole (s : State) (k : Nat) (c : VCmd) : State :=
  ((s.onThread (slotRef k c.slot) fun x => (c.complete x).count 11 c.performed)).completeVector k c

/-- WHOLE_OPERAND_COMPLETE: a core's instruction number k completes, when it is due (08_vector_ops R208). -/
def execWholeOperandComplete (cl core k : Nat) (s : State) : Host.Outcome State Fault Refusal :=
  match (s.core (cl * 8 + core)).commands[k]? with
  | some c => .next (if s.wholeDue (cl * 8 + core) c then s.completeWhole (cl * 8 + core) c else s)
  | none => .next s

end Sys2Proof.Machine
end

