-- ==== Sys2Proof/Machine/TileUnit.lean ====
section
/-! DEFINITION. The matrix unit of a cluster: the choice and start of a tile command (09_tile R233-R235) and its completion
(R236-R242, R246). -/

namespace Sys2Proof.Machine

open Sys2Proof

/-! ### Start -/

/-- The heads of a cluster's eight tile command queues (09_tile R232). -/
def State.tileHeads (s : State) (cl : Nat) : List (Nat × TCmd) :=
  (List.range 8).filterMap fun k => (s.core (cl * 8 + k)).tileQ.head?.map fun c => (cl * 8 + k, c)

/-- Whether a command reads the cells of its tile: it waits until the tile is readable (09_tile R235). -/
def TOp.readsTile : TOp → Bool
  | .trdv | .trdc | .tsave => true
  | _ => false

/-- Whether a tile of a core's thread is readable: no command on it holds the matrix unit (09_tile R234, R235). -/
def State.tileReadable (s : State) (k slot name : Nat) : Bool :=
  !(s.cluster (k / 8)).matrix.any fun m => m.1 == k % 8 && m.2.slot == slot && m.2.ta == name

/-- Whether a tile command may start: its sources are ready, its destination register is free, the tile that it reads is readable, and the
earlier tile moves that name its tile have completed (09_tile R233, R234), as have the earlier vector memory instructions on a byte of its
record (11_ordering R278). -/
def State.tileEligible (s : State) (k : Nat) (c : TCmd) : Bool :=
  let early := s.earlierCmds k c.slot c.seq
  !s.stoppedAt (slotRef k c.slot) && !s.underTest (fun r => ofVectorFile k r || ofAccumulator (k / 8) r) &&
  (!c.op.readsTile || s.tileReadable k c.slot c.ta) &&
  !(early.any fun e => rangesShare (e.writes e.vstart e.limit) c.reads) &&
  !(early.any fun e => rangesShare e.pendingReads c.writes || rangesShare e.pendingWrites c.writes) &&
  !(early.any fun e => e.op.isTileMove && e.vd == c.ta) && !(early.any fun e => s.onRecord (slotRef k c.slot) e c)

/-- The source registers of a command as they stand: operands in pairs, then the scales (09_tile R233). -/
def TCmd.readSources (c : TCmd) (t : Thread) : List Nat :=
  match c.op with
  | .mprom | .mzero | .tsave | .trest | .trdv | .trdc => []
  | .twrv | .twrc => [t.v c.va]
  | o => ((List.range o.count).flatMap fun k => [t.v (c.va + k), t.v (c.vb + k)]) ++
      if o = .mma16s then [t.v c.vsa, t.v c.vsb] else []

/-- The heads of a cluster's tile command queues that may start. -/
def State.eligibleTiles (s : State) (cl : Nat) : List (Nat × TCmd) := (s.tileHeads cl).filter fun p => s.tileEligible p.1 p.2

/-- Newly eligible threads take at least the least pass value of those already eligible (09_tile R234 item 4). -/
def State.admitTiles (s : State) (cl : Nat) (now : List ThreadRef) : State :=
  let before := (s.cluster cl).tileThreads
  let s1 := match (leastBy (fun t => (s.thread t).tpass) (now.filter before.contains)).map fun t => (s.thread t).tpass with
    | some p => (now.filter fun t => !before.contains t).foldl (fun (a : State) t => a.onThread t fun x => { x with tpass := max x.tpass p }) s
    | none => s
  s1.onCluster cl fun c => { c with tileThreads := now }

/-- A command leaves its queue and takes the matrix unit: its tile is touched, its sources read, its thread's pass value
raised (09_tile R233, R234); one that a bell stopped goes on with what it read (05_traps R140). It no longer holds one of the queue's 8
entries, so that with it nine commands of a core can stand at a bell, where 05_traps R145 saves at most 8 (DESIGN CHOICE, log entry 96). -/
def State.startTile (s : State) (k : Nat) (c : TCmd) : State :=
  let t := slotRef k c.slot
  let s1 := (s.onCore k fun x => { x with tileQ := x.tileQ.drop 1 }).touchTile t c.ta
  let x := s.thread t
  let c1 := if c.started then c else { c with
    started := true
    sources := c.readSources x
    masks := [x.maskBits c.mr, x.maskBits c.mc, x.maskBits c.mdep] }
  ((s1.onCluster (k / 8) fun y => { y with matrix := some (k % 8, c1) }).onThread t fun y =>
    { y with tpass := y.tpass + 360360 / max 1 y.tshare.toNat }).afterTouch s t c.ta

/-- Whether the matrix unit of a cluster is free and has a command to start. -/
def State.matrixDue (s : State) (cl : Nat) : Bool :=
  (s.cluster cl).matrix.isNone && (s.tileHeads cl).any fun p => s.tileEligible p.1 p.2

/-- The matrix unit starts the eligible head whose thread has the least pass value; ties go to the lower core (09_tile
R234). -/
def State.matrixStart (s : State) (cl : Nat) : State :=
  let hs := s.eligibleTiles cl
  let s1 := s.admitTiles cl (hs.map fun p => slotRef p.1 p.2.slot)
  match leastBy (fun p => (s1.thread (slotRef p.1 p.2.slot)).tpass) hs with
  | some (k, c) => s1.startTile k c
  | none => s1

/-- Every cluster whose queues hold work, or whose lane groups or matrix unit had eligible threads. -/
def State.busyClusters (s : State) : List Nat :=
  let queued (p : Nat × Core) : Bool := !p.2.commands.isEmpty || !p.2.tileQ.isEmpty
  let chosen (p : Nat × Cluster) : Bool := !p.2.laneThreads.isEmpty || !p.2.tileThreads.isEmpty
  (List.map (fun (p : Nat × Core) => p.1 / 8) (s.cores.filter queued) ++
    List.map (fun (p : Nat × Cluster) => p.1) (s.clusters.filter chosen)).eraseDups

/-- The threads whose heads have become eligible take their pass values; the others are no longer eligible (07_vector R184 item 5, 09_tile
R234 item 4). -/
def State.admitHeads (s : State) : State :=
  s.busyClusters.foldl (fun a cl => (a.letIn cl (a.eligibleThreads cl)).admitTiles cl
    ((a.eligibleTiles cl).map fun p => slotRef p.1 p.2.slot)) s

/-- MATRIX_UNIT_START: the matrix unit takes a command (09_tile R234). -/
def execMatrixUnitStart (cl : Nat) (s : State) : Host.Outcome State Fault Refusal :=
  .next (if s.matrixDue cl then s.matrixStart cl else s)

/-! ### Completion -/

/-- The cycles that a whole command holds the unit (09_tile R235). -/
def TCmd.cycles (c : TCmd) : Nat :=
  match c.op with
  | .mopa | .mops | .mopan => if c.fmt = 10 then 4 else 1
  | .mma16 | .mma16s =>
    if c.fmt = 10 then 64 else if c.fmt = 8 ∨ c.fmt = 9 then 16
    else if c.fmt = 24 then 2
    else if c.fmt = 14 ∨ c.fmt = 15 ∨ c.fmt = 16 ∨ c.fmt = 19 ∨ c.fmt = 20 ∨ c.fmt = 21 ∨ c.fmt = 25 ∨ c.fmt = 26 then 4
    else 8
  | .tsave | .trest => 32
  | _ => 1

/-- The cycles of an update that performs n of its slices (09_tile R235). -/
def TCmd.cyclesOf (c : TCmd) (n : Nat) : Nat := ceilDiv (c.cycles * n) (4 * c.op.count)

/-- The matrix unit is free again, and n cycles are counted for its thread (17_watch R428). -/
def State.releaseMatrix (s : State) (t : ThreadRef) (n : Nat) : State :=
  (s.onCluster t.cluster fun y => { y with matrix := none }).onThread t fun x => x.count 13 n

/-- The trap of a tile command that has issued: its retirement is taken back (05_traps R135). -/
def State.tileTrap (s : State) (t : ThreadRef) (c : TCmd) (row col : Nat) : State :=
  (s.onThread t Thread.unretire).trapLate t causeTileFault c.pc (tileFaultValue 0 c.ta row col)

/-- The end of a tile command without a trap: a single step over an update under FCTL.TIE ends (17_watch R433). -/
def State.tileDone (s : State) (t : ThreadRef) (c : TCmd) : State :=
  (if c.tie then s.onRecorded t fun a => a.endStep t c.pc else s).settleThread t

/-- The end of an update: the tile, the conditions, and the resume point with the trap of an invalid operation (09_tile
R239). -/
def State.updateDone (s : State) (t : ThreadRef) (c : TCmd) : State :=
  let u := c.run_ 64 (s.tileOf t c.ta)
  let s1 := (s.setTileOf t c.ta u.tile).onThread t fun x => x.accrueT u.conds
  match u.trap with
  | some (k, p, row, col) =>
    let s2 := (s1.releaseMatrix t (c.cyclesOf u.slices)).onThread t fun x =>
      { x with tstartrow := BitVec.ofNat 64 (2 ^ 15 + p * 2 ^ 4 + k) }
    s2.tileTrap t c row col
  | none => (s1.releaseMatrix t (c.cyclesOf (4 * c.op.count - (4 * c.update + c.slice)))).tileDone t c

/-- A thread's tile with its run promoted, the conditions accrued, and whether there was a run. -/
def State.promoteTile (s : State) (t : ThreadRef) (c : TCmd) : Nat × State :=
  let x := s.tileOf t c.ta
  let r := x.promote c.sat
  (if x.counter = 0 then 0 else 1, (s.setTileOf t c.ta r.1).onThread t fun y => y.accrueT r.2)

/-- MPROM performed (09_tile R241). -/
def State.mpromDone (s : State) (t : ThreadRef) (c : TCmd) : State :=
  match (if c.tie then (s.tileOf t c.ta).promotionFault else none) with
  | some (i, j) => (s.releaseMatrix t 1).tileTrap t c i j
  | none => let r := s.promoteTile t c; (r.2.releaseMatrix t (1 + r.1)).tileDone t c

/-- A register with the elements of a tile's row or column where the mask has them (09_tile R242). -/
def TCmd.readLine (c : TCmd) (x : Tile) (r : Nat) : Nat :=
  (List.range 16).foldl (fun a k =>
    if bitAt (c.masks.getD 0 0) k then
      putElem a 32 k (if c.op = .trdv then x.cell c.slice k else x.cell k c.slice)
    else a) r

/-- A tile with the elements of a register in a row or column where the mask has them (09_tile R242). -/
def TCmd.writeLine (c : TCmd) (x : Tile) : Tile :=
  (List.range 16).foldl (fun a k =>
    let e := elem (c.sources.getD 0 0) 32 k
    if bitAt (c.masks.getD 0 0) k then (if c.op = .twrv then a.setCell c.slice k e else a.setCell k c.slice e) else a) x

/-- TRDV, TRDC, TWRV or TWRC performed, after the promotion that it forces, which takes a cycle of a read (09_tile R235, R242). -/
def State.lineDone (s : State) (t : ThreadRef) (c : TCmd) : State :=
  let r := s.promoteTile t c
  let x := r.2.tileOf t c.ta
  let s1 := if c.op = .trdv ∨ c.op = .trdc then r.2.onThread t fun y => y.setV c.va (c.readLine x (y.v c.va))
    else r.2.setTileOf t c.ta (c.writeLine x)
  (s1.releaseMatrix t (1 + if c.op = .trdv ∨ c.op = .trdc then r.1 else 0)).tileDone t c

/-- Whether every piece of the record of a TSAVE or TREST can be performed now: its place accepts it, nothing freezes it, and no bell holds
it. -/
def State.recordReady (s : State) (cl : Nat) (c : TCmd) : Bool :=
  (s.recordBytes c).all fun p => !(Loc.isPhys p.1 && s.frozen p.1 256) && s.siteReady cl p.1 && !s.heldByBell cl p.1

/-- The pieces of a record from number g on written to their places in turn, as far as the target takes them: the first piece not written,
none when the kernel has been aborted. -/
def State.saveFrom (s : State) (t : ThreadRef) (record : Nat) : Nat → List Place → Option Nat × State
  | g, [] => (some g, s)
  | g, q :: r =>
    let p := s.placeNow q
    match s.writePlace (s.thread t).kernel p 256 (slice record (2048 * g) 2048) with
    | .done s1 =>
      let s2 := (List.range 4).foldl (fun a i => a.dropCached (p.loc + 64 * i)) (s1.touchBank p.loc)
      (s2.onThread t fun x => x.count 16 (s1.pkg.drafts.length - s.pkg.drafts.length)).saveFrom t record (g + 1) r
    | .waits s1 => (some g, s1)
    | .dropped s1 => (none, s1)

/-- TSAVE performed as far as its target takes it (09_tile R246). -/
def State.saveDone (s : State) (t : ThreadRef) (c : TCmd) : State :=
  let r := s.promoteTile t c
  match r.2.saveFrom t (r.2.tileOf t c.ta).record c.slice (c.pieces.drop c.slice) with
  | (none, s1) => s1
  | (some g, s1) =>
    if 8 ≤ g then (s1.releaseMatrix t (32 + r.1)).tileDone t c
    else s1.onCluster t.cluster fun y => { y with matrix := y.matrix.map fun m => (m.1, { m.2 with slice := g }) }

/-- The bytes of a record read piece by piece from their places, as one number. -/
def State.readPieces (s : State) : List Place → Nat
  | [] => 0
  | p :: r => readPlace s (s.placeNow p) 0 256 + 2 ^ 2048 * s.readPieces r

/-- TREST performed: the run in progress is promoted first, then the record sets the whole tile; an uncorrectable record aborts the kernel
(09_tile R246; 02_numbers R53; 15_page R391). -/
def State.restoreDone (s : State) (t : ThreadRef) (c : TCmd) : State :=
  match c.pieces.find? fun p => s.readPoisoned (s.placeNow p) 256 with
  | some p =>
    let s1 := s.errorAt (s.locNow p)
    if (s.thread t).kernel.isSome then s1.uncorrectable t else (s1.releaseMatrix t 32).tileDone t c
  | none =>
    let r := s.promoteTile t c
    let s1 := r.2.setTileOf t c.ta (Tile.ofRecord (s.readPieces c.pieces))
    let touch (a : State) (p : Nat × Nat) : State := (List.range 4).foldl (fun b i => b.snoopRead (p.1 + 64 * i)) (a.touchBank p.1)
    (((s.recordBytes c).foldl touch s1).releaseMatrix t 32).tileDone t c

/-- Whether the command in the matrix unit can complete: a record's places take accesses now. -/
def State.tileCompletes (s : State) (cl : Nat) : Bool :=
  match (s.cluster cl).matrix with
  | some (k, c) =>
    !s.stoppedAt (slotRef (cl * 8 + k) c.slot) && !s.underTest (fun r => ofVectorFile (cl * 8 + k) r || ofAccumulator cl r) &&
      s.recordReady cl c
  | none => false

/-- The command in the matrix unit is performed. -/
def State.performTile (s : State) (t : ThreadRef) (c : TCmd) : State :=
  match c.op with
  | .mprom => s.mpromDone t c
  | .mzero => ((s.setTileOf t c.ta {}).releaseMatrix t 1).tileDone t c
  | .trdv | .trdc | .twrv | .twrc => s.lineDone t c
  | .tsave => s.saveDone t c
  | .trest => s.restoreDone t c
  | _ => s.updateDone t c

/-- TILE_COMMAND_COMPLETE: the command in the matrix unit of a cluster completes, or stops at its trap (09_tile R235,
R239). -/
def execTileCommandComplete (cl : Nat) (s : State) : Host.Outcome State Fault Refusal :=
  match (s.cluster cl).matrix with
  | some (k, c) => .next (if s.tileCompletes cl then s.performTile (slotRef (cl * 8 + k) c.slot) c else s)
  | none => .next s

end Sys2Proof.Machine
end

