-- ==== Sys2Proof/Machine/Walk.lean ====
section
/-! DEFINITION. Walks and the fault unit of a die (15_page R380-R383), the fetch unit of a cluster (06_group R164-R166), and the banks of the
near tier (15_page R389). -/

namespace Sys2Proof.Machine

open Sys2Proof

/-! ### Walks -/

/-- The TLB entry of a leaf found for an address. -/
def leafEntry (asid va : Nat) (leaf : Word) (large : Bool) : TlbEntry :=
  { asid := asid, page := if large then va / 2 ^ 29 * 8192 else va / 65536, large := large, leaf := leaf }

/-- A PARKED thread, or one stopped while PARKED, is READY again (04_context R99, R100). -/
def Thread.unpark (x : Thread) : Thread :=
  match x.phase with
  | .parked => { x with phase := .ready, parkedAt := none }
  | .stopped => if x.stopPrior = .parked then { x with stopPrior := .ready, parkedAt := none } else x
  | _ => x

/-- A requester goes on and makes its access again: a parked thread is READY (04_context R99, 15_page R383). -/
def State.release_ (s : State) (r : Requester) : State :=
  match r with
  | .thread t _ => s.onThread t Thread.unpark
  | _ => s

/-- A requester whose walk has succeeded: the TLB that missed is filled, and a parked thread goes on (15_page R380, R383). -/
def State.walkServed (s : State) (e : TlbEntry) (x : Waiter) : State :=
  (match x.who with
    | .thread t _ => s.fillFirst t x.micro e
    | .engine cl _ => s.onCluster cl fun c => { c with tlb := tlbFill 256 e c.tlb }
    | .timetable _ => s).release_ x.who

/-- Whether a thread cannot issue without the fetch block at an address: its buffer lacks it, and it holds the first or, for a
long instruction, the second word (06_group R164, R168). -/
def Thread.needsBlock (x : Thread) (base : Nat) : Bool :=
  let pc := x.pc.toNat
  (base == pc / 16 * 16 && (bufferWord x.fetch pc).isNone) ||
  (base == (pc + 4) / 16 * 16 && (bufferWord x.fetch (pc + 4)).isNone &&
    match bufferWord x.fetch pc with
    | some (.word w) => isLong w.toNat
    | _ => false)

/-- Whether a thread is PARKED, or was when the debugger stopped it. -/
def Thread.isParked (x : Thread) : Bool := x.phase == .parked || (x.phase == .stopped && x.stopPrior == .parked)

/-- Whether a thread still waits for an access: READY or WAITING, or stopped in one of these. -/
def Thread.isAwaiting (x : Thread) : Bool :=
  let p := if x.phase = .stopped then x.stopPrior else x.phase
  p == .ready || p == .waiting

/-- The element at which an instruction's checks stand when the walk of a page has failed: the first with an access on that page
(07_vector R199). -/
def VCmd.faultUnit (c : VCmd) (t : Thread) (va : Word) : Option (Nat × Word) :=
  c.units.findSome? fun i =>
    ((c.unitTouches t i).find? fun x => field x.va 63 56 == 0 && (c.page x.va).isNone && x.va.toNat / 65536 == va.toNat / 65536).map
      fun x => (i, c.stopAddress i x.va)

/-- A requester whose walk has failed: whether it waits for service, and the state in which it does (15_page R381; 07_vector R191,
R199). A fetch ahead of need is dropped, and a vector instruction whose elements below the fault find no entry in their queue yet starts a
walk again (07_vector R182). -/
def State.walkRefused (s : State) (va : Word) (r : Requester) : Bool × State :=
  match r with
  | .thread t true =>
    let x := s.thread t
    if x.isParked then (true, s)
    else if x.isAwaiting && x.needsBlock (va.toNat / 16 * 16) then (true, s.park t va true)
    else (false, s)
  | .thread t false =>
    let x := s.thread t
    if x.isParked then (true, s)
    else if !x.isAwaiting then (false, s)
    else
      match x.checking with
      | none => (true, s.park t va false)
      | some c =>
        match c.faultUnit x va with
        | none => (false, s)
        | some (i, a) =>
          if c.vstart < i && !s.mayEnter t c then (false, s)
          else
            let s1 := s.stopVector t c i none a
            ((s1.thread t).isParked, s1)
  | .engine cl slot => (true, s.onEngine cl slot fun e => { e with faultAt := some va })
  | .timetable k => ((s.kernel k).any fun x => x.state == .ready, s)

/-- The requesters of a failed walk in turn: those that wait for service. -/
def State.walkFailed (s : State) : List Waiter → List Waiter × State
  | [] => ([], s)
  | x :: rest =>
    let a := s.walkRefused x.va x.who
    let b := a.2.walkFailed rest
    (if a.1 then x :: b.1 else b.1, b.2)

/-! ### The fault unit -/

/-- Word 1 of a fault record (15_page R382). -/
def State.faultWord1 (s : State) (asid kind : Nat) (write : Bool) (r : Requester) : Nat :=
  let low := asid + kind * 2 ^ 16 + (if write then 2 ^ 20 else 0)
  match r with
  | .thread t fetch => low + (if fetch then 2 ^ 21 else 0) + s.logicalOf t.cluster * 2 ^ 23 + t.core * 2 ^ 36 + t.slot * 2 ^ 39
  | .engine cl slot =>
    let t := ((s.engineCmd cl slot).map fun e => e.owner).getD ⟨cl, 0, 0⟩
    low + 2 ^ 22 + s.logicalOf cl * 2 ^ 23 + t.core * 2 ^ 36 + t.slot * 2 ^ 39
  | .timetable _ => low + 2 ^ 22

/-- The kernel of a requester as a fault record names it: 0 for the Timetable (15_page R382). -/
def State.faultHandle (s : State) (r : Requester) : Word :=
  let h (k : Option Nat) : Word := ((k.bind fun e => (s.kernel e).map fun x => handleOf e x)).getD 0#64
  match r with
  | .thread t _ => h (s.thread t).kernel
  | .engine cl slot => h ((s.engineCmd cl slot).bind fun e => e.kernel)
  | .timetable _ => 0#64

/-- The records that a die's fault queue holds, and the physical address of its control block (15_page R382, 16_link R423). -/
def State.faultQueue (s : State) (die : Nat) : Nat × Nat :=
  let size := field s.pkg.fqcfg 15 0
  (size, field s.pkg.fqcfg 63 16 * 65536 + die * 64 * (size + 1))

/-- The address of record j in a die's fault queue. -/
def State.faultSlot (s : State) (die j : Nat) : Nat := (s.faultQueue die).2 + 64 + 64 * (j % (s.faultQueue die).1)


/-- Whether a die's fault queue has room, and its lines are accepted at their homes (15_page R382, R392; 16_link R398). -/
def State.faultRoom (s : State) (die : Nat) : Bool :=
  decide ((s.die die).faultTail - (s.deviceWord ((s.faultQueue die).2 + 8)).toNat < (s.faultQueue die).1) &&
  s.siteReady (walkerSite die) (s.faultQueue die).2 && s.siteReady (walkerSite die) (s.faultSlot die (s.die die).faultTail)

/-- One record written to its die's fault queue, then TAIL (15_page R382). -/
def State.postFault (s : State) (die : Nat) (r : FaultRecord) : State :=
  let j := (s.die die).faultTail
  let a := s.faultSlot die j
  let ws := [r.va, r.word1, r.handle, 0#64, BitVec.ofNat 64 r.seq, 0#64, 0#64, 0#64]
  let s1 := (ws.zip (List.range 8)).foldl (fun (x : State) p => (x.dropCached (a + 8 * p.2)).storeBytes (a + 8 * p.2) 8 p.1.toNat) s
  let s2 := ((s1.noteRead (s.faultQueue die).2 64).dropCached (s.faultQueue die).2).storeBytes (s.faultQueue die).2 8 (j + 1)
  ((s2.wakeWatches a 64 1).wakeWatches (s.faultQueue die).2 8 1).onDie die fun d => { d with
    faultTail := j + 1, faults := d.faults.map fun x => if x.seq == r.seq then { x with posted := some j } else x }

/-- The records of a die that are not posted, posted in order while the queue has room. -/
def State.postFaults (s : State) (die : Nat) : State :=
  ((s.die die).faults.filter fun r => r.posted.isNone).foldl (fun a r => if a.faultRoom die then a.postFault die r else a) s

/-- Whether a record stands for an address space, a kind and a 64 KiB page (15_page R381). -/
def FaultRecord.covers (f : FaultRecord) (asid kind page : Nat) : Bool := f.asid == asid && f.kind == kind && f.va.toNat / 65536 == page

/-- Waiters join the outstanding record of their page, or open a new one with the address and access of the first of them (15_page R381,
R382). -/
def State.openFault (s : State) (die asid kind : Nat) (l : List Waiter) : State :=
  match l with
  | [] => s
  | x :: _ =>
    let same (f : FaultRecord) : Bool := f.covers asid kind (x.va.toNat / 65536)
    let who := l.map fun y => y.who
    if (s.die die).faults.any same then
      s.onDie die fun d => { d with faults := d.faults.map fun f => if same f then { f with waiters := f.waiters ++ who } else f }
    else
      let f : FaultRecord :=
        { seq := (s.die die).nextFault, asid := asid, kind := kind, va := x.va
          word1 := BitVec.ofNat 64 (s.faultWord1 asid kind x.write x.who), handle := s.faultHandle x.who, waiters := who }
      (s.onDie die fun d => { d with faults := d.faults ++ [f], nextFault := d.nextFault + 1 }).postFaults die

/-- The level reads of a walk, in order (15_page R373, R380). -/
def Walk.reads (w : Walk) (s : State) : List Nat := s.walkReads (w.page * 65536) 2 (field (s.asidEntry w.asid) 51 16 * 65536)

/-- Whether the failure of a walk may open a record now or join one: those that were held are served oldest first (15_page R381). -/
def State.faultTakes (s : State) (die : Nat) (w : Walk) (kind : Nat) : Bool :=
  ((s.die die).faults.any fun f => f.covers w.asid kind w.page) ||
  (decide ((s.die die).faults.length < 256) && (s.die die).walks.all fun v =>
    match v.held, w.held with
    | some a, some b => decide (b ≤ a)
    | some _, none => false
    | none, _ => true)

/-- Whether a resource is part of the slice of a die's cache that serves a location (01_module R463, 15_page R392). -/
def ofDieSlice (die l : Nat) : Resource → Bool
  | .dieCache d x _ _ => d == die && x == l / 64 % 32
  | _ => false

/-- Whether walk k of a die can end or be held: it holds one of the 64 walkers, its level reads are accepted, and it has not been held for
want of a record that is still missing (15_page R380, R381). -/
def State.walkDue (s : State) (die k : Nat) : Bool :=
  match (s.die die).walks[k]? with
  | none => false
  | some w =>
    decide (k < 64) && ((s.asidAt w.asid :: w.reads s).all fun a => s.siteReady (walkerSite die) a && !s.frozen a 8 &&
      !s.underTest (ofDieSlice die a)) &&
    match s.walk w.asid (w.page * 65536) with
    | .ok _ => true
    | .error kind => w.held.isNone || s.faultTakes die w kind

/-- A PARKED thread keeps how it made its access. -/
def State.noteParked (s : State) (x : Waiter) : State :=
  match x.who with
  | .thread t _ => s.onThread t fun y => { y with parkedWrite := x.write, parkedMicro := x.micro }
  | _ => s


/-- A PARKED thread starts a walk of its address anew; in an address space that has lost its entry it makes its access again, which raises
ACCESS (15_page R372, R380, R383). -/
def State.rewalk (s : State) (t : ThreadRef) : State :=
  let x := s.thread t
  match x.parkedAt with
  | none => s
  | some (va, fetch) =>
    if s.asidValid x.asid.toNat || s.asidHeld x.asid.toNat then
      s.startWalk (dieOf t) x.asid.toNat { who := .thread t fetch, va := va, write := x.parkedWrite, micro := x.parkedMicro }
    else s.onThread t Thread.unpark

/-- The level reads of a walk go through the die's cache and on a miss to their banks, and one that is uncorrectable posts its event
(01_module R463, 15_page R389, R391). -/
def State.walkTouch (s : State) (die : Nat) (w : Walk) : State :=
  let s1 := (w.reads s).foldl (fun a l =>
    let r := a.dieRead die (l / 64) 0
    if r.1 then r.2 else r.2.touchBank l) s
  match (s.asidAt w.asid :: w.reads s).find? fun l => poisoned s l 8 with
  | some l => s1.errorAt l
  | none => s1

/-- The end of walk k of a die: the TLBs are filled, or its requesters wait for service; one whose failure finds no record is held (15_page
R380, R381). -/
def State.walkEnd (s : State) (die k : Nat) : State :=
  match (s.die die).walks[k]? with
  | none => s
  | some w =>
    let s1 := (s.walkTouch die w).onDie die fun d => { d with walks := eraseNth k d.walks }
    if !s.asidValid w.asid then w.waiters.foldl (fun a x => a.release_ x.who) s1
    else
      match s.walk w.asid (w.page * 65536) with
      | .ok (_, leaf, large) =>
        let e := leafEntry w.asid (w.page * 65536) leaf large
        w.waiters.foldl (fun a x => a.walkServed e x) (s1.onDie die fun d => { d with tlb := tlbFill 8192 e d.tlb })
      | .error kind =>
        if s.faultTakes die w kind then
          let r := s1.walkFailed w.waiters
          (r.1.foldl State.noteParked r.2).openFault die w.asid kind r.1
        else s.onDie die fun d => { d with walks := setNth k { w with held := some s.now } d.walks }

/-- WALK_COMPLETE: walk k of a die ends (15_page R380). -/
def execWalkComplete (die k : Nat) (s : State) : Host.Outcome State Fault Refusal :=
  .next (if s.walkDue die k then s.walkEnd die k else s)

/-- Whether a die's fault unit has a record to post and room for it. -/
def State.headDue (s : State) (die : Nat) : Bool := ((s.die die).faults.any fun r => r.posted.isNone) && s.faultRoom die

/-- FAULT_QUEUE_HEAD_ADVANCE: the servicer has moved HEAD, and the fault unit posts the records that it holds (15_page R382). -/
def execFaultQueueHeadAdvance (die : Nat) (s : State) : Host.Outcome State Fault Refusal :=
  .next (if s.headDue die then s.postFaults die else s)

/-! ### Resolution -/

/-- RESOLVE of an outstanding record as the fault unit sees it: 0 while the record is not posted, or while the line is dirty in a cache, so
that a store to it has not been performed at its home (15_page R382, R383). -/
def State.resolveOf (s : State) (die : Nat) (r : FaultRecord) : Nat :=
  match r.posted with
  | some j => if s.dirtyAt (s.faultSlot die j + 24) then 0 else field (s.deviceWord (s.faultSlot die j + 24)) 1 0
  | none => 0

/-- A waiter's service has failed: a thread takes PAGEFAULT, a fetch finds the fault in place of its words, an engine's piece
fails, and the Timetable's kernel ends (15_page R383). -/
def State.failWaiter (s : State) (f : FaultRecord) (r : Requester) : State :=
  match r with
  | .thread t fetch =>
    match (s.thread t).parkedAt with
    | none => s
    | some (va, _) =>
      if fetch then
        let base := va.toNat / 16 * 16
        (s.deliver t { base := base, words := (List.range 4).map fun i => .fault (.pageFault (BitVec.ofNat 64 (base + 4 * i))) }).onThread t
          Thread.unpark
      else
        match s.cutSeq t with
        | some q => s.onThread t fun x => { x.unpark with owedTrap := some (q, causePageFault, va) }
        | none => s.onThread t fun x => { x.unpark with parkFail := true, parkedAt := some (va, false) }
  | .engine cl slot => s.onEngine cl slot fun e => { e with failNext := true }
  | .timetable k =>
    if f.kind = kindPoison then s.endFaulted k 0x42
    else
      let s1 := (s.faultBlock k refusedPacket).endKernel k 0 false
      match (s.kernel k).bind (·.fromQueue) with
      | some (q, _) => s1.postEvent (s.queueDie q) 3 (BitVec.ofNat 64 q) refusedPacket
      | none => s1

/-- A waiter starts over with a new walk (15_page R383). -/
def State.retryWaiter (s : State) (r : Requester) : State :=
  match r with
  | .engine cl slot => s.onEngine cl slot fun e => { e with faultAt := none }
  | .timetable _ => s
  | .thread t _ => s.rewalk t

/-- Whether the record at place k of a die's fault unit is resolved. -/
def State.resolveDue (s : State) (die k : Nat) : Bool := (s.die die).faults[k]?.any fun f => s.resolveOf die f != 0

/-- The record at place k closes and its waiters are served in order of joining (15_page R383). -/
def State.resolveFault (s : State) (die k : Nat) : State :=
  match (s.die die).faults[k]? with
  | none => s
  | some f =>
    let seen := f.posted.elim s fun j => s.noteRead (s.faultSlot die j) 32
    let s1 := seen.onDie die fun d => { d with faults := eraseNth k d.faults }
    f.waiters.foldl (fun a r => if s.resolveOf die f = 1 then a.retryWaiter r else a.failWaiter f r) s1

/-- FAULT_RESOLVE: the fault unit of a die sees RESOLVE of its record number k (15_page R383). -/
def execFaultResolve (die k : Nat) (s : State) : Host.Outcome State Fault Refusal :=
  .next (if s.resolveDue die k then s.resolveFault die k else s)

/-! ### The fetch unit -/

/-- The threads of a cluster. -/
def clusterSlots (cl : Nat) : List ThreadRef := (List.range 32).map fun n => ⟨cl, n / 4, n % 4⟩

/-- Whether a walk for the fetch of a block serves thread t. -/
def State.walkingFor (s : State) (t : ThreadRef) (base : Nat) : Bool :=
  (s.die (dieOf t)).walks.any fun w => w.waiters.any fun x => x.who == .thread t true && x.va.toNat / 16 == base / 16

/-- The requests of a cluster that no line fill or walk serves yet: thread, block address and address space. -/
def State.fetchRequests (s : State) (cl : Nat) : List (ThreadRef × Nat × Nat) :=
  (clusterSlots cl).filterMap fun t =>
    (s.thread t).wantsBlock.bind fun b =>
      if ((s.cluster cl).fills.any fun f => f.base == b && f.threads.contains t) || s.walkingFor t b then none
      else some (t, b, (s.thread t).asid.toNat)

/-- The fetch group that is granted next: the one with the oldest request that has waited 64 cycles or more, else the one with
the lowest block address (06_group R165). DESIGN CHOICE: of two groups at one block address in different address spaces the one that holds
the lowest cluster thread number comes first, which the spec leaves open (log entry 85). -/
def State.nextGroup (s : State) (l : List (ThreadRef × Nat × Nat)) : Option (Nat × Nat) :=
  let since (r : ThreadRef × Nat × Nat) : Nat := (s.thread r.1).requestedAt s.now
  let old := l.filter fun r => decide (since r + 64 ≤ s.now)
  ((leastBy since old).or (leastBy (fun r => r.2.1) l)).map fun r => r.2

/-- A thread's fetch meets an uncorrectable line: its kernel aborts when the thread cannot issue without the block (15_page R391). -/
def State.fetchLost (s : State) (t : ThreadRef) (base line : Nat) : State :=
  if (s.thread t).needsBlock base then (s.errorAt (line * 64)).uncorrectable t else s

/-- The members of a group: a fault or a line in the instruction cache is delivered at once; the others wait for the line, which a
fill brings (06_group R166). -/
def State.grantGroup (s : State) (cl base : Nat) (ts : List ThreadRef) : State :=
  let shared := decide (2 ≤ ts.length)
  let r := ts.foldl (fun (a : List ThreadRef × Option Nat × State) t =>
    match a.2.2.reach (a.2.2.agentOf t) (.thread t true) false false true (BitVec.ofNat 64 base) with
    | (.deny, s1) => (a.1, a.2.1, s1.deliver t (deniedBlock base))
    | (.walk, s1) => (a.1, a.2.1, s1)
    | (.place p, s1) =>
      match cachedLine (s1.cluster cl).icache (p.loc / 64) with
      | some bytes =>
        let s2 := s1.deliver t { base := base, words := blockWords bytes p.loc }
        (a.1, a.2.1, if shared then s2.onThread t fun x => x.count 5 1 else s2)
      | none =>
        if s1.lineLost cl (p.loc / 64) then (a.1, a.2.1, s1.fetchLost t base (p.loc / 64))
        else (a.1 ++ [t], some (p.loc / 64), s1)) ([], none, s)
  match r.1, r.2.1 with
  | t :: _, some line =>
    (r.2.2.onThread t fun x => x.count 6 1).onCluster cl fun c =>
      { c with fills := c.fills ++ [{ base := base, line := line, threads := r.1 }] }
  | _, _ => r.2.2

/-- Whether a resource is part of the instruction cache of a cluster (15_page R392). -/
def ofInstrCache (cl : Nat) : Resource → Bool
  | .instructionCache c _ => c == cl
  | _ => false

/-- At most n fetch groups granted (06_group R165). -/
def State.grantGroups (s : State) (cl : Nat) : Nat → List (ThreadRef × Nat × Nat) → State
  | 0, _ => s
  | n + 1, l =>
    match s.nextGroup l with
    | none => s
    | some g =>
      (s.grantGroup cl g.1 ((l.filter fun r => r.2 == g).map (·.1))).grantGroups cl n (l.filter fun r => r.2 != g)

/-- FETCH_GRANT: one cycle of a cluster's fetch unit (06_group R165). -/
def execFetchGrant (cl : Nat) (s : State) : Host.Outcome State Fault Refusal :=
  .next (if s.underTest (ofInstrCache cl) then s else s.grantGroups cl 2 (s.fetchRequests cl))

/-- The line of fill k of a cluster arrives: it enters the instruction cache, and its block the buffers of the threads that still
request it (06_group R166). -/
def State.lineArrives (s : State) (cl k : Nat) : State :=
  match (s.cluster cl).fills[k]? with
  | none => s
  | some f =>
    let s1 := s.onCluster cl fun c => { c with fills := eraseNth k c.fills }
    if s1.lineLost cl f.line then f.threads.foldl (fun a t => a.fetchLost t f.base f.line) s1
    else
      let s2 := (s1.fillInstrLine cl f.line).touchBank (f.line * 64)
      let words := blockWords ((cachedLine (s2.cluster cl).icache f.line).getD []) f.base
      let shared := decide (2 ≤ f.threads.length)
      f.threads.foldl (fun a t =>
        if (a.thread t).wantsBlock = some f.base then
          let b := a.deliver t { base := f.base, words := words }
          if shared then b.onThread t fun x => x.count 5 1 else b
        else a) s2

/-- Whether line fill k of a cluster can arrive: its line is accepted at its home and not frozen by a commit (12_kernel R316, 15_page
R392). -/
def State.fillDue (s : State) (cl k : Nat) : Bool :=
  (s.cluster cl).fills[k]?.any fun f =>
    !s.underTest (ofInstrCache cl) && s.siteReady cl (f.line * 64) && !s.frozen (f.line * 64) 64

/-- INSTRUCTION_LINE_FILL: line fill k of a cluster arrives (06_group R166). -/
def execInstructionLineFill (cl k : Nat) (s : State) : Host.Outcome State Fault Refusal :=
  .next (if s.fillDue cl k then s.lineArrives cl k else s)

/-! ### Banks -/

/-- The state of a bank by its channel and number: precharged when not listed. -/
def State.bank (s : State) (ch bank : Nat) : Bank := Table.get .precharged (ch * 65536 + bank) s.pkg.banks

/-- The locations that a copy's beat under way reads or writes next, as far as its TLB holds their pages (10_buffer R261). -/
def State.beatLocs (s : State) (cl : Nat) (e : EngineCmd) : List Nat :=
  let a := s.engineAgent e
  let at0 (write : Bool) (va : Word) : List Nat :=
    match (s.reach a (.engine cl e.slot) false write false va).1 with
    | .place p => [p.loc]
    | _ => []
  if e.state != .running || !e.isCopy then []
  else if e.read.isSome then e.pending.flatMap fun d => (s.destAddress e.beatDst (e.kind == .cpym) d).elim [] (at0 true)
  else
    match s.sourceAddress cl e with
    | .ok x => at0 false x.1
    | .error _ => []

/-- Whether a request that is outstanding has a byte at a location with a property: a scalar access, a vector chunk, a tile record, a line
fill, a walk's reads, a copy's beat, a migration's step (15_page R389). -/
def State.queuedAt (s : State) (f : Nat → Bool) : Bool :=
  (s.threads.any fun p => (p.2.loads.any fun l => l.touches && f (s.locNow l.place)) || p.2.stores.any fun w => f (s.locNow w.place)) ||
  (s.clusters.any fun p => (p.2.fills.any fun x => f (x.line * 64)) || p.2.engine.any fun e => (s.beatLocs p.1 e).any f) ||
  (s.dies.any fun p => (p.2.walks.take 64).any fun w => (w.reads s).any f) ||
  (s.pkg.migrations.any fun p => p.2.head?.any fun m => m.entered && decide (m.step < 256) &&
    (List.range 4).any fun i => f (m.old + 256 * m.step + 64 * i) || f (m.new + 256 * m.step + 64 * i)) ||
  (s.cores.any fun p => (p.2.loadQ ++ p.2.storeQ).any fun c =>
    !c.flight.isEmpty && (s.openBytes (slotRef p.1 c.slot) { c with next := c.limit }).any fun b => f b.1) ||
  s.clusters.any fun p => p.2.matrix.any fun m => (s.recordBytes m.2).any fun b => f b.1

/-- Whether a bank's idle timer has run out, with no row hit queued for the bank (15_page R389). -/
def State.idleDue (s : State) (ch bank : Nat) : Bool :=
  match s.bank ch bank with
  | .openRow row since idle => decide (since + 2 * idle ≤ s.now) &&
      !s.queuedAt fun l => Loc.isPhys l && bankKey l == ch * 65536 + bank && Config.rowOf l == row
  | _ => false

/-- BANK_IDLE_TIMER_EXPIRY: the bank precharges, when its timer has run out (15_page R389). -/
def execBankIdleTimerExpiry (ch bank : Nat) (s : State) : Host.Outcome State Fault Refusal :=
  .next (if s.idleDue ch bank then s.onPkg fun g => { g with banks := Table.erase (ch * 65536 + bank) g.banks } else s)

/-- Whether a bank can be refreshed: precharged with no request queued, and not in a refresh (15_page R389). -/
def State.refreshable (s : State) (ch bank : Nat) : Bool :=
  !s.queuedAt (fun l => Loc.isPhys l && bankKey l == ch * 65536 + bank) &&
  match s.bank ch bank with
  | .precharged => true
  | .refreshing since => decide (since + 200 ≤ s.now)
  | .openRow _ _ _ => false

/-- BANK_REFRESH: a precharged bank is refreshed for 200 cycles (15_page R389). -/
def execBankRefresh (ch bank : Nat) (s : State) : Host.Outcome State Fault Refusal :=
  .next (if s.refreshable ch bank then
      s.onPkg fun g => { g with banks := Table.set (ch * 65536 + bank) (.refreshing s.now) g.banks } else s)

end Sys2Proof.Machine
end

