-- ==== Sys2Proof/Machine/Debug.lean ====
section
/-! DEFINITION. The debugger's commands (17_watch R432, R433), the scalar frame in which it reads and writes a stopped thread
(05_traps R146), and its release of a held kernel (12_kernel R304). -/

namespace Sys2Proof.Machine

open Sys2Proof

/-! ### Ownership, stop and resume -/

/-- The thread that a debugger's command names changed: the one in the slot, and while the slot is FREE also the contexts of the slot that
switched partitions have saved (04_context R100; log entry 102). -/
def State.onDebugged (s : State) (t : ThreadRef) (f : Thread → Thread) : State :=
  let s1 := s.onThread t f
  if (s.thread t).phase != .free then s1
  else s1.onPkg fun g => { g with partitions := g.partitions.map fun p =>
    (p.1, { p.2 with savedThreads := p.2.savedThreads.map fun q => if q.1 = t then (q.1, f q.2) else q }) }

/-- DEBUG_OWN: DBGCTL.OWNED is set (17_watch R432). -/
def execDebugOwn (t : ThreadRef) (s : State) : Host.Outcome State Fault Refusal :=
  .next (s.onDebugged t fun x => { x with dbgctl := setBit x.dbgctl 0 true })

/-- DEBUG_RELEASE: DBGCTL.OWNED is cleared (17_watch R432). -/
def execDebugRelease (t : ThreadRef) (s : State) : Host.Outcome State Fault Refusal :=
  .next (s.onDebugged t fun x => { x with dbgctl := setBit x.dbgctl 0 false })

/-- Whether a thread in a state can be stopped (04_context R99). -/
def Phase.stoppable : Phase → Bool
  | .ready | .waiting | .yielded | .parked => true
  | _ => false

/-- A debugger's stop: of the thread, or of the state recorded at its partition's bell (04_context R99, R100). -/
def Thread.debugStop (x : Thread) : Thread :=
  if x.phase.stoppable then x.stop x.phase
  else if x.phase = .switched ∧ x.bellPrior.stoppable then { x with bellPrior := .stopped, stopPrior := x.bellPrior }
  else x

/-- DEBUG_STOP: the thread moves to STOPPED with its state recorded (04_context R99, 17_watch R432). -/
def execDebugStop (t : ThreadRef) (s : State) : Host.Outcome State Fault Refusal := .next (s.onDebugged t Thread.debugStop)

/-- A debugger's resume: the recorded state returns, and the instruction reached is not tested by EXEC (04_context R99,
17_watch R431). -/
def Thread.debugResume (x : Thread) : Thread :=
  if x.phase = .stopped then { x with phase := x.stopPrior, execExempt := true }
  else if x.phase = .switched ∧ x.bellPrior = .stopped then { x with bellPrior := x.stopPrior, execExempt := true }
  else x

/-- DEBUG_RESUME (17_watch R432). -/
def execDebugResume (t : ThreadRef) (s : State) : Host.Outcome State Fault Refusal := .next (s.onDebugged t Thread.debugResume)

/-- DEBUG_STEP: STATUS.STEP is set or cleared (17_watch R432). -/
def execDebugStep (t : ThreadRef) (on : Bool) (s : State) : Host.Outcome State Fault Refusal :=
  .next (s.onDebugged t fun x => { x with status := setBit x.status 4 on })

/-- DEBUG_HOLDCHILD: DBGCTL.HOLDCHILD is set or cleared (17_watch R432). -/
def execDebugHoldchild (t : ThreadRef) (on : Bool) (s : State) : Host.Outcome State Fault Refusal :=
  .next (s.onDebugged t fun x => { x with dbgctl := setBit x.dbgctl 1 on })

/-! ### The scalar frame -/

/-- The code of a recorded state in frame word 32 (05_traps R146). -/
def Phase.frameCode : Phase → Nat
  | .ready => 1
  | .waiting => 2
  | .yielded => 3
  | .parked => 4
  | .stopped => 5
  | _ => 0

/-- The kind of a pending entry in frame word 56 (05_traps R146, R147). -/
def PendingLoad.frameKind (l : PendingLoad) : Nat :=
  match l.kind with
  | .load sz => sz
  | _ => 7

/-- The owed predicates in frame word 55, bit k for pk (05_traps R146, R147). -/
def Thread.owedPreds (x : Thread) : Nat :=
  ((List.range 7).map fun i =>
    if (x.loads.any fun l => l.pred == i + 1) || (x.stores.any fun w => w.pred == some (i + 1)) then 2 ^ (i + 1) else 0).foldl (· + ·) 0

/-- The entries of a thread's pending-load table: the results owed to g registers, in order of issue; one that writes a predicate only
has no entry (05_traps R147). -/
def Thread.frameLoads (x : Thread) : List PendingLoad := x.loads.filter PendingLoad.named

/-- The pending-load table as frame word 56 holds it. -/
def frameTable : List PendingLoad → Nat
  | [] => 0
  | l :: r => l.rd + l.frameKind * 32 + 256 * frameTable r

/-- The bindings of the queue registers as one field of 448 bits (05_traps R146). -/
def Thread.bindingField (x : Thread) : Nat := x.queues.toList.foldr (fun b n => b.toNat + 2 ^ 28 * n) 0

/-- Word w of thread t's scalar frame (05_traps R146). -/
def State.frameWord (s : State) (t : ThreadRef) (w : Nat) : Word :=
  let x := s.thread t
  if w = 0 then x.pc
  else if w < 32 then x.g w
  else
    match w with
    | 32 => BitVec.ofNat 64 ((x.preds ||| 1#8).toNat + x.stopPrior.frameCode * 2 ^ 8 + x.striplen.toNat % 2 ^ 32 * 2 ^ 32)
    | 33 => x.status
    | 34 => x.cause
    | 35 => x.epc
    | 36 => x.tval
    | 37 => x.tvec
    | 38 => x.scratch
    | 39 => x.fctl
    | 40 => x.vl
    | 41 => x.vreq
    | 42 => x.vtype
    | 43 => x.vstart
    | 44 => x.vflags
    | 45 => BitVec.ofNat 64 (field x.vslip 4 0 + field x.vshare 3 0 * 2 ^ 8 + x.vnreg % 128 * 2 ^ 16)
    | 46 => x.hvl
    | 47 => x.hvtype
    | 48 => x.hvstart
    | 49 => x.tctl
    | 50 => x.tstartrow
    | 51 => x.tflags
    | 52 => x.tshare
    | 53 => x.tmap
    | 54 => x.instret
    | 55 => BitVec.ofNat 64 (s.cntld t % 16 + s.cntst t % 32 * 2 ^ 4 + s.cntcp t % 256 * 2 ^ 16 + s.cnttl t % 256 * 2 ^ 24 +
        x.frameLoads.length % 16 * 2 ^ 32 + x.owedPreds * 2 ^ 39)
    | 56 => BitVec.ofNat 64 (frameTable x.frameLoads)
    | _ => if w < 64 then BitVec.ofNat 64 (x.bindingField / 2 ^ (64 * (w - 57))) else 0#64

/-- The bindings with the 64 bits of one frame word replaced. -/
def Thread.writeBindings (x : Thread) (w : Nat) (v : Word) : Thread :=
  let f := splice x.bindingField (64 * (w - 57)) 64 v.toNat
  { x with queues := Vector.ofFn fun k => BitVec.ofNat 28 (f / 2 ^ (28 * k.val)) }

/-- The PC of a STOPPED thread rewritten: nothing of the instruction that it was held at remains. -/
def Thread.writePc (x : Thread) (v : Word) : Thread :=
  { x with
    pc := v &&& ~~~3#64, fetch := [], request := none, pushing := none, checking := none, owedTrap := none, inTable := false
    refused := none, parkFail := false, parkedAt := if x.parkFail then none else x.parkedAt }

/-- The recorded state rewritten by its code (05_traps R146). DESIGN CHOICE: a thread written YIELDED waits like one that has just issued
YIELD, one written PARKED for the page of its PC; one that is in the state already stays as it is, and a code that names no state changes
nothing (log entry 60). -/
def State.writeRecorded (s : State) (t : ThreadRef) (n : Nat) : State :=
  let x := s.thread t
  let s1 := s.leaveWaiters fun r => r.isThread t
  match n with
  | 1 => s1.onThread t fun y => { y with stopPrior := .ready, yield := none, parkedAt := none }
  | 2 => s1.onThread t fun y => { y with stopPrior := .waiting, yield := none, parkedAt := none }
  | 3 =>
    if x.stopPrior == .yielded then s
    else s1.onThread t fun y => { y with
      stopPrior := .yielded, yield := some { since := s.now, others := s.rivals t }, parkedAt := none }
  | 4 =>
    if x.stopPrior == .parked then s
    else (s1.onThread t fun y => { y with stopPrior := .parked, yield := none, parkedAt := some (x.pc, true) }).rewalk t
  | _ => s

/-- TMAP rewritten (09_tile R226; 05_traps R146): a name whose BOUND bit is cleared is unbound, and one whose bit is set is bound as TALLOC
binds it, where a slot can be bound; a name that an instruction still uses stands, and so does SAVED (log entry 60). -/
def State.writeTmap (s : State) (t : ThreadRef) (v : Word) : State :=
  (List.range 16).foldl (fun (a : State) k =>
    if (State.tileInUse { a with cur := t } k) || bit v k == ((a.thread t).tile k != .unbound) then a
    else if bit v k then (a.bindTile t k).getD a
    else a.unbindTile t k) s

/-- A pending entry with the destination and, for a scalar load, the sz of one byte of frame word 56. -/
def PendingLoad.rewrite (l : PendingLoad) (b : Nat) : PendingLoad :=
  { l with
    rd := b % 32
    kind := match l.kind with
      | .load sz => .load (if b / 32 % 8 < 7 then b / 32 % 8 else sz)
      | k => k }

/-- The named entries rewritten in order by the bytes of frame word 56 (05_traps R146, R147). -/
def rewriteLoads (v : Nat) : List PendingLoad → List PendingLoad
  | [] => []
  | l :: r => if l.named then l.rewrite (v % 256) :: rewriteLoads (v / 256) r else l :: rewriteLoads v r

/-- The results owed to registers after the first n of them, no longer valid entries: they are discarded when they come (05_traps R146,
R147). -/
def cutLoads : Nat → List PendingLoad → List PendingLoad
  | _, [] => []
  | n, l :: r =>
    if !l.named then l :: cutLoads n r
    else if n = 0 then { l with rd := 0, named := false } :: cutLoads 0 r
    else l :: cutLoads (n - 1) r

/-- Frame word 55 rewritten: n cuts the pending-load table, and an owed predicate whose bit is cleared is owed no more; the counters count
the operations in flight and stand (05_traps R146, R147; log entry 60). -/
def Thread.writeOwed (x : Thread) (v : Word) : Thread :=
  let owed (p : Nat) : Bool := p != 0 && bit v (39 + p)
  { x with
    loads := cutLoads (field v 35 32) (x.loads.map fun l => { l with pred := if owed l.pred then l.pred else 0 })
    stores := x.stores.map fun w => { w with pred := w.pred.filter owed } }

/-- Whether a number is a register count that VCFG can declare (07_vector R175). -/
def regCount (n : Nat) : Bool := n == 4 || n == 8 || n == 16 || n == 32 || n == 64

/-- A debugger's write of frame word w, as far as the thread alone holds it: each field takes a value that is legal for it, and reserved
bits stay zero (05_traps R146, R152; 07_vector R175; log entry 60). -/
def Thread.writeFrame (x : Thread) (w : Nat) (v : Word) : Thread :=
  if w = 0 then x.writePc v
  else if w < 32 then x.setG w v
  else
    match w with
    | 32 => { x with preds := BitVec.ofNat 8 v.toNat &&& 0xFE#8, striplen := BitVec.ofNat 64 (field v 63 32) }
    | 33 => { x with status := v &&& 0x1F#64 }
    | 34 => x.csrWrite 1 v
    | 35 => x.csrWrite 2 v
    | 36 => x.csrWrite 3 v
    | 37 => x.csrWrite 4 v
    | 38 => x.csrWrite 5 v
    | 39 => x.csrWrite 6 v
    | 40 => { x with vl := takeField x.vl v 16 0 fun n => decide (n ≤ 32768) && n % blockSize (field x.vtype 6 5) == 0 }
    | 41 => { x with vreq := v }
    | 42 => { x with vtype := takeField (takeField x.vtype v 10 5 anyValue) v 4 0 fun n => decide (n ≠ 31) }
    | 43 => x.csrWrite 0x012 v
    | 44 => x.csrWrite 0x018 v
    | 45 =>
      let y := (x.csrWrite 0x016 (BitVec.ofNat 64 (field v 4 0))).csrWrite 0x017 (BitVec.ofNat 64 (field v 11 8))
      if regCount (field v 22 16) then { y with vnreg := field v 22 16 } else y
    | 46 => { x with hvl := v }
    | 47 => { x with hvtype := v }
    | 48 => { x with hvstart := v }
    | 49 => x.csrWrite 0x030 v
    | 50 => x.csrWrite 0x031 v
    | 51 => x.csrWrite 0x033 v
    | 52 => x.csrWrite 0x034 v
    | 54 => { x with instret := v }
    | 55 => x.writeOwed v
    | 56 => { x with loads := rewriteLoads v.toNat x.loads }
    | _ => if 57 ≤ w ∧ w < 64 then x.writeBindings w v else x

/-- A debugger's write of word w of thread t's scalar frame (17_watch R432, 05_traps R146). -/
def State.writeFrame (s : State) (t : ThreadRef) (w : Nat) (v : Word) : State :=
  let s1 := (if w = 0 then s.withdraw t else s).onThread t fun x => x.writeFrame w v
  match w with
  | 32 => s1.writeRecorded t (field v 11 8)
  | 53 => s1.writeTmap t v
  | _ => s1

/-! ### Reads and writes -/

/-- A change made as if thread t were the current one. -/
def State.asThread (s : State) (t : ThreadRef) (f : State → State) : State :=
  if t = s.cur then f s
  else
    let s1 := f { s with cur := t, ctx := s.thread t, others := storeThread s.cur s.ctx s.others }
    { s1 with
      cur := s.cur, ctx := lookupThread s.cur s1.others
      others := storeThread t s1.ctx (s1.others.filter fun p => p.1 != s.cur) }

/-- What a debugger's READ of a STOPPED thread answers (17_watch R432). -/
def State.debugItem (s : State) (t : ThreadRef) : DebugItem → Word
  | .frame w => s.frameWord t w
  | .csr n => { s with cur := t, ctx := s.thread t }.csrRead n.toNat

/-- DEBUG_READ: a frame word or any CSR of a STOPPED thread, answered through the mailbox (17_watch R432). -/
def execDebugRead (t : ThreadRef) (i : DebugItem) (s : State) : Host.Outcome State Fault Refusal :=
  .next (if (s.thread t).phase = .stopped then s.onPkg fun g => { g with reports := g.reports ++ [.debugValue t (s.debugItem t i)] }
    else s)

/-- DEBUG_WRITE: a frame word or any CSR of a STOPPED thread; fields that software cannot write stand (17_watch R432). -/
def execDebugWrite (t : ThreadRef) (i : DebugItem) (v : BitVec 64) (s : State) : Host.Outcome State Fault Refusal :=
  .next (if (s.thread t).phase = .stopped then
      match i with
      | .frame w => s.writeFrame t w v
      | .csr n => if csrAssigned n && s.csrWritable n.toNat then s.asThread t fun a => a.csrWrite n.toNat v else s
    else s)

/-! ### Held kernels -/

/-- DEBUGGER_KERNEL_RELEASE: the debugger holds a HELD kernel no longer: it becomes ARMED or READY by its task control block, unless it
still waits for its parent's commit (12_kernel R304, R322; 17_watch R433; log entry 72). -/
def execDebuggerKernelRelease (k : Nat) (s : State) : Host.Outcome State Fault Refusal :=
  .next (match s.kernel k with
    | none => s
    | some x =>
      if x.state != .held then s
      else
        let s1 := s.onKernel k fun y => { y with holdDebug := false }
        if ({ x with holdDebug := false } : Kernel).heldBack then s1 else s1.armOrReady k)

end Sys2Proof.Machine
end

