-- ==== Sys2Proof/Machine/Float.lean ====
section
/-! DEFINITION. Scalar floating point (04_context R126-R132). -/

namespace Sys2Proof.Machine

open Sys2Proof

/-- The format of a scalar instruction: 0 F32, 1 F64, 2 F16, 3 BF16 (03_encoding R75, 04_context R132). -/
def scalarFmt (f : BitVec 2) : FloatFmt :=
  match f.toNat with
  | 0 => fmtF32
  | 1 => fmtF64
  | 2 => fmtF16
  | _ => fmtBF16

/-- The integer width of a conversion: 64, 32, 16 or 8 (04_context R130). -/
def scalarIntWidth (w : BitVec 2) : Nat := 64 / 2 ^ w.toNat

/-- g[n] read in a format: the bits above its width are ignored (04_context R126). -/
def Thread.fp (t : Thread) (f : FloatFmt) (n : Nat) : Nat := (t.g n).toNat % 2 ^ f.width

/-- A result with the conditions it raised: written and accrued, or the trap of the first enabled one (04_context R131). -/
def State.fpEnd (s : State) (d : Nat) (v : Word) (c : Conds) : State :=
  match fpTrapCause s.ctx.fctl c with
  | some cause => s.trap cause (fpTrapValue c)
  | none => s.onCtx fun t => ({ t.setG d v with fctl := accrueFctl t.fctl c } : Thread).retire 1

/-- A floating-point result: bits above its width are zero (04_context R126). -/
def State.fpPut (s : State) (d : Nat) (r : Nat × Conds) : State := s.fpEnd d (BitVec.ofNat 64 r.1) r.2

/-- A scalar instruction that rounds: with dynamic rounding and an unassigned FCTL.RM it is ILLEGAL with the word (04_context
R104); else its result in the mode. -/
def rounded (m : BitVec 3) (word : Word) (s : State) (f : Nat → State) : Host.Outcome State Fault Refusal :=
  match scalarRounding s.ctx.fctl m.toNat with
  | none => .next (s.trap causeIllegal word)
  | some rm => .next (f rm)

/-- A comparison's 1 or 0 with its conditions (04_context R129). -/
def State.fpFlag (s : State) (d : Nat) (b : Bool) (c : Conds) : State := s.fpEnd d (flagWord b) c

/-- The conditions of FLT and FLE: NV for any NaN (04_context R129). -/
def orderedConds (x y : FVal) : Conds := if x.isNan || y.isNan then condNV else 0#7

/-- The class mask of an encoding (04_context R129). -/
def classMask (f : FloatFmt) (x : Nat) : Nat :=
  match decodeFloat f x with
  | .nan sig => if sig then 256 else 512
  | .inf neg => if neg then 1 else 128
  | .fin neg mant _ =>
    let e := x / 2 ^ f.mbits % 2 ^ f.ebits
    if mant = 0 then (if neg then 8 else 16)
    else if e = 0 then (if neg then 4 else 32)
    else (if neg then 2 else 64)

/-- The sign bit of an encoding. -/
def signBit (f : FloatFmt) (x : Nat) : Bool := x.testBit (f.width - 1)

/-- An encoding's magnitude with the sign given (04_context R129). -/
def withSignBit (f : FloatFmt) (x : Nat) (neg : Bool) : Nat :=
  x % 2 ^ (f.width - 1) + if neg then 2 ^ (f.width - 1) else 0

/-- FADD: a + b, rounded once (04_context R127, R128). -/
def execFadd (d a b : BitVec 5) (m : BitVec 3) (f : BitVec 2) (s : State) : Host.Outcome State Fault Refusal :=
  rounded m (wordsValue (.fadd d a b m f)) s fun rm =>
    s.fpPut d.toNat (floatAdd (scalarFmt f) rm false (s.ctx.fp (scalarFmt f) a.toNat) (s.ctx.fp (scalarFmt f) b.toNat))

/-- FSUB: a - b, rounded once (04_context R127, R128). -/
def execFsub (d a b : BitVec 5) (m : BitVec 3) (f : BitVec 2) (s : State) : Host.Outcome State Fault Refusal :=
  rounded m (wordsValue (.fsub d a b m f)) s fun rm =>
    s.fpPut d.toNat (floatSub (scalarFmt f) rm false (s.ctx.fp (scalarFmt f) a.toNat) (s.ctx.fp (scalarFmt f) b.toNat))

/-- FMUL: a x b, rounded once (04_context R127, R128). -/
def execFmul (d a b : BitVec 5) (m : BitVec 3) (f : BitVec 2) (s : State) : Host.Outcome State Fault Refusal :=
  rounded m (wordsValue (.fmul d a b m f)) s fun rm =>
    s.fpPut d.toNat (floatMul (scalarFmt f) rm false (s.ctx.fp (scalarFmt f) a.toNat) (s.ctx.fp (scalarFmt f) b.toNat))

/-- FDIV: a / b, rounded once; DZ for a finite non-zero a and a zero b (04_context R127, R128). -/
def execFdiv (d a b : BitVec 5) (m : BitVec 3) (f : BitVec 2) (s : State) : Host.Outcome State Fault Refusal :=
  rounded m (wordsValue (.fdiv d a b m f)) s fun rm =>
    s.fpPut d.toNat (floatDiv (scalarFmt f) rm false (s.ctx.fp (scalarFmt f) a.toNat) (s.ctx.fp (scalarFmt f) b.toNat))

/-- FSQRT: the square root, rounded once (04_context R127, R128). -/
def execFsqrt (d a : BitVec 5) (m : BitVec 3) (f : BitVec 2) (s : State) : Host.Outcome State Fault Refusal :=
  rounded m (wordsValue (.fsqrt d a m f)) s fun rm =>
    s.fpPut d.toNat (floatSqrt (scalarFmt f) rm false (s.ctx.fp (scalarFmt f) a.toNat))

/-- FMIN: the minimum of 02_numbers R46 (04_context R127). -/
def execFmin (d a b : BitVec 5) (f : BitVec 2) (s : State) : Host.Outcome State Fault Refusal :=
  .next (s.fpPut d.toNat
    (floatMinMax (scalarFmt f) false (s.ctx.fp (scalarFmt f) a.toNat) (s.ctx.fp (scalarFmt f) b.toNat)))

/-- FMAX: the maximum of 02_numbers R46 (04_context R127). -/
def execFmax (d a b : BitVec 5) (f : BitVec 2) (s : State) : Host.Outcome State Fault Refusal :=
  .next (s.fpPut d.toNat
    (floatMinMax (scalarFmt f) true (s.ctx.fp (scalarFmt f) a.toNat) (s.ctx.fp (scalarFmt f) b.toNat)))

/-- FEQ: 1 if a = b, else 0; NV for a signalling NaN (04_context R129). -/
def execFeq (d a b : BitVec 5) (f : BitVec 2) (s : State) : Host.Outcome State Fault Refusal :=
  let x := decodeFloat (scalarFmt f) (s.ctx.fp (scalarFmt f) a.toNat)
  let y := decodeFloat (scalarFmt f) (s.ctx.fp (scalarFmt f) b.toNat)
  .next (s.fpFlag d.toNat (!x.isNan && !y.isNan && decide (x.cmp y = 0)) (snanCond x ||| snanCond y))

/-- FLT: 1 if a < b, else 0; NV for any NaN (04_context R129). -/
def execFlt (d a b : BitVec 5) (f : BitVec 2) (s : State) : Host.Outcome State Fault Refusal :=
  let x := decodeFloat (scalarFmt f) (s.ctx.fp (scalarFmt f) a.toNat)
  let y := decodeFloat (scalarFmt f) (s.ctx.fp (scalarFmt f) b.toNat)
  .next (s.fpFlag d.toNat (!x.isNan && !y.isNan && decide (x.cmp y < 0)) (orderedConds x y))

/-- FLE: 1 if a ≤ b, else 0; NV for any NaN (04_context R129). -/
def execFle (d a b : BitVec 5) (f : BitVec 2) (s : State) : Host.Outcome State Fault Refusal :=
  let x := decodeFloat (scalarFmt f) (s.ctx.fp (scalarFmt f) a.toNat)
  let y := decodeFloat (scalarFmt f) (s.ctx.fp (scalarFmt f) b.toNat)
  .next (s.fpFlag d.toNat (!x.isNan && !y.isNan && decide (x.cmp y ≤ 0)) (orderedConds x y))

/-- FCLASS: the class mask (04_context R129). -/
def execFclass (d a : BitVec 5) (f : BitVec 2) (s : State) : Host.Outcome State Fault Refusal :=
  .next (s.put d.toNat (BitVec.ofNat 64 (classMask (scalarFmt f) (s.ctx.fp (scalarFmt f) a.toNat))))

/-- FSGNJ: a's magnitude with b's sign (04_context R129). -/
def execFsgnj (d a b : BitVec 5) (f : BitVec 2) (s : State) : Host.Outcome State Fault Refusal :=
  let x := s.ctx.fp (scalarFmt f) a.toNat
  let y := s.ctx.fp (scalarFmt f) b.toNat
  .next (s.put d.toNat (BitVec.ofNat 64 (withSignBit (scalarFmt f) x (signBit (scalarFmt f) y))))

/-- FSGNJN: a's magnitude with b's sign inverted (04_context R129). -/
def execFsgnjn (d a b : BitVec 5) (f : BitVec 2) (s : State) : Host.Outcome State Fault Refusal :=
  let x := s.ctx.fp (scalarFmt f) a.toNat
  let y := s.ctx.fp (scalarFmt f) b.toNat
  .next (s.put d.toNat (BitVec.ofNat 64 (withSignBit (scalarFmt f) x (!signBit (scalarFmt f) y))))

/-- FSGNJX: a's magnitude with the XOR of both signs (04_context R129). -/
def execFsgnjx (d a b : BitVec 5) (f : BitVec 2) (s : State) : Host.Outcome State Fault Refusal :=
  let x := s.ctx.fp (scalarFmt f) a.toNat
  let y := s.ctx.fp (scalarFmt f) b.toNat
  .next (s.put d.toNat (BitVec.ofNat 64 (withSignBit (scalarFmt f) x (signBit (scalarFmt f) x != signBit (scalarFmt f) y))))

/-- FCVT.FI: the signed integer of width w, rounded once into the format (04_context R130). -/
def execFcvtFi (d a : BitVec 5) (w : BitVec 2) (m : BitVec 3) (f : BitVec 2) (s : State) : Host.Outcome State Fault Refusal :=
  rounded m (wordsValue (.fcvtFi d a w m f)) s fun rm =>
    let i := toSigned (s.ctx.g a.toNat).toNat (scalarIntWidth w)
    s.fpPut d.toNat (roundVal (scalarFmt f) rm false (.fin (decide (i < 0)) i.natAbs 0))

/-- FCVT.FN: the unsigned integer of width w, rounded once into the format (04_context R130). -/
def execFcvtFn (d a : BitVec 5) (w : BitVec 2) (m : BitVec 3) (f : BitVec 2) (s : State) : Host.Outcome State Fault Refusal :=
  rounded m (wordsValue (.fcvtFn d a w m f)) s fun rm =>
    s.fpPut d.toNat (roundVal (scalarFmt f) rm false (.fin false ((s.ctx.g a.toNat).toNat % 2 ^ scalarIntWidth w) 0))

/-- FCVT.IF: the value rounded to a signed integer of width w, sign-extended (04_context R130). -/
def execFcvtIf (d a : BitVec 5) (w : BitVec 2) (m : BitVec 3) (f : BitVec 2) (s : State) : Host.Outcome State Fault Refusal :=
  rounded m (wordsValue (.fcvtIf d a w m f)) s fun rm =>
    let n := scalarIntWidth w
    let r := toInteger rm (-(2 ^ (n - 1) : Nat)) (((2 ^ (n - 1) : Nat) : Int) - 1) n
      (decodeFloat (scalarFmt f) (s.ctx.fp (scalarFmt f) a.toNat))
    s.fpEnd d.toNat (sext r.1 n) r.2

/-- FCVT.NF: the value rounded to an unsigned integer of width w, zero-extended (04_context R130). -/
def execFcvtNf (d a : BitVec 5) (w : BitVec 2) (m : BitVec 3) (f : BitVec 2) (s : State) : Host.Outcome State Fault Refusal :=
  rounded m (wordsValue (.fcvtNf d a w m f)) s fun rm =>
    let n := scalarIntWidth w
    let r := toInteger rm 0 (((2 ^ n : Nat) : Int) - 1) n (decodeFloat (scalarFmt f) (s.ctx.fp (scalarFmt f) a.toNat))
    s.fpEnd d.toNat (zext r.1 n) r.2

/-- FCVT.FF: from one floating-point format into another, rounded once (04_context R127, R130). -/
def execFcvtFf (d a : BitVec 5) (src : BitVec 2) (m : BitVec 3) (f : BitVec 2) (s : State) :
    Host.Outcome State Fault Refusal :=
  rounded m (wordsValue (.fcvtFf d a src m f)) s fun rm =>
    let v := decodeFloat (scalarFmt src) (s.ctx.fp (scalarFmt src) a.toNat)
    let r := roundVal (scalarFmt f) rm false v
    s.fpPut d.toNat (r.1, r.2 ||| snanCond v)

/-- FMA: a x b + c, rounded once (04_context R132). -/
def execFma (d a b c : BitVec 5) (f m : BitVec 2) (s : State) : Host.Outcome State Fault Refusal :=
  let k := scalarFmt f
  .next (s.fpPut d.toNat
    (floatFma k m.toNat false false false (s.ctx.fp k a.toNat) (s.ctx.fp k b.toNat) (s.ctx.fp k c.toNat)))

/-- FMS: a x b - c, rounded once (04_context R132). -/
def execFms (d a b c : BitVec 5) (f m : BitVec 2) (s : State) : Host.Outcome State Fault Refusal :=
  let k := scalarFmt f
  .next (s.fpPut d.toNat
    (floatFma k m.toNat false false true (s.ctx.fp k a.toNat) (s.ctx.fp k b.toNat) (s.ctx.fp k c.toNat)))

/-- FNMA: -(a x b) + c, rounded once (04_context R132). -/
def execFnma (d a b c : BitVec 5) (f m : BitVec 2) (s : State) : Host.Outcome State Fault Refusal :=
  let k := scalarFmt f
  .next (s.fpPut d.toNat
    (floatFma k m.toNat false true false (s.ctx.fp k a.toNat) (s.ctx.fp k b.toNat) (s.ctx.fp k c.toNat)))

/-- FNMS: -(a x b) - c, rounded once (04_context R132). -/
def execFnms (d a b c : BitVec 5) (f m : BitVec 2) (s : State) : Host.Outcome State Fault Refusal :=
  let k := scalarFmt f
  .next (s.fpPut d.toNat
    (floatFma k m.toNat false true true (s.ctx.fp k a.toNat) (s.ctx.fp k b.toNat) (s.ctx.fp k c.toNat)))

end Sys2Proof.Machine
end

