-- ==== Sys2Proof/Machine/Link.lean ====
section
/-! DEFINITION. Links, time and the outside world (16_link): link training (R398), the exchange of package time (R402-R406), the
host and its peers (R408-R414), the event ring (R415-R418), attestation (R420) and power (R419, 01_module R33). -/

namespace Sys2Proof.Machine

open Sys2Proof

/-! ### Links -/

/-- The state with a die's time unit changed. -/
def State.onTime (s : State) (die : Nat) (f : TimeUnit → TimeUnit) : State := s.onDie die fun d => { d with time := f d.time }

/-- The lowest enabled cluster of die 0 (16_link R419). -/
def State.firstCluster (s : State) : Nat := ((List.range Config.sites).find? fun c => s.enabled c).getD 0

/-- The release of the boot thread: thread 0 of core 0 of die 0's lowest enabled cluster, at PC 0; package time counts from here
(16_link R402, R405, R419). -/
def State.releaseBoot (s : State) : State :=
  let c := s.firstCluster
  let s1 := (List.range 8).foldl (fun a k => a.onCore (c * 8 + k) fun x => { x with released := some 0 }) s
  let s2 := ((s1.onCluster c fun x => { x with released := true }).mapDies fun d => { d with time := {} }).onTime 0 fun u =>
    { u with lock := .locked }
  { s2 with cur := ⟨c, 0, 0⟩, ctx := Thread.boot 0#64, now := 0 }

/-- Whether a link is there to act on: it exists, and the module is powered and its boot not failed (01_module R14, R33; 16_link
R419). -/
def State.linkLive (s : State) (l : Link) : Bool := linkReal l && s.pkg.boot != .off && s.pkg.boot != .bootFail

/-- Whether the link training of a boot is over: no link trains any more (16_link R419). -/
def State.trained (s : State) : Bool := s.pkg.boot == .training && !s.pkg.links.any fun p => p.2.state == .training

/-- After the last training of a boot: the boot image stands at physical address 0, and Roll Call's thread is released (16_link
R419; log entry 20). -/
def State.bootOn (s : State) : State := if s.trained then (s.releaseBoot).onPkg fun g => { g with boot := .rollCall } else s

/-- The end of a training attempt of a link: at full width its spares are there again (16_link R398). -/
def State.trainingEnds (s : State) (l : Link) (r : TrainingResult) : State :=
  let x := s.linkInfo l
  match r with
  | .full _ => (s.setLink l {}).reportLink l .up
  | .partialWidth _ => (s.setLink l { x with failedAttempts := 0 }).reportLink l .degraded
  | .failed =>
    let s1 := s.setLink l { x with failedAttempts := x.failedAttempts + 1 }
    if x.failedAttempts + 1 < 3 then s1 else s1.reportLink l .failed

/-- LINK_TRAINING_END: a training attempt of a link ends; the host link comes up in the mode of the result; with the last link of a boot
the Roll Call thread is released (16_link R398, R408, R419). -/
def execLinkTrainingEnd (l : Link) (r : TrainingResult) (s : State) : Host.Outcome State Fault Refusal :=
  .next (if s.linkLive l && s.linkState l == .training then
      ((if l = .host then s.onPkg fun g => { g with hostMode := r.mode.getD g.hostMode } else s).trainingEnds l r).bootOn
    else s)

/-- LINK_IDLE_TIMEOUT: a link that has accepted no flit for 4,096 cycles trains again (16_link R398). -/
def execLinkIdleTimeout (l : Link) (s : State) : Host.Outcome State Fault Refusal :=
  .next (if s.linkLive l && (s.linkState l == .up || s.linkState l == .degraded) then
      s.setLink l { s.linkInfo l with state := .training, failedAttempts := 0 }
    else s)

/-- LINK_MANAGEMENT_RESET: a FAILED link is DOWN, and a link that is DOWN trains (16_link R398). -/
def execLinkManagementReset (l : Link) (s : State) : Host.Outcome State Fault Refusal :=
  .next (if !s.linkLive l then s
    else
      match s.linkState l with
      | .down => s.setLink l { s.linkInfo l with state := .training, failedAttempts := 0 }
      | .failed => s.setLink l { s.linkInfo l with state := .down, failedAttempts := 0 }
      | _ => s)

/-! ### Package time -/

/-- A time unit changes its lock state, with event 0x0011 where it was or becomes LOCKED or UNLOCKED (16_link R405). -/
def State.setLock (s : State) (die : Nat) (l : Lock) (report : Bool) : State :=
  let s1 := s.onTime die fun u => { u with lock := l }
  if report then s1.postEvent die 0x11 (BitVec.ofNat 64 die) (BitVec.ofNat 64 l.code) else s1

/-- The dies whose parent is the die given (16_link R403). -/
def timeChildren (die : Nat) : List Nat := (List.range 24).filter fun d => d != 0 && timeParent d == die

/-- A unit that is not UNLOCKED becomes UNLOCKED, and with it the units below it (16_link R405). -/
def State.unlock (s : State) : Nat → Nat → State
  | 0, _ => s
  | n + 1, die =>
    if (s.die die).time.lock == .unlocked then s
    else (timeChildren die).foldl (fun a d => a.unlock n d) ((s.setLock die .unlocked true).onTime die fun u => { u with good := 0 })

/-- A difference of two PTIME values, modulo 2^64 and read as signed (16_link R402). -/
def timeDiff (a b : Nat) : Int := toSigned ((a + 2 ^ 64 - b % 2 ^ 64) % 2 ^ 64) 64

/-- SYNC_EXCHANGE_TIMER: the parent of a die sends SYNC and records t1, every 2,700 cycles (16_link R403). -/
def execSyncExchangeTimer (die : Nat) (s : State) : Host.Outcome State Fault Refusal :=
  let u := (s.die die).time
  .next (if 0 < die ∧ die < 24 ∧ u.t1.isNone ∧ u.exchangeAt + 2700 ≤ s.now then
      s.onTime die fun v => { v with t1 := some (s.ptime (timeParent die)), exchangeAt := s.now }
    else s)

/-- Whether a die's SYNC arrives now: sent, and passed by the links between the parent and the child (16_link R398, R403). -/
def State.syncDue (s : State) (die : Nat) : Bool :=
  (s.die die).time.t1.isSome && (s.die die).time.t2.isNone && s.dieOpen (timeParent die) die

/-- SYNC: the child records t2 (16_link R403). -/
def execSync (die : Nat) (s : State) : Host.Outcome State Fault Refusal :=
  .next (if s.syncDue die then s.onTime die fun v => { v with t2 := some (s.ptime die) } else s)

/-- Whether a die's FOLLOW-UP arrives now. -/
def State.followUpDue (s : State) (die : Nat) : Bool :=
  (s.die die).time.t2.isSome && (s.die die).time.t3.isNone && s.dieOpen (timeParent die) die

/-- FOLLOW_UP: the child learns t1 and sends DELAY-REQUEST, recording t3 (16_link R403). -/
def execFollowUp (die : Nat) (s : State) : Host.Outcome State Fault Refusal :=
  .next (if s.followUpDue die then s.onTime die fun v => { v with t3 := some (s.ptime die), followed := true } else s)

/-- Whether a die's DELAY-REQUEST arrives at its parent now. -/
def State.delayRequestDue (s : State) (die : Nat) : Bool :=
  (s.die die).time.t3.isSome && (s.die die).time.t4.isNone && s.dieOpen die (timeParent die)

/-- DELAY_REQUEST: the request reaches the parent, which records t4 (16_link R403). -/
def execDelayRequest (die : Nat) (s : State) : Host.Outcome State Fault Refusal :=
  .next (if s.delayRequestDue die then s.onTime die fun v => { v with t4 := some (s.ptime (timeParent die)) } else s)

/-- The offset of an exchange: the child's lead over its parent, rounded towards zero (16_link R403). -/
def exchangeOffset (t1 t2 t3 t4 : Nat) : Int := (timeDiff t2 t1 - timeDiff t4 t3).tdiv 2

/-- The delay of an exchange (16_link R403). -/
def exchangeDelay (t1 t2 t3 t4 : Nat) : Int := (timeDiff t2 t1 + timeDiff t4 t3).tdiv 2

/-- A unit corrected by an offset: a lead within 5,400 units is slewed, a larger one halves the increment, a larger lag is
stepped over (16_link R404). -/
def TimeUnit.correct (u : TimeUnit) (now : Nat) (offset : Int) : TimeUnit :=
  let settled := u.offset + leadLeft u (now - u.since) - offset
  let x := { u with since := now, lastOffset := offset.natAbs, missed := 0, t1 := none, t2 := none, t3 := none, t4 := none
                    followed := false, offset := settled }
  if offset.natAbs ≤ 5400 then { x with lead := offset, halved := false }
  else if offset < 0 then { x with lead := 0, halved := false }
  else { x with lead := offset, halved := true }

/-- The lock state after a completed exchange (16_link R405). -/
def State.relock (s : State) (die : Nat) (good : Bool) : State :=
  let u := (s.die die).time
  let n := if good then u.good + 1 else 0
  let s1 := s.onTime die fun v => { v with good := n }
  match u.lock with
  | .unlocked => s1.setLock die .locking false
  | .locking => if 8 ≤ n then s1.setLock die .locked true else s1
  | .locked => if good then s1 else s1.setLock die .locking true

/-- DELAY_RESPONSE: the child computes its offset, corrects its count and its lock state (16_link R403-R405). -/
def execDelayResponse (die : Nat) (s : State) : Host.Outcome State Fault Refusal :=
  let u := (s.die die).time
  match u.t1, u.t2, u.t3, u.t4 with
  | some t1, some t2, some t3, some t4 =>
    if !s.dieOpen (timeParent die) die then .next s
    else
    let offset := exchangeOffset t1 t2 t3 t4
    let good := decide (offset.natAbs ≤ 4096) && (s.die (timeParent die)).time.lock == .locked
    .next ((s.onTime die fun v => { v.correct s.now offset with delay := exchangeDelay t1 t2 t3 t4 }).relock die good)
  | _, _, _, _ => .next s

/-- SYNC_EXCHANGE_MISSED: an exchange of a die does not complete (16_link R405). -/
def execSyncExchangeMissed (die : Nat) (s : State) : Host.Outcome State Fault Refusal :=
  if die = 0 ∨ 24 ≤ die then .next s
  else
    let u := (s.die die).time
    let s1 := s.onTime die fun v =>
      { v with missed := v.missed + 1, good := 0, t1 := none, t2 := none, t3 := none, t4 := none, followed := false
               exchangeAt := s.now }
    .next (if 4 ≤ u.missed + 1 then s1.unlock 24 die
      else if u.lock == .locked then s1.setLock die .locking true
      else s1)

/-! ### The host and its peers -/

/-- The lines that n bytes from a location touch. -/
def linesOf (l n : Nat) : List Nat := if n = 0 then [] else (List.range ((l + n - 1) / 64 + 1 - l / 64)).map fun i => (l / 64 + i) * 64

/-- A write of committed data by an agent outside every kernel (16_link R410). -/
def State.outsideWrite (s : State) (l : Nat) (data : List Byte) : State :=
  let s1 := (linesOf l data.length).foldl (fun a k => (a.dropCached k).touchBank k) s
  (s1.storeBytes l data.length (leNat data)).wakeWatches l data.length 1

/-- A read of committed data by an agent outside every kernel: the bytes, and whether they are poisoned. -/
def State.outsideRead (s : State) (l n : Nat) : List Byte × Bool :=
  ((List.range n).map fun i => readPlaceByte s { loc := l + i } 0, s.readPoisoned { loc := l } n)

/-- What a read of n bytes from outside leaves: its banks' rows are open, and a poisoned one posts its event (15_page R389, R391). -/
def State.noteBad (s : State) (bad : Bool) (l n : Nat) : State :=
  let s1 := (linesOf l n).foldl State.touchBank s
  if bad then s1.errorAt l else s1

/-- A message to the outside recorded. -/
def State.report (s : State) (r : Report) : State := s.onPkg fun g => { g with reports := g.reports ++ [r] }

/-- Whether the host's decoders reach the n bytes from a device address: near below the draft region, or far (16_link
R409). -/
def State.decoderReaches (s : State) (a n : Nat) : Bool :=
  decide (a + n ≤ s.draftBase) || (physFar a && decide (a + n ≤ 0x40000000000))

/-- Whether the compute dies run: the module is powered and past its link training (01_module R33, 16_link R419). -/
def State.running (s : State) : Bool := s.pkg.boot == .rollCall || s.pkg.boot == .sealed

/-- Whether an access to device memory from outside over the links given, to the router of an I/O die, can be served now: the module runs,
no link of the way has FAILED or holds its traffic, nothing of it is frozen by a commit, and its memory is ready (16_link R398, R400, R401,
R410). -/
def State.outsideReady (s : State) (ls : List Link) (io l n : Nat) : Bool :=
  s.running && (ls.all fun k => s.linkState k != .failed && !s.linkHeld k) && !s.frozen l n &&
  (linesOf l n).all fun k => s.siteReady (ioSite io) k

/-- HOST_MEMORY_REQUEST: the host reads or writes device memory over CXL.mem; a read is of as many bytes as `data` has (16_link
R409, R410). A request that a commit, a link or a bank stalls has to be made again. -/
def execHostMemoryRequest (wr : Bool) (a : Nat) (data : List (BitVec 8)) (s : State) : Host.Outcome State Fault Refusal :=
  if !s.pkg.hostMode.isCxl || !s.decoderReaches a data.length || !s.outsideReady [.host, .ioDie 0] 0 a data.length then .next s
  else if wr then .next (s.outsideWrite a data)
  else
    let (b, bad) := s.outsideRead a data.length
    .next ((s.noteBad bad a data.length).report (.readData b bad))

/-- Every die's pending events posted as far as the ring takes them (16_link R418). -/
def State.drainAll (s : State) : State := (List.range 24).foldl (fun a d => a.drainEvents d) s

/-- The dies' watch on word 1 of the event ring's control block sees a write of n bytes of host memory over it: HEAD moves, and pending events
follow (16_link R418). -/
def State.seeHead (s : State) (l n : Nat) : State :=
  match s.pkg.ring with
  | none => s
  | some (base, _) =>
    if rangesMeet (Loc.host (base + 8)) 8 l n then
      (s.onPkg fun g => { g with ringHead := Memory.readNat (Loc.host (base + 8)) 8 s.mem }).drainAll
    else s

/-- HOST_LINE_SNOOP: the host writes bytes of its own memory; over CXL.cache the write reaches the device as a snoop, wakes
the watches of the line, and shows the home agents the TAILs and the dies the HEAD that it covers (14_barrier R371, 13_queue R344, 16_link
R418). -/
def execHostLineSnoop (a : Nat) (data : List (BitVec 8)) (s : State) : Host.Outcome State Fault Refusal :=
  let s1 := writeDirect s (Loc.host a) data.length (leNat data)
  .next (match s.snoops with
    | .seen => ((s1.wakeWatches (Loc.host a) data.length 1).seeTails (s.tailsAt (Loc.host a) data.length)).seeHead (Loc.host a) data.length
    | .unseen => s1
    | .held => s)

/-- Whether a peer window lies within the near or the far range (01_module R25, 16_link R414). -/
def windowInRange (w : PeerWindow) : Bool :=
  decide (w.base + w.length ≤ 0x14000000000) || (physFar w.base && decide (w.base + w.length ≤ 0x40000000000))

/-- Whether an endpoint's window admits n bytes at a device address (16_link R414). -/
def State.peerMay (s : State) (ep a n : Nat) (write read : Bool) : Bool :=
  match Table.find ep s.pkg.peerWindows with
  | some w => decide (w.base ≤ a) && decide (a + n ≤ w.base + w.length) && (!write || w.write) && (!read || w.read)
  | none => false

/-- The port by which an endpoint's request to a device address comes in: that of the formula for the requests that go out (16_link
R413; log entry 103). -/
def peerPort (ep a : Nat) : Nat := (ep + a / 2048) % 16

/-- Whether a peer's request to n bytes can be served now over its port (16_link R398, R400, R410, R414). -/
def State.peerReady (s : State) (ep a n : Nat) : Bool :=
  s.outsideReady [.port (peerPort ep a), .ioDie (peerPort ep a / 8)] (peerPort ep a / 8) a n

/-- PEER_REQUEST: a peer's request to device memory, checked against its window (16_link R414). A request that is stalled has to
be made again, and a module that does not run answers none. -/
def execPeerRequest (ep : Nat) (r : PeerRequest) (s : State) : Host.Outcome State Fault Refusal :=
  if !s.running then .next s
  else
    match r with
    | .read a n =>
      if !s.peerMay ep a n false true then .next (s.report .peerError)
      else if !s.peerReady ep a n then .next s
      else
        let (b, bad) := s.outsideRead a n
        .next ((s.noteBad bad a n).report (.readData b bad))
    | .write a data =>
      if !s.peerMay ep a data.length true false then .next (s.report .peerError)
      else if !s.peerReady ep a data.length then .next s
      else .next (s.outsideWrite a data)
    | .atomic op a double x c =>
      let n := if double then 8 else 4
      if !s.peerMay ep a n true true || a % n != 0 || decide (9 < op.toNat) then .next (s.report .peerError)
      else if !s.peerReady ep a n then .next s
      else
        let (b, bad) := s.outsideRead a n
        let old := leNat b
        let new := amoNew op.toNat (8 * n) old (x.toNat % 256 ^ n) (c.toNat % 256 ^ n)
        let s1 := match new with
          | some v => s.outsideWrite a ((List.range n).map fun i => BitVec.ofNat 8 (v / 256 ^ i))
          | none => s
        .next (if bad then (s.noteBad bad a n).report .peerError else (s1.noteBad false a n).report (.peerAnswer (BitVec.ofNat 64 old)))

/-! ### The event ring -/

/-- EVENT_RING_HEAD_MOVE: the host moves HEAD, and pending events follow (16_link R418). -/
def execEventRingHeadMove (h : BitVec 64) (s : State) : Host.Outcome State Fault Refusal :=
  .next (match s.pkg.ring with
    | none => s
    | some (base, _) =>
      (((writeDirect s (Loc.host (base + 8)) 8 h.toNat).wakeWatches (Loc.host (base + 8)) 8 1).onPkg fun g =>
        { g with ringHead := h.toNat }).drainAll)

/-- EVENT_RING_SETUP: the host sets the ring's base and its size of 2^k records; what was lost before is shown in its control
block (16_link R415, R418). -/
def execEventRingSetup (base k : Nat) (s : State) : Host.Outcome State Fault Refusal :=
  if base % 64 ≠ 0 ∨ k < 6 ∨ 24 < k ∨ s.pkg.boot = .off then .next s
  else
    let w (a : State) (i x : Nat) : State := writeDirect a (Loc.host (base + 8 * i)) 8 x
    let lost := s.lostCount
    let s1 := w (w (w (w s 0 0) 1 0) 2 (if lost = 0 then 0 else 1)) 3 lost
    .next (((s1.wakeWatches (Loc.host base) 64 1).onPkg fun g =>
      { g with ring := some (base, 2 ^ k), ringHead := 0, ringTail := 0, ringSeen := (0, lost), lost := 0 }).drainAll)

/-! ### Attestation and power -/

/-- SPDM_MEASUREMENT: measurement register i is reported under a signature (16_link R420, R421). In BOOTFAIL only the ROM's
measurement is. -/
def execSpdmMeasurement (i : Nat) (s : State) : Host.Outcome State Fault Refusal :=
  if i = 0 ∨ 6 < i ∨ s.pkg.boot = .off ∨ (s.pkg.boot = .bootFail ∧ i ≠ 1) then .next s
  else
    let r : Report := .measurement i (s.pkg.measurements.toArray.getD (i - 1) 0#256) (Config.spdmSignature s.pkg.signatures)
    .next ((s.report r).onPkg fun g => { g with signatures := g.signatures + 1 })

/-- The clusters that a Roll Call leaves out: those that a lasting fault has taken from service since the fuse map was made
(01_module R21). -/
def State.condemned (s : State) : List (Nat × Cluster) :=
  (s.clusters.filter fun p => p.2.outOfService || !p.2.inService).map fun p => (p.1, { inService := false })

/-- What outlives a loss of power: the memory of the host and the peers, the clusters to be fused, the model's own counter, and what is
on the agenda (01_module R33). -/
def State.cold (s : State) (boot : Boot) : State :=
  { cur := ⟨0, 0, 0⟩, ctx := {}, clusters := s.condemned, fresh := s.fresh, agenda := s.agenda
    mem := s.mem.filter fun c => Loc.isHost c.1 || Loc.isPeer c.1
    pkg := { boot := boot, reports := s.pkg.reports, signatures := s.pkg.signatures, hostMode := s.pkg.hostMode } }

/-- The clusters that this boot enables in place of newly fused ones (01_module R21; log entry 82). -/
def State.spares (s : State) : List Nat :=
  if s.newlyFused.isEmpty then []
  else ((List.range Config.dies).flatMap fun d => (List.range (s.siteBound d)).map fun i => d * Config.sites + i).filter fun c =>
    s.enabled c && !Config.enabled c

/-- The presence granule of an enabled cluster that the fuse map left out: FULL, with its die, row and column (16_link R422). -/
def State.markPresent (s : State) (c : Nat) : State :=
  let word := c / Config.sites * 512 + c % Config.sites / 16 * 16 + c % 16
  (writeDirect s (Loc.scratch c 0xFFFF0) 2 word).setFe (Loc.scratch c 0xFFFF0 / 16) true

/-- POWER_UP: the root of trust verifies the firmware bundle; with a good one every link of the module trains and the bundle's draft pool
size and its table of peer windows are applied, an entry beyond the near and far ranges left out, else the module is left in BOOTFAIL with
the cause and the ROM measurement reported (16_link R398, R414, R419; 01_module R25, R26). -/
def execPowerUp (b : BootImage) (s : State) : Host.Outcome State Fault Refusal :=
  .next (if s.pkg.boot != .off then s
    else
      match b with
      | .rejected cause => (s.cold .bootFail).report (.bootFail cause (Config.digest 1))
      | .accepted p windows =>
        let s1 := (s.cold .training).onPkg fun g => { g with
          draftPool := p.getD 8, peerWindows := windows.filter fun w => decide (w.1 < 1024) && windowInRange w.2
          links := allLinks.map fun l => (l, { state := .training }) }
        s1.spares.foldl State.markPresent s1)

/-- POWER_OFF: the module is off, with no standby state (01_module R33). -/
def execPowerOff (s : State) : Host.Outcome State Fault Refusal := .next (s.cold .off)

end Sys2Proof.Machine
end

