-- ==== Sys2Proof/Machine/Timetable.lean ====
section
/-! DEFINITION. The life of a kernel as the Timetable moves it: from QUEUED (12_kernel R304, R325), the dispatch scoreboard and
the ready queue (13_queue R347, R348), placement (06_group R158-R161; 09_tile R225), preparation (10_buffer R250, 04_context
R97), draft overflow (12_kernel R314), commit (R315-R317), the successor walk (13_queue R352), and abort with relaunch (12_kernel
R318, R319). -/

namespace Sys2Proof.Machine

open Sys2Proof

/-! ### From QUEUED -/

/-- Whether kernel k's launch is QUEUED by now: 16 cycles after its acceptance (12_kernel R325). -/
def State.launchDue (s : State) (k : Nat) : Bool := (s.kernel k).any fun x => x.state == .queued && decide (x.acceptedAt + 16 ≤ s.now)

/-- Kernel k is QUEUED: words 4 and 5 of its task control block are written, and it goes on to HELD, ARMED or READY; its launcher
no longer counts it (12_kernel R304, R325; 13_queue R350, R351). -/
def State.launchQueued (s : State) (k : Nat) : State :=
  match s.kernel k with
  | none => s
  | some x =>
    let s1 := (s.writeTcb k 4 (x.packetAt.getD 0#64)).writeTcb k 5 (handleOf k x)
    let s2 := if x.heldBack then s1.enterState k .held else s1.armOrReady k
    match x.launcher with
    | some t => s2.settleThread t
    | none => s2

/-- LAUNCH_QUEUED: kernel k's launch is QUEUED, when it is due (12_kernel R325). -/
def execLaunchQueued (k : Nat) (s : State) : Host.Outcome State Fault Refusal :=
  .next (if s.launchDue k then s.launchQueued k else s)

/-! ### The streams of a kernel -/

/-- The virtual pages of a stream. -/
def Stream.pages (m : Stream) : List Nat :=
  (List.range ((m.base + m.length - 1) / 65536 + 1 - m.base / 65536)).map fun i => (m.base / 65536 + i) * 65536

/-- The pages of a kernel's IN and INOUT streams. -/
def Kernel.inputPages (x : Kernel) : List Nat :=
  (x.streams.toList.filter fun m => m.role == 1 || m.role == 3).flatMap Stream.pages

/-- Whether an address is one that the page tables translate for a kernel: outside every window. -/
def State.isPage (s : State) (asid va : Nat) : Bool := decide (va < 2 ^ 55) && !(asid == 0 && !s.sealed)

/-- Whether a page of a stream is resident: NEAR, HOST, PEER or PINNED, or no page at all (13_queue R347 item 2). -/
def State.pageResident (s : State) (asid va : Nat) : Bool :=
  !s.isPage asid va ||
  match s.walk asid va with
  | .ok (_, leaf, _) => field leaf 9 8 != 1 || bit leaf 10
  | .error _ => false

/-- The first page of a kernel's inputs whose walk fails. -/
def State.missingPage (s : State) (x : Kernel) : Option Nat :=
  x.inputPages.find? fun va => s.isPage x.asid va && match s.walk x.asid va with
    | .ok _ => false
    | .error _ => true

/-- Whether the Timetable already awaits a walk or a fault's service for kernel k. -/
def State.residencyAsked (s : State) (k : Nat) : Bool :=
  s.dies.any fun p => (p.2.walks.any fun w => w.waiters.any fun x => x.who == .timetable k) ||
    p.2.faults.any fun f => f.waiters.contains (.timetable k)

/-- Whether the residency check of kernel k has a walk to ask for: a page that has no valid mapping (15_page R381). -/
def State.residencyFault (s : State) (k : Nat) (x : Kernel) : Option Nat :=
  if x.state == .ready && !s.residencyAsked k then s.missingPage x else none

/-! ### Placement -/

/-- The cores of a cluster, as keys. -/
def coresOf (cl : Nat) : List Nat := (List.range 8).map fun c => cl * 8 + c

/-- The units of a placement level in partition p, in order, each as its cores (06_group R158, R159). -/
def State.unitsOf (s : State) (p level : Nat) : List (List Nat) :=
  let cls := s.partClusters p
  match level with
  | 1 => (cls.flatMap coresOf).map fun k => [k]
  | 2 => cls.map coresOf
  | 3 => ((List.range Config.dies).map fun d => (cls.filter fun c => c / Config.sites == d).flatMap coresOf).filter fun u => !u.isEmpty
  | _ => if cls.isEmpty then [] else [cls.flatMap coresOf]

/-- Whether a thread slot is FREE; that of a boot thread is once the thread has ended and the plan is sealed (06_group R159; 16_link
R424). -/
def State.slotFree (s : State) (t : ThreadRef) : Bool :=
  (s.thread t).phase == .free ||
  (s.sealed && (s.thread t).phase == .retired && (s.thread t).kernel.isNone && s.threadIdle t)

/-- Whether a core is free: its four slots are FREE and no kernel that is being prepared holds it (06_group R159). -/
def State.coreFree (s : State) (k : Nat) : Bool :=
  ((List.range 4).all fun i => s.slotFree (slotRef k i)) && (s.kernelsOnCore k).isEmpty

/-- Whether a core-level run finds tile slots enough on each of its clusters, beside those promised: T x tpc for each core placed there
(09_tile R225). -/
def State.tilesFit (s : State) (word2 : Word) (run : List Nat) : Bool :=
  field word2 13 11 != 1 ||
  ((run.map fun k => k / 8).eraseDups).all fun cl =>
    decide (field word2 39 37 * tpcOf word2 * (run.filter fun k => k / 8 == cl).length + s.owedTiles cl ≤ s.bindable cl)

/-- The first run of n consecutive units whose cores satisfy a condition. -/
def firstRun (n : Nat) (ok : List Nat → Bool) : List (List Nat) → Option (List Nat)
  | [] => none
  | u :: us =>
    let run := (u :: us).take n
    if run.length = n ∧ ok run.flatten then some run.flatten else firstRun n ok us

/-- The first run of consecutive free units for a launch, as its cores in placement order (06_group R159, R161). -/
def State.placementFor (s : State) (p : Nat) (word2 : Word) : Option (List Nat) :=
  firstRun (field word2 31 14) (fun run => run.all s.coreFree && s.tilesFit word2 run) (s.unitsOf p (field word2 13 11))

/-! ### Tags and quotas -/

/-- Whether a kernel is placed and may be joined: in PLACING, RUNNING, DRAINING or DONE under a version tag. -/
def Kernel.joinable (x : Kernel) : Bool := x.tag.isSome && x.state.abortable

/-- The tag of the cohort that a transactional kernel joins, if it joins one: its parent's with COHORT = 1, else that of a
producer of one of its linked inputs (12_kernel R320). A producer in COMMITTING is not joined: its cohort has its commit sequence number
and every member DONE already (12_kernel R315; log entry 98). -/
def State.cohortTag (s : State) (k : Nat) (x : Kernel) : Option Nat :=
  let parent := if bit (x.word 2) 1 then (x.parent.bind s.kernel).bind fun y => if y.joinable then y.tag else none else none
  parent.or ((x.streams.toList.filter fun m => m.link && (m.role == 1 || m.role == 3)).findSome? fun m =>
    (s.producersOf k x.asid m).findSome? fun y => if y.2.1.joinable && y.2.1.txn then y.2.1.tag else none)

/-- The draft slots of each pool that a kernel reserves (12_kernel R314). -/
def Kernel.quota (x : Kernel) : Nat := 32 * field (x.word 3) 63 32

/-- Whether a kernel's quota can be reserved under a tag in every pool (12_kernel R314, R320). -/
def State.quotaFits (s : State) (tag : Nat) (x : Kernel) : Bool :=
  (List.range 8).all fun pool =>
    decide (max (s.linesIn tag pool) (s.reserved tag + x.quota) ≤ max (s.linesIn tag pool) (s.reserved tag) + s.freeSlots pool)

/-! ### The ready queue -/

/-- The cycles since a kernel last entered READY. -/
def State.readyFor (s : State) (x : Kernel) : Nat := s.now - x.readyAt

/-- The effective priority of a READY kernel (13_queue R348 item 1). -/
def State.effectivePrio (s : State) (x : Kernel) : Nat := min 7 (field (x.word 2) 10 8 + s.readyFor x / 2 ^ 20)

/-- The place of a READY kernel in its queue, as one number whose order is that of 13_queue R348: effective priority, ready
sequence number, task control block, handle. -/
def State.readyRank (s : State) (k : Nat) (x : Kernel) : Nat :=
  (7 - s.effectivePrio x) * 2 ^ 256 + x.readySeq * 2 ^ 128 + (x.word 6).toNat * 2 ^ 64 + (handleOf k x).toNat

/-- The kernels of partition p that the Timetable may dispatch: all READY ones, or only the first when that has waited 2^24 cycles
at priority 7 (13_queue R348). -/
def State.contenders (s : State) (p : Nat) : List (Nat × Kernel) :=
  let ready := s.kernels.filter fun q => q.2.state == .ready && q.2.part == p
  match leastBy (fun q => s.readyRank q.1 q.2) ready with
  | some q => if s.effectivePrio q.2 = 7 ∧ 2 ^ 24 ≤ s.readyFor q.2 then [q] else ready
  | none => []

/-- What a dispatch gives a kernel: its version tag, whether it is a new one, and its cores. -/
structure DispatchPlan where
  tag   : Option Nat
  fresh : Bool
  cores : List Nat
deriving DecidableEq, Repr

/-- The tag of a dispatch, none when none is free; no tag for a kernel that is no transaction (12_kernel R308, R320). -/
def State.planTag (s : State) (k : Nat) (x : Kernel) : Option (Option Nat × Bool) :=
  if !x.txn then some (none, false)
  else
    match s.cohortTag k x with
    | some v => some (some v, false)
    | none => s.pkg.freeTags.head?.map fun v => (some v, true)

/-- The dispatch scoreboard of kernel k: its plan when every condition of 13_queue R347 holds, and its residency check waits for no walk
and no fault's service (15_page R381). -/
def State.planOf (s : State) (k : Nat) (x : Kernel) : Option DispatchPlan :=
  if s.residencyAsked k || !(x.inputPages.all fun va => s.pageResident x.asid va) then none
  else
    (s.planTag k x).bind fun (tag, fresh) =>
      if tag.all fun v => s.quotaFits v x then
        (s.placementFor x.part (x.word 2)).map fun cores => { tag := tag, fresh := fresh, cores := cores }
      else none

/-- The kernel that partition p dispatches now, with its plan (13_queue R348). -/
def State.nextDispatch (s : State) (p : Nat) : Option (Nat × DispatchPlan) :=
  let spaced := (s.partition p).lastDispatch.all fun c => decide (c + 16 ≤ s.now)
  if !(s.sealed && (s.partition p).resident && (s.partition p).stopped.isEmpty && s.partEnabled p && spaced) then none
  else
    let able := (s.contenders p).filterMap fun q => (s.planOf q.1 q.2).map fun d => (s.readyRank q.1 q.2, q.1, d)
    (leastBy (fun a => a.1) able).map fun a => a.2

/-- The strip ranges of a placement: per die its first element and its end (12_kernel R306). -/
def Kernel.stripsFor (x : Kernel) (cores : List Nat) : List Strip :=
  let tpc := tpcOf (x.word 2)
  let total := max 1 (cores.length * tpc)
  let n := (x.word 1).toNat
  let dies := (cores.map fun k => k / 8 / Config.sites).eraseDups
  let start (d : Nat) : Nat :=
    x.block * (n * ((cores.filter fun k => decide (k / 8 / Config.sites < d)).length * tpc) / (total * x.block))
  let ends := (dies.drop 1).map start ++ [n]
  (dies.zip ends).map fun p => { die := p.1, c := start p.1, e := p.2 }

/-- Kernel k enters PLACING by a plan: its tag is taken, its dispatch sequence number assigned, its strips set (12_kernel R304,
R306, R308). -/
def State.dispatchKernel (s : State) (k : Nat) (d : DispatchPlan) : State :=
  match s.kernel k with
  | none => s
  | some x =>
    let s1 := s.onKernel k fun y => { y with
      tag := d.tag, dispatchSeq := s.pkg.dispatchSeq, cores := d.cores, strips := x.stripsFor d.cores, placedAt := s.now }
    let s2 := s1.onPkg fun g => { g with
      dispatchSeq := g.dispatchSeq + 1
      freeTags := if d.fresh then g.freeTags.drop 1 else g.freeTags }
    (s2.enterState k .placing).onPartition x.part fun p => { p with lastDispatch := some s.now }

/-- The READY kernel of partition p whose residency check asks for a walk next, with the page. -/
def State.residencyWalk (s : State) (p : Nat) : Option (Nat × Kernel × Nat) :=
  s.kernels.findSome? fun q => if q.2.part == p && (s.partition p).resident && s.sealed then
    (s.residencyFault q.1 q.2).map fun va => (q.1, q.2, va) else none

/-- Whether the Timetable can dispatch a kernel of partition p, or has a page's mapping to ask for. -/
def State.dispatchDue (s : State) (p : Nat) : Bool := (s.nextDispatch p).isSome || (s.residencyWalk p).isSome

/-- One decision of the Timetable for partition p: the dispatch of the first kernel whose scoreboard holds, else the walk of a page
that a READY kernel's residency check misses (13_queue R347, R348; 15_page R381). -/
def State.dispatchOne (s : State) (p : Nat) : State :=
  match s.nextDispatch p with
  | some (k, d) => s.dispatchKernel k d
  | none =>
    match s.residencyWalk p with
    | some (k, x, va) => s.startWalk (kernelDie k) x.asid { who := .timetable k, va := BitVec.ofNat 64 va }
    | none => s

/-- DISPATCH: a decision of the Timetable for partition p (13_queue R348). -/
def execDispatch (p : Nat) (s : State) : Host.Outcome State Fault Refusal := .next (if s.dispatchDue p then s.dispatchOne p else s)

/-! ### Residency -/

/-- The frame ring's HEAD, TAIL and SIZE (15_page R385, 16_link R423). -/
def State.frameRing (s : State) : Nat × Nat × Nat :=
  let a := s.pkg.frbase.toNat
  ((s.deviceWord a).toNat, (s.deviceWord (a + 8)).toNat, (s.deviceWord (a + 16)).toNat)

/-- The next near-tier frame of the ring; none when the ring is empty (15_page R385). -/
def State.nextFrame (s : State) : Option Nat :=
  let (head, tail, size) := s.frameRing
  if head = tail ∨ size = 0 then none else some (s.deviceWord (s.pkg.frbase.toNat + 64 + 8 * (head % size))).toNat

/-- Whether a migration of a page is queued or in progress. -/
def State.migrationAsked (s : State) (asid va : Nat) : Bool :=
  (s.pkg.migrations.flatMap fun p => p.2).any fun m => m.asid == asid && m.va / 65536 == va / 65536

/-- The first FAR page of a READY kernel's inputs that waits for a migration to start: its leaf's address and the leaf (13_queue
R347 item 2). -/
def State.farPage (s : State) (k : Nat) : Option (Nat × Nat × Nat × Word) :=
  (s.kernel k).bind fun x =>
    if x.state != .ready then none
    else x.inputPages.findSome? fun va =>
      if s.pageResident x.asid va || s.migrationAsked x.asid va then none
      else (s.migratable x.asid va).map fun l => (x.asid, va, l.1, l.2)

/-- Whether the Timetable starts a migration for kernel k now: a page, a frame and a place in its engine's queue (15_page
R385). -/
def State.residencyDue (s : State) (k : Nat) : Bool :=
  match s.farPage k, s.nextFrame with
  | some (_, _, _, leaf), some new => decide ((s.migrationsOf (migrationEngine (field leaf 51 16 * 65536) new)).length < 16)
  | _, _ => false

/-- The migration of kernel k's next FAR page handed to its engine, with the frame taken from the ring; a ring entry that is no
near-tier frame is passed over (15_page R385; log entry 43). -/
def State.residencyStart (s : State) (k : Nat) : State :=
  match s.farPage k, s.nextFrame with
  | some (asid, va, at0, leaf), some new =>
    let line := s.pkg.frbase.toNat
    let entry := line + 64 + 8 * (s.frameRing.1 % s.frameRing.2.2)
    let s1 := (((s.noteRead line 64).noteRead entry 8).dropCached line).writeWordAt { loc := line } 0 (BitVec.ofNat 64 (s.frameRing.1 + 1))
    if s.frameOk new && physNear new then
      s1.acceptMigration { asid := asid, va := va, leafAt := at0, old := field leaf 51 16 * 65536, new := new, leaf := leaf }
    else s1
  | _, _ => s

/-- RESIDENCY_MIGRATION_START: the Timetable starts a migration for READY kernel k (13_queue R347). -/
def execResidencyMigrationStart (k : Nat) (s : State) : Host.Outcome State Fault Refusal :=
  .next (if s.residencyDue k then s.residencyStart k else s)

/-! ### Preparation -/

/-- The n bytes of storage from a location on zeroed, every granule EMPTY, the copy-fault list empty; watches wake and waiting FE
requests are tried again (10_buffer R250, R254; 14_barrier R371). -/
def State.zeroStorage (s : State) (l n : Nat) : State :=
  let m := Memory.clear l n s.mem
  let s1 := { s with mem := if n = 2 ^ 20 then Memory.writeNat (l + 0xFFFF0) 0 16 m else m }
  let s2 := ((s1.emptyGranules l n).onStorage l fun x => { x with faults := [] }).wakeWatches l n 1
  (s2.storageAt l).waits.foldl (fun a w => State.feWake (w.loc / 16) 16 a) s2

/-- The context with which a kernel's thread number i leaves FREE (04_context R97, R103; 06_group R160; 12_kernel R302); the
debugger's settings stay with the slot. -/
def Kernel.context (x : Kernel) (k total i : Nat) (old : Thread) : Thread :=
  let t : Thread :=
    { phase := .ready, pc := x.word 0, kernel := some k, asid := BitVec.ofNat 16 x.asid, khandle := handleOf k x
      share := 32768 / tpcOf (x.word 2), vnreg := vregsOf (x.word 2)
      status := (old.status &&& 0x10#64) ||| (if x.asid = 0 then 8#64 else 0#64), dbgctl := old.dbgctl, nextSeq := old.nextSeq }
  (((((t.setG 4 (x.word 4)).setG 5 (x.word 1)).setG 6 (BitVec.ofNat 64 i)).setG 7 (BitVec.ofNat 64 total)).setG 8 (x.word 7)).setG 9
    (handleOf k x)

/-- The tiles of a thread bound, names 0 to n - 1 (09_tile R225, R226). -/
def State.bindTiles (s : State) (t : ThreadRef) (n : Nat) : State :=
  (List.range n).foldl (fun a name => (a.bindTile t name).getD a) s

/-- A core of a placement prepared: its local store zeroed, its trace restarted (10_buffer R250, 17_watch R425). -/
def State.prepareCore (s : State) (k : Nat) : State :=
  (s.zeroStorage (Loc.localStore k 0) 0x30000).onCore k fun c => { c with trace := [], trcpos := 0, trcctl := 1#64 }

/-- A cluster's scratchpad prepared: zeroed, its pairs unswapped and not FAILED (10_buffer R250, R266). -/
def State.prepareScratch (s : State) (c : Nat) : State :=
  (s.zeroStorage (Loc.scratch c 0) (2 ^ 20)).onCluster c fun x => { x with swap := 0#16, failedPairs := 0#16 }

/-- Whether a placement prepares whole clusters: at cluster, die and package level (10_buffer R250). -/
def Kernel.wholeClusters (x : Kernel) : Bool := decide (2 ≤ field (x.word 2) 13 11)

/-- Whether kernel k's units are prepared: zeroing takes 1,536 cycles, or 8,192 with scratchpads (10_buffer R250). -/
def State.prepareDue (s : State) (k : Nat) : Bool :=
  (s.kernel k).any fun x => x.state == .placing && (s.partition x.part).resident && (s.partition x.part).stopped.isEmpty &&
    decide (x.phaseAt + (if x.wholeClusters then 8192 else 1536) ≤ s.now)

/-- Kernel k's preparation ends: its storage is zeroed, its threads are READY, and it is RUNNING (12_kernel R304, 10_buffer
R250). -/
def State.prepare (s : State) (k : Nat) : State :=
  match s.kernel k with
  | none => s
  | some x =>
    let s1 := x.cores.foldl State.prepareCore s
    let s2 := if x.wholeClusters then
        ((x.cores.map fun c => c / 8).eraseDups).foldl State.prepareScratch s1
      else s1
    let ts := x.threads
    let s3 := ((List.range ts.length).zip ts).foldl (fun (a : State) p =>
      (a.onThread p.2 (x.context k ts.length p.1)).bindTiles p.2 (field (x.word 2) 39 37)) s2
    s3.enterState k .running

/-- PLACEMENT_PREPARED: the units of kernel k are prepared, when it is due (10_buffer R250). -/
def execPlacementPrepared (k : Nat) (s : State) : Host.Outcome State Fault Refusal :=
  .next (if s.prepareDue k then s.prepare k else s)

/-! ### Commit -/

/-- The kernels that commit or escalate with kernel k: every uncommitted kernel of its tag, or itself alone (12_kernel R320). -/
def State.cohort (s : State) (k : Nat) (x : Kernel) : List (Nat × Kernel) :=
  match x.tag with
  | some v => s.versionKernels v
  | none => [(k, x)]

/-- Whether every kernel before x in its stream, outside the cohort, has ended (12_kernel R315). -/
def State.streamClear (s : State) (members : List (Nat × Kernel)) (x : Kernel) : Bool :=
  match x.fromQueue with
  | none => true
  | some (q, n) => s.kernels.all fun p =>
      (match p.2.fromQueue with
        | some (r, m) => !(r == q && decide (m < n))
        | none => true) || p.2.state == .committed || p.2.state == .aborted || members.any fun y => y.1 == p.1

/-- Whether kernel k with its cohort may commit: every member is DONE and its stream is clear; a kernel whose partition is being
killed does not (12_kernel R315, 05_traps R150). -/
def State.commitReady (s : State) (k : Nat) (x : Kernel) : Bool :=
  let c := s.cohort k x
  c.all fun p => p.2.state == .done && s.streamClear c p.2 && (s.partition p.2.part).killed.isEmpty

/-- The kernel that the commit sequencer serves next: of those that may commit, the one that became DONE first, a cohort with its
last member (12_kernel R315). -/
def State.nextCommit (s : State) : Option (Nat × Kernel) :=
  let last (p : Nat × Kernel) : Nat := ((s.cohort p.1 p.2).map fun q => q.2.doneSeq).foldl max 0
  leastBy last (s.kernels.filter fun p => p.2.state == .done && s.commitReady p.1 p.2)

/-- Whether the commit of kernel k starts now. -/
def State.commitDue (s : State) (k : Nat) : Bool := s.pkg.sequencer.isNone && s.nextCommit.any fun p => p.1 == k

/-- The granules of a version's uncommitted draft lines. -/
def State.granulesOfTag (s : State) (tag : Option Nat) : List Nat :=
  (s.pkg.drafts.filter fun d => some d.tag == tag && d.commit.isNone).map (·.granule)

/-- G: the most draft granules of a version that one near-tier die holds (12_kernel R316). -/
def State.mostGranules (s : State) (tag : Option Nat) : Nat :=
  ((List.range 8).map fun pool => ((s.granulesOfTag tag).filter fun g => poolOf (g * 256) == pool).length).foldl max 0

/-- Every cached copy of a granule under tag 0 invalidated; a dirty one is written back first (12_kernel R316 phase 1; 11_ordering
R274). -/
def State.dropClean (s : State) (gs : List Nat) : State :=
  let gone (e : CacheLine) : Bool := e.tag == 0 && gs.contains (e.line / 4)
  let dirty := (s.cores.flatMap fun p => p.2.dcache) ++ s.dies.flatMap fun p => p.2.cache
  (dirty.filter gone).foldl State.writeHome (s.mapCaches fun c => c.filter fun e => !gone e)

/-- The start of kernel k's commit: the next commit sequence number, COMMITTING, the version's granules frozen (12_kernel R315,
R316). -/
def State.commitStart (s : State) (k : Nat) : State :=
  match s.kernel k with
  | none => s
  | some x =>
    let csn := s.pkg.commitSeq
    let s1 := s.onPkg fun g => { g with sequencer := some k, commitSeq := csn + 1 }
    ((s.cohort k x).foldl (fun a p => (a.onKernel p.1 fun y => { y with csn := csn }).enterState p.1 .committing) s1).dropClean
      (s.granulesOfTag x.tag)

/-- COMMIT_START: the commit of kernel k starts, when the sequencer serves it (12_kernel R315). -/
def execCommitStart (k : Nat) (s : State) : Host.Outcome State Fault Refusal :=
  .next (if s.commitDue k then s.commitStart k else s)

/-- A version's cached lines under tag 0, or invalidated without write-back (12_kernel R312). -/
def State.retag (s : State) (v : Nat) (keep : Bool) : State :=
  s.mapCaches fun c => (c.filter fun e => keep || e.tag != v).map fun e => if e.tag = v then { e with tag := 0 } else e

/-- A tag freed when no draft line carries it (12_kernel R308). -/
def State.freeTag (s : State) (v : Nat) : State :=
  if s.pkg.drafts.any fun d => d.tag == v then s else s.onPkg fun g => { g with freeTags := insertNat v g.freeTags }

/-- The draft lines of a version flipped to committed under a commit sequence number, with a new tag; its cached lines take tag 0;
the watches on its bytes wake (12_kernel R312, R316; 14_barrier R371). -/
def State.commitLines (s : State) (v csn newTag : Nat) : State :=
  let mine (d : DraftLine) : Bool := d.tag == v && d.commit.isNone
  let lines := s.pkg.drafts.filter mine
  let s1 := (s.onPkg fun g => { g with
    drafts := g.drafts.map fun d => if mine d then { d with commit := some csn, tag := newTag } else d }).retag v true
  (lines.flatMap fun d => d.bytes.map fun b => d.granule * 256 + b.1).foldl (fun a l => a.wakeWatches l 1 1) s1

/-- The children of an ended or committed parent: those that are HELD go on, under one ready sequence number, but for those that the
debugger holds (12_kernel R304, R322; 13_queue R348; 17_watch R433). -/
def State.releaseChildren (s : State) (k : Nat) : State :=
  let held := s.kernels.filter fun p => p.2.parent == some k && p.2.state == .held && !p.2.holdDebug
  let s1 := s.kernels.foldl (fun (a : State) p =>
    if p.2.parent == some k then a.onKernel p.1 fun y => { y with parent := none } else a) s
  if held.isEmpty then s1
  else
    let n := s1.takeReadySeq.1
    held.foldl (fun (a : State) p =>
      match a.tcbOf p.2 with
      | some q => if a.blockWordAt q 1 ≠ 0#64 then a.enterState p.1 .armed else a.enterReady p.1 n
      | none => a.enterReady p.1 n) s1.takeReadySeq.2

/-- One member of a commit is COMMITTED: word 7 of its task control block, its event, its children, and the walk of its successors
to come (12_kernel R304, R322; 13_queue R351, R352). DESIGN CHOICE: the children of each member take a ready number of their own, member by
member, and only those of one member share one; R348 leaves open whether those of one cohort share it (log entry 72). -/
def State.commitMember (s : State) (k csn : Nat) : State :=
  match s.kernel k with
  | none => s
  | some x =>
    let walks := (s.tcbOf x).any fun p => s.blockWordAt p 3 != 0#64
    let s1 := (s.writeTcb k 7 (BitVec.ofNat 64 csn)).enterState k .committed
    let s2 := s1.onKernel k fun y => { y with tag := none, walkNext := if walks then some 0 else none, walkSeq := 0 }
    ((s2.noteKernelEnded k).postEvent (kernelDie k) 1 (handleOf k x) (BitVec.ofNat 64 csn)).releaseChildren k

/-- Whether phase 2 of the commit in progress has ended: 40 cycles after its start without drafts, else 1,500 and one for every 16
granules of the fullest die (12_kernel R316). -/
def State.commitEndDue (s : State) : Bool :=
  match s.pkg.sequencer.bind s.kernel with
  | some x =>
    let g := s.mostGranules x.tag
    x.state == .committing && decide (x.phaseAt + (if g = 0 then 40 else 1500 + ceilDiv g 16) ≤ s.now)
  | none => false

/-- The end of phase 2 of the commit in progress: the linearisation point (12_kernel R316). -/
def State.commitEnd (s : State) : State :=
  match s.pkg.sequencer.bind fun k => (s.kernel k).map fun x => (k, x) with
  | none => s
  | some (k, x) =>
    let members := s.cohort k x
    let s1 := match x.tag with
      | some v => s.commitLines v x.csn v
      | none => s
    let s2 := members.foldl (fun a p => a.commitMember p.1 x.csn) (s1.onPkg fun g => { g with sequencer := none })
    match x.tag with
    | some v => s2.freeTag v
    | none => s2

/-- COMMIT_PHASE2_END: the commit in progress ends, when it is due (12_kernel R316). -/
def execCommitPhase2End (s : State) : Host.Outcome State Fault Refusal := .next (if s.commitEndDue then s.commitEnd else s)

/-- DRAFT_FOLD: the channel of a granule folds the granule's oldest committed line, if there is one (12_kernel R317). -/
def execDraftFold (g : Nat) (s : State) : Host.Outcome State Fault Refusal := .next (s.foldLine g)

/-! ### The successor walk -/

/-- The kernel whose control block a walk has brought to count 0 is READY under the walk's ready sequence number, taken at the first
one (13_queue R352). -/
def State.walkReady (s : State) (k : Nat) (p : Place) : State :=
  match s.kernelByHandle (s.blockWordAt p 5) with
  | some (j, y) =>
    if y.state == .armed then
      let seq := ((s.kernel k).map (·.walkSeq)).getD 0
      if seq = 0 then
        (s.takeReadySeq.2.enterReady j s.takeReadySeq.1).onKernel k fun x => { x with walkSeq := s.takeReadySeq.1 }
      else s.enterReady j seq
    else s
  | none => s

/-- The effect of TDEP on a control block, by the walk of kernel k (13_queue R352, 12_kernel R327). -/
def State.walkTask (s : State) (k : Nat) (p : Place) : State :=
  let old := readPlace s { p with draft := none } 0 16
  match (HomeOp.tdep.apply old).write with
  | none => s
  | some w =>
    let s1 := (((s.noteRead p.loc 64).dropCached p.loc).storeBytes p.loc 16 w).wakeWatches p.loc 16 1
    if old / 2 ^ 64 = 1 then s1.walkReady k p else s1

/-- One entry of kernel k's successor list: 0 is passed over, an entry that names no control block is reported, any other receives
the effect of TDEP (13_queue R352). -/
def State.walkEntry (s : State) (k : Nat) (x : Kernel) (entry : Option Word) : State :=
  match entry with
  | none => s.postEvent (kernelDie k) 5 (x.word 6) 0#64
  | some e =>
    if e = 0#64 then s
    else
      match s.tcbPlace x.asid e with
      | none => s.postEvent (kernelDie k) 5 (x.word 6) e
      | some p => s.walkTask k p

/-- Whether kernel k's successor walk has a step to make: nothing freezes the entry that it reads next (12_kernel R316). -/
def State.walkStepDue (s : State) (k : Nat) : Bool :=
  (s.kernel k).any fun x => x.walkNext.any fun i =>
    !((s.tcbOf x).any fun p => s.frozenAt x.asid (s.blockWordAt p 2 + BitVec.ofNat 64 (8 * i)))

/-- The next step of kernel k's successor walk (13_queue R352). -/
def State.walkStep (s : State) (k : Nat) : State :=
  match s.kernel k with
  | none => s
  | some x =>
    match x.walkNext, s.tcbOf x with
    | some i, some p =>
      let n := min (s.blockWordAt p 3).toNat 4096
      if n ≤ i then s.onKernel k fun y => { y with walkNext := none }
      else
        let at0 := s.devicePlace x.asid false (s.blockWordAt p 2 + BitVec.ofNat 64 (8 * i))
        let s1 := at0.elim s fun q => s.noteRead q.loc 8
        (s1.walkEntry k x (at0.map fun q => s.blockWordAt q 0)).onKernel k fun y =>
          { y with walkNext := if i + 1 < n then some (i + 1) else none }
    | _, _ => s.onKernel k fun y => { y with walkNext := none }

/-- SUCCESSOR_WALK_STEP: a step of kernel k's successor walk (13_queue R352). -/
def execSuccessorWalkStep (k : Nat) (s : State) : Host.Outcome State Fault Refusal :=
  .next (if s.walkStepDue k then s.walkStep k else s)

/-! ### The end of an abort -/

/-- Whether a kernel's abort is retried: a transaction that has not escalated, not cancelled, for a retryable cause, with a relaunch
left when the cause counts (12_kernel R304, R318). -/
def Kernel.retried (x : Kernel) : Bool :=
  x.txn && !x.escalated && !x.cancelled && x.status != statusParent && (x.status == 0x40 || decide (x.retries < field (x.word 2) 7 5))

/-- Whether an aborting kernel may leave ABORTING: a relaunch after CONFLICT waits for the older kernel to leave DONE, COMMITTING and
every running state (12_kernel R304). -/
def State.mayLeave (s : State) (x : Kernel) : Bool :=
  !(x.retried && x.status == 0x40 && (x.behind.bind s.kernel).any fun y =>
    y.state == .placing || y.state == .running || y.state == .draining || y.state == .done || y.state == .committing)

/-- Whether the writes of kernel k that were not drafts have all been performed: an abort keeps them (12_kernel R319). -/
def State.keptPerformed (s : State) (k : Nat) (x : Kernel) : Bool :=
  x.threads.all fun t => (s.thread t).kernel != some k || (s.thread t).stores.isEmpty

/-- Whether kernel k's discard ends now, or with its discard over it may leave ABORTING: once the writes that the abort keeps are performed,
and no commit freezes what its end reads (12_kernel R316, R319). -/
def State.discardDue (s : State) (k : Nat) : Bool :=
  (s.kernel k).any fun x => x.state == .aborting && decide (x.phaseAt + 200 + ceilDiv (s.mostGranules x.tag) 64 ≤ s.now) &&
    (x.tag.isSome || (s.mayLeave x && s.keptPerformed k x && !s.blockFrozen x))

/-- The draft lines of kernel k's version and its cached lines discarded; the tag is free when no other kernel of the cohort is
still in its discard (12_kernel R319). -/
def State.discard (s : State) (k v : Nat) : State :=
  let s1 := (s.onPkg fun g => { g with drafts := g.drafts.filter fun d => !(d.tag == v && d.commit.isNone) }).retag v false
  let s2 := s1.onKernel k fun x => { x with tag := none }
  if (s2.versionKernels v).isEmpty then s2.freeTag v else s2

/-- Kernel k goes back to READY for its next attempt (12_kernel R304, R319). -/
def State.relaunch (s : State) (k : Nat) : State :=
  let s1 := s.onKernel k fun x => { x with
    attempts := x.attempts + 1, retries := if x.status = 0x40 then x.retries else x.retries + 1
    cores := [], strips := [], tag := none, overflow := [], behind := none
    streams := x.streams.map fun m => { m with mark := 0 } }
  s1.takeReadySeq.2.enterReady k s1.takeReadySeq.1

/-- Kernel k leaves ABORTING: its slots are returned, and it is READY again or ABORTED (12_kernel R304, R318; 13_queue R351). -/
def State.leaveAborting (s : State) (k : Nat) (x : Kernel) : State :=
  let s1 := s.freeSlotsOf k x
  if x.retried then s1.relaunch k
  else if x.cancelled then (s1.endKernel k x.status true).endCancelled k
  else s1.endFaulted k x.status

/-- The end of kernel k's discard, and its leaving of ABORTING when nothing holds it (12_kernel R319). -/
def State.discardEnd (s : State) (k : Nat) : State :=
  match s.kernel k with
  | none => s
  | some x =>
    let s1 := match x.tag with
      | some v => s.discard k v
      | none => s
    if s1.mayLeave x && s1.keptPerformed k x && !s1.blockFrozen x then s1.leaveAborting k x else s1

/-- ABORT_DISCARD_END: the discard of kernel k ends, when it is due (12_kernel R319). -/
def execAbortDiscardEnd (k : Nat) (s : State) : Host.Outcome State Fault Refusal :=
  .next (if s.discardDue k then s.discardEnd k else s)

/-! ### Draft overflow -/

/-- Whether kernel k has a draft write that finds no slot while no uncommitted kernel outside its version is older (12_kernel R314
items 2 and 3). -/
def State.overflowing (s : State) (k : Nat) (x : Kernel) : Bool :=
  match x.tag with
  | some v =>
    x.state.abortable &&
    (x.overflow.any fun pool => !(decide (s.linesIn v pool < s.reserved v) || decide (0 < s.freeSlots pool))) &&
    !(s.kernels.any fun p => p.2.state.uncommitted && p.2.tag != x.tag && decide (p.2.dispatchSeq < x.dispatchSeq) && p.1 != k)
  | none => false

/-- Whether an overflowing kernel's version is the only uncommitted one of its partition (12_kernel R314 item 4). -/
def State.aloneInPartition (s : State) (k : Nat) (x : Kernel) : Bool :=
  !(s.kernels.any fun p => p.1 != k && p.2.part == x.part && p.2.state.uncommitted && p.2.tag != x.tag)

/-- Whether kernel k's overflow is acted on now: an abort, or its escalation (12_kernel R314). -/
def State.escalationDue (s : State) (k : Nat) : Bool :=
  (s.kernel k).any fun x => s.overflowing k x && (!bit (x.word 2) 2 || (s.aloneInPartition k x && s.pkg.sequencer.isNone))

/-- A place without a version. -/
def Place.direct_ (p : Place) (v : Nat) : Place := if p.draft = some v then { p with draft := none } else p

/-- A thread's outstanding accesses under a version made direct. -/
def Thread.undraft (t : Thread) (v : Nat) : Thread :=
  { t with loads := t.loads.map fun l => { l with place := l.place.direct_ v }
           stores := t.stores.map fun w => { w with place := w.place.direct_ v } }

/-- A tile command under a version made direct. -/
def TCmd.undraft (x : TCmd) (v : Nat) : TCmd := { x with pieces := x.pieces.map fun p => p.direct_ v }

/-- A core's queued tile commands under a version made direct. -/
def Core.undraft (c : Core) (v : Nat) : Core := { c with tileQ := c.tileQ.map fun x => x.undraft v }

/-- Every outstanding access of the module under a version made direct (12_kernel R314 item 4). -/
def State.undraft (s : State) (v : Nat) : State :=
  { s with
    ctx := s.ctx.undraft v
    others := s.others.map fun p => (p.1, p.2.undraft v)
    cores := s.cores.map fun p => (p.1, p.2.undraft v)
    clusters := s.clusters.map fun p => (p.1, { p.2 with matrix := p.2.matrix.map fun m => (m.1, m.2.undraft v) })
    pkg := { s.pkg with partitions := s.pkg.partitions.map fun p => (p.1, { p.2 with
      savedThreads := p.2.savedThreads.map fun q => (q.1, q.2.undraft v)
      savedCores := p.2.savedCores.map fun q => (q.1, q.2.undraft v) }) } }

/-- Kernel k escalates: its drafts commit at once under the next commit sequence number, it takes tag 0, and every later write of
its version is direct (12_kernel R314 item 4). -/
def State.escalate (s : State) (k : Nat) (x : Kernel) : State :=
  match x.tag with
  | none => s
  | some v =>
    let s1 := (s.onPkg fun g => { g with commitSeq := g.commitSeq + 1 }).commitLines v s.pkg.commitSeq v
    let s2 := (s.cohort k x).foldl (fun (a : State) p =>
      a.onKernel p.1 fun y => { y with escalated := true, tag := none, overflow := [] }) s1
    (s2.undraft v).freeTag v

/-- The action on kernel k's draft overflow: DRAFTOVERFLOW without ESCALATE, else the escalation (12_kernel R314). -/
def State.overflowAct (s : State) (k : Nat) : State :=
  match s.kernel k with
  | none => s
  | some x => if bit (x.word 2) 2 then s.escalate k x else s.abortKernel k 0x41 false

/-- DRAFT_ESCALATION: kernel k's draft overflow is acted on, when it is due (12_kernel R314). -/
def execDraftEscalation (k : Nat) (s : State) : Host.Outcome State Fault Refusal :=
  .next (if s.escalationDue k then s.overflowAct k else s)

/-! ### The kernel table -/

/-- Whether entry k becomes free: its kernel has ended 2^24 cycles ago and walks no successors (12_kernel R301). -/
def State.releaseDue (s : State) (k : Nat) : Bool :=
  (s.kernel k).any fun x => (x.state == .committed || x.state == .aborted) && x.walkNext.isNone && !x.released && decide (x.phaseAt + 2 ^ 24 ≤ s.now)

/-- KERNEL_ENTRY_RELEASE: entry k of the kernel table becomes free, when it is due; its handle names the kernel until the entry is
given to a new launch (12_kernel R301, R328). -/
def execKernelEntryRelease (k : Nat) (s : State) : Host.Outcome State Fault Refusal :=
  .next (if s.releaseDue k then s.onKernel k fun x => { x with released := true } else s)

end Sys2Proof.Machine
end

