-- ==== Sys2Proof/Machine/Switch.lean ====
section
/-! DEFINITION. Partitions and the gang switch: the Timetable's decisions (13_queue R345, R346; 21_prog_switch R449), the bell and
what stops at it (05_traps R140-R144), saving and restoring (R145-R149, kept as structured state), the resume bell (R149), and a
partition's kill (R150). -/

namespace Sys2Proof.Machine

open Sys2Proof

/-! ### Partitions -/

/-- The Timetable's write of a partition's STATE (13_queue R345). -/
def State.writePartState (s : State) (p v : Nat) : State :=
  let a := (s.pkg.ptbase.toNat + 32 * p + 16) % 2 ^ 60
  (s.dropCached a).writeWordAt { loc := a } 0 (BitVec.ofNat 64 v)

/-- Whether the cluster runs of two partitions share a cluster (13_queue R346). -/
def State.partsOverlap (s : State) (p q : Nat) : Bool :=
  decide ((s.partRun p).1 < (s.partRun q).1 + (s.partRun q).2) && decide ((s.partRun q).1 < (s.partRun p).1 + (s.partRun p).2)

/-- The partition to which a stopped cluster c of logical number l belongs, among the partitions with their runs: while one that holds it
is resident, that one if its bell has stopped the cluster already, else the first that a bell has stopped (05_traps R143, 21_prog_switch
R449). -/
def outOf (runs : List (Nat × Partition × Nat × Nat)) (c l : Nat) : Option Nat :=
  let mine := runs.filter fun q => decide (q.2.2.1 ≤ l) && decide (l < q.2.2.1 + q.2.2.2)
  match mine.find? fun q => q.2.1.resident with
  | some q => if q.2.1.stopped.contains c then some q.1 else none
  | none => (mine.find? fun q => q.2.1.switched).map (·.1)

/-- The clusters of partition p know again whether they are stopped. -/
def State.refreshOut (s : State) (p : Nat) : State :=
  let runs := s.pkg.partitions.map fun q => (q.1, q.2, s.partRun q.1)
  (s.partClusters p).foldl (fun a c =>
    let o := outOf runs c (s.logicalOf c)
    if (s.cluster c).switchedOut = o then a else a.onCluster c fun x => { x with switchedOut := o }) s

/-- The die of a partition's agent: that of its first in-service cluster (05_traps R142). -/
def State.agentDie (s : State) (p : Nat) : Nat := ((s.partClusters p).head?.getD 0) / Config.sites

/-- Whether the time units of all dies of a partition are LOCKED (05_traps R142). -/
def State.partLocked (s : State) (p : Nat) : Bool :=
  (s.partClusters p).all fun c => (s.die (c / Config.sites)).time.lock == .locked

/-- Whether a partition holds a kernel in one of the states given. -/
def State.holds (s : State) (p : Nat) (f : KState → Bool) : Bool := s.kernels.any fun q => q.2.part == p && f q.2.state

/-- The states that keep a partition from being idle (13_queue R346). -/
def KState.busy : KState → Bool
  | .placing | .running | .draining | .done => true
  | _ => false

/-- Whether a partition holds no kernel in PLACING, RUNNING, DRAINING or DONE (13_queue R346). -/
def State.partIdle (s : State) (p : Nat) : Bool := !s.holds p KState.busy

/-- Whether a partition is between its bell and its last save unit, or between its first restore unit and its resume bell. -/
def Partition.inTransit (x : Partition) : Bool := !x.toSave.isEmpty || !x.toRestore.isEmpty || x.resumeBell.isSome

/-- Whether a partition waits to be resident: it holds a READY kernel, or it was switched out with a placed one (13_queue R346,
21_prog_switch R452). -/
def State.partWaits (s : State) (p : Nat) : Bool :=
  let x := s.partition p
  decide (p < 64) && s.sealed && s.partEnabled p && !x.resident && !x.inTransit &&
    (s.holds p (fun k => k == .ready) || (x.switched && s.holds p KState.busy))

/-- The partitions that hold clusters of partition p now. -/
def State.blockers (s : State) (p : Nat) : List Nat :=
  (s.pkg.partitions.filter fun q => q.1 != p && (q.2.resident || q.2.inTransit) && s.partsOverlap p q.1).map (·.1)

/-- Whether a resident partition gives way: its slice has elapsed, or it is idle (13_queue R346). -/
def State.givesWay (s : State) (r : Nat) : Bool :=
  let slice := (s.ptWord r 1).toNat
  s.partIdle r || (slice != 0 && decide ((s.partition r).since + slice ≤ s.now) && s.partLocked r)

/-- The partition that follows one that gives way: the first waiting one that overlaps it, in ascending number from the one after it
(13_queue R346). -/
def State.nextWaiting (s : State) (r : Nat) : Option Nat :=
  ((List.range 64).map fun i => (r + 1 + i) % 64).find? fun q => q != r && s.partWaits q && s.partsOverlap q r

/-- Whether a waiting partition is the one that its turn names: the successor of an overlapping partition that has given way, its own
included, else the lowest waiting one among those that overlap it (13_queue R346). -/
def State.inTurn (s : State) (p : Nat) : Bool :=
  match s.pkg.partitions.find? fun q => (q.1 == p || s.partsOverlap p q.1) && q.2.successor.any s.partWaits with
  | some q => q.2.successor == some p
  | none => !((List.range p).any fun q => s.partWaits q && s.partsOverlap p q)

/-- Whether the slots that a switched partition resumes on are free: those of its saved threads, and those of its kernels in PLACING
(21_prog_switch R449). -/
def State.slotsBack (s : State) (p : Nat) : Bool :=
  ((s.partition p).savedThreads.all fun q => s.slotFree q.1) &&
  (s.kernels.filter fun q => q.2.part == p && q.2.state == .placing).all fun q =>
    q.2.cores.all fun k => (List.range 4).all fun i => s.slotFree (slotRef k i)

/-- The STATE that the Timetable owes a partition's entry: DISABLED once its ENABLE is clear and it holds nothing, IDLE once its ENABLE
is set again (13_queue R345; log entry 101). -/
def State.stateOwed (s : State) (p : Nat) : Option Nat :=
  let x := s.partition p
  if !decide (p < 64) || !s.sealed || x.inTransit || x.switched || x.bell.isSome then none
  else
    let now := field (s.ptWord p 2) 1 0
    if !s.partEnabled p then (if now != 0 && (!x.resident || s.partIdle p) then some 0 else none)
    else if now == 0 && !x.resident then some 3
    else none

/-- Whether the Timetable has a decision to make for partition p: a STATE that it owes, or its turn as a waiting one (13_queue R345,
R346). -/
def State.switchDue (s : State) (p : Nat) : Bool :=
  (s.stateOwed p).isSome ||
  s.partWaits p &&
  match s.blockers p with
  | [] => s.inTurn p && (!(s.partition p).switched || s.slotsBack p)
  | bs => (bs.all fun r => (s.partition r).resident && (s.partition r).bell.isNone && s.givesWay r) &&
      (bs.head?.bind s.nextWaiting) == some p

/-! ### Units of a switch -/

/-- The threads of a cluster that a bell stops: any but FREE and RETIRED (04_context R99). -/
def State.liveThreads (s : State) (c : Nat) : List ThreadRef :=
  (clusterSlots c).filter fun t => (s.thread t).phase != .free && (s.thread t).phase != .retired

/-- The save units of a cluster: its threads, its cores, itself (05_traps R148). -/
def State.unitsToSave (s : State) (c : Nat) : List SwitchUnit :=
  (s.liveThreads c).map SwitchUnit.thread ++ (List.range 8).map (SwitchUnit.core c) ++ [.cluster c]

/-- The restore units of a switched partition (05_traps R149). -/
def State.unitsToRestore (s : State) (p : Nat) : List SwitchUnit :=
  (s.partition p).savedThreads.map (fun q => SwitchUnit.thread q.1) ++
    (s.partClusters p).flatMap fun c => (List.range 8).map (SwitchUnit.core c) ++ [.cluster c]

/-! ### Decisions -/

/-- A partition is RESIDENT from now on. -/
def State.makeResident (s : State) (p : Nat) : State :=
  let s1 := s.onPkg fun g => { g with partitions := g.partitions.map fun q =>
    (q.1, if q.2.successor = some p then { q.2 with successor := none } else q.2) }
  ((s1.onPartition p fun x => { x with resident := true, switched := false, since := s.now, resumeBell := none, successor := none }).refreshOut
    p).writePartState p 1

/-- The resume of a switched partition begins: its restore units are to run (05_traps R149). -/
def State.startResume (s : State) (p : Nat) : State :=
  (s.onPartition p fun x => { x with toRestore := s.unitsToRestore p }).refreshOut p

/-- Waiting partition p takes its clusters: afresh, or by resuming. -/
def State.admitPartition (s : State) (p : Nat) : State := if (s.partition p).switched then s.startResume p else s.makeResident p

/-- An idle partition released at once (13_queue R346). -/
def State.releasePartition (s : State) (r : Nat) : State :=
  ((s.onPartition r fun x => { x with resident := false }).refreshOut r).writePartState r 3

/-- The lead of a bell in PTIME units: twice PTSKEW.BOUND and 190 ns (05_traps R142). -/
def State.bellLead (s : State) : Nat := 2 * s.skewBound + 190 * 65536

/-- A partition that gives way: released when idle, else given a bell (13_queue R346, 05_traps R142). -/
def State.giveWay (s : State) (p r : Nat) : State :=
  if s.partIdle r then s.releasePartition r
  else s.onPartition r fun x => { x with bell := some ((s.ptime (s.agentDie r) + s.bellLead) % 2 ^ 64), successor := some p }

/-- The Timetable's decision for partition p: the STATE it owes, or the turn of a waiting one (13_queue R345, R346). -/
def State.switchDecide (s : State) (p : Nat) : State :=
  match s.stateOwed p with
  | some v => ((s.onPartition p fun x => { x with resident := false }).refreshOut p).writePartState p v
  | none =>
    let s1 := (s.blockers p).foldl (fun a r => a.giveWay p r) s
    if (s1.blockers p).isEmpty && (!(s1.partition p).switched || s1.slotsBack p) then s1.admitPartition p else s1

/-- PARTITION_SWITCH_DECISION: the Timetable decides for waiting partition p, when it can (13_queue R346). -/
def execPartitionSwitchDecision (p : Nat) (s : State) : Host.Outcome State Fault Refusal :=
  .next (if s.switchDue p then s.switchDecide p else s)

/-! ### The bell -/

/-- A thread at the bell: SWITCHED with its state recorded; a blocking FE request, a vector instruction in its checks, a QPUSH that waits
and a YIELDW watch are withdrawn; a reduction is abandoned; a trap not yet delivered is not recorded, and its cause is met again after
the resume (05_traps R141, R143; 10_buffer R254; 14_barrier R371; 17_watch R429). -/
def Thread.atBell (t : Thread) : Thread :=
  { t with
    phase := .switched, bellPrior := t.phase, fetch := [], request := none, inTable := false, refused := none, checking := none
    reducing := none, pushing := none, owedTrap := none
    parkedAt := if t.parkFail then none else t.parkedAt
    parkFail := false
    yield := t.yield.map fun y => if y.watch.isSome && y.wake.isNone then { y with wake := some 3 } else y }

/-- The bits that a stopped instruction reads and writes only after the resume: those of its elements that no chunk has taken, and of a
whole-operand one all (05_traps R140). -/
def VCmd.resumeReads (c : VCmd) : List BitRange :=
  if c.op.whole then c.reads 0 c.limit else if c.next < c.limit then c.reads c.next c.limit else []
def VCmd.resumeWrites (c : VCmd) : List BitRange :=
  if c.op.whole then c.writes 0 c.limit else if c.next < c.limit then c.writes c.next c.limit else []

/-- Whether a dispatched chunk with elements a to b of an instruction has to wait for what an earlier instruction of its thread, or a tile
command, does only after the resume. -/
def State.awaitsResume (s : State) (k : Nat) (c : VCmd) (a b : Nat) : Bool :=
  let w := c.writes a b
  ((s.earlierCmds k c.slot c.seq).any fun e => rangesShare e.resumeReads w || rangesShare e.resumeWrites w ||
    (e.op.queue == c.op.queue && c.op.queue != 1 && !e.left && s.overlap (slotRef k c.slot) c e)) ||
  (s.queuedTiles k c.slot).any fun e => decide (e.seq < c.seq) && (rangesShare e.reads w || rangesShare e.writes w)

/-- An element-wise instruction at its element boundary: from the first chunk that has to wait for the resume on, its chunks are dropped and
dispatched again then, a load's data being fetched again (05_traps R140). -/
def State.boundary (s : State) (k : Nat) (c : VCmd) : State :=
  match (s.core k).commands.find? fun e => e.slot == c.slot && e.seq == c.seq with
  | none => s
  | some e =>
    match leastBy (fun p => p.1) (e.flight.filter fun p => s.awaitsResume k e p.1 p.2.1) with
    | none => s
    | some q => s.onCmd k e fun x => { x with next := q.1, left := false, flight := x.flight.filter fun p => decide (p.1 < q.1) }

/-- The vector instructions of a core at their element boundaries, each after those before it in program order (05_traps R140, R143). -/
def State.stopChunks (s : State) (k : Nat) : State :=
  (sortBy VCmd.seq (s.core k).commands).foldl (fun a c => a.boundary k c) s

/-- A queued vector instruction at the bell: a whole-operand one starts over, an element-wise one goes on from its next element
(05_traps R140, 08_vector_ops R205). -/
def VCmd.atBell (c : VCmd) : VCmd :=
  let d := { c with stalled := false }
  if c.op.whole then { d with started := false, next := c.vstart, left := false, sources := [], lanes := [(0, 0), (0, 0), (0, 0), (0, 0)] } else d

/-- An engine command that is not COMPLETE at the bell: SUSPENDED. A beat that is not at all its destinations keeps those that it has yet
to reach, and is read again for them (10_buffer R258, 05_traps R140). -/
def EngineCmd.atBell (e : EngineCmd) : EngineCmd :=
  if e.state == .complete then e else { e with state := .suspended, read := none, faultAt := none, failNext := false }

/-- Whether a beat that a command has read, or a frame whose output it has begun, is still on its way after the bell; one that waits for
the service of a fault has left its record and waits for the resume (05_traps R140, R143; 15_page R383). -/
def EngineCmd.underway (e : EngineCmd) : Bool :=
  e.faultAt.isNone && ((e.state == .running && e.read.isSome) || e.job.frame.isSome)

/-- The packets of a thread that stand between routers of its partition, with the clusters whose storage they go to (05_traps R143). -/
def State.heldPackets (s : State) (t : ThreadRef) : List (HeldPacket × Nat) :=
  let x := s.thread t
  let held (l seq : Nat) (store : Bool) : Option (HeldPacket × Nat) :=
    if s.heldByBell t.cluster l then some ({ thread := t, seq := seq, isStore := store }, clusterOfLoc l) else none
  (x.loads.filterMap fun l => held (s.locNow l.place) l.seq false) ++ x.stores.filterMap fun w => held (s.locNow w.place) w.seq true

/-- A tile command back at the head of its queue. -/
def State.requeueTile (s : State) (cl k : Nat) (c : TCmd) : State :=
  (s.onCluster cl fun y => { y with matrix := none }).onCore (cl * 8 + k) fun x => { x with tileQ := c :: x.tileQ }

/-- An update in the matrix unit at the bell: after a free number of slices it has completed, or it is queued again with the update
and slice it has reached; a trap is not recorded (05_traps R140, R141; 09_tile R240). -/
def State.stopUpdate (s : State) (cl k : Nat) (c : TCmd) : State :=
  let t := slotRef (cl * 8 + k) c.slot
  let u := c.run_ (Config.stopAfter s.fresh) (s.tileOf t c.ta)
  let s1 := ((s.setTileOf t c.ta u.tile).onThread t fun x => x.accrueT u.conds).draw
  match u.trap, u.rest with
  | some (n, p, _, _), _ => s1.requeueTile cl k { c with update := n, slice := p }
  | none, some (n, p) => s1.requeueTile cl k { c with update := n, slice := p }
  | none, none => (s1.releaseMatrix t (c.cyclesOf (4 * c.op.count - (4 * c.update + c.slice)))).tileDone t c

/-- The matrix unit at the bell: its command reaches its stop point (05_traps R140). -/
def State.stopMatrix (s : State) (cl : Nat) : State :=
  match (s.cluster cl).matrix with
  | none => s
  | some (k, c) =>
    let t := slotRef (cl * 8 + k) c.slot
    match c.op with
    | .mopa | .mops | .mopan | .mma16 | .mma16s => s.stopUpdate cl k c
    | _ =>
      if (c.op == .mprom && c.tie && (s.tileOf t c.ta).promotionFault.isSome) || !s.tileCompletes cl then s.requeueTile cl k c
      else
        let s1 := s.performTile t c
        match (s1.cluster cl).matrix with
        | some (_, d) => s1.requeueTile cl k d
        | none => s1

/-- The FE requests and watches of other clusters' threads that stand in a stopped storage: the requests issue again, the watches are
lost (05_traps R143; log entry 75). -/
def State.expelGuests (s : State) (x : Storage) : State :=
  let s1 := x.waits.foldl (fun a w => a.onThread w.thread fun t => { t with inTable := false }) s
  x.watches.foldl (fun a w => a.wakeThread w.1 3) s1

/-- The beats that a cluster's copies have read at the bell brought to the destinations that still wait (05_traps R143, 10_buffer R258). -/
def State.stopBeats (s : State) (c : Nat) : State :=
  ((s.cluster c).engine.filter fun e => e.isCopy && e.state == .running && e.read.isSome).foldl
    (fun (a : State) e => e.pending.foldl (fun (b : State) d => b.beatWrite c e.slot d) a) s

/-- The frame that a decode engine has in decode for a cluster at the bell, run to its end (05_traps R140, 10_buffer R272). -/
def State.stopFrame (s : State) (c e : Nat) : State :=
  let die := c / Config.sites
  match s.headJob die e with
  | some (cl, x) => if cl = c ∧ x.job.started then (s.frameEnd die e (frameResult s.fresh)).draw else s
  | none => s

/-- A cluster's jobs leave its die's decode engines, but for one whose frame still goes on. -/
def State.takeJobs (s : State) (c : Nat) : State :=
  let stays (j : Nat × Nat) : Bool := j.1 != c || (s.engineCmd j.1 j.2).any EngineCmd.underway
  let drop (e : DecodeEngine) : DecodeEngine := { e with jobs := e.jobs.filter stays }
  s.mapDies fun d => { d with engine0 := drop d.engine0, engine1 := drop d.engine1 }

/-- A cluster's engine commands SUSPENDED, but for one whose beat or frame is still on its way; the others wait for no page (10_buffer
R258, 15_page R383). -/
def State.suspendEngine (s : State) (c : Nat) : State :=
  let stopped := ((s.cluster c).engine.filter fun e => !e.underway).map (·.slot)
  (s.onCluster c fun x => { x with engine := x.engine.map fun e => if e.underway then e else e.atBell }).leaveWaiters fun r =>
    r.isEngine c stopped

/-- Whether a stopped cluster's copies and frames have come to their stop points (05_traps R143, R144). -/
def State.engineSettled (s : State) (c : Nat) : Bool := (s.cluster c).engine.all fun e => !e.underway

/-- A cluster stops at the bell of partition p: matrix unit, beats, frames, threads, queues, decoder jobs, storage tables and tile slots
(05_traps R143; 09_tile R227; 10_buffer R258, R272). -/
def State.stopCluster (s : State) (p c : Nat) : State :=
  let s1 := (((s.stopMatrix c).stopBeats c).stopFrame c 0).stopFrame c 1
  let ts := s1.liveThreads c
  let s2 := ts.foldl (fun (a : State) t => a.withdraw t) s1
  let s3 := (List.range 8).foldl (fun (a : State) k => (a.expelGuests (a.core (c * 8 + k)).localStore).onCore (c * 8 + k) fun x => { x with
    loadQ := x.loadQ.map VCmd.atBell, arithQ := x.arithQ.map VCmd.atBell, storeQ := x.storeQ.map VCmd.atBell
    localStore := { x.localStore with waits := [], watches := [] } }) (s2.expelGuests (s2.cluster c).scratchpad)
  let s4 := ts.foldl (fun (a : State) t => a.onThread t Thread.atBell) ((List.range 8).foldl (fun (a : State) k => a.stopChunks (c * 8 + k)) s3)
  let s5 := s4.leaveWaiters fun r => match r with
    | .thread t _ => t.cluster == c
    | _ => false
  ((s5.takeJobs c).suspendEngine c).onCluster c fun x => { x with
    fills := []
    scratchpad := { x.scratchpad with waits := [], watches := [] }
    slots := x.slots.map fun y => if y.state == .live then { y with state := .held } else y
    switchedOut := some p }

/-- The routers that a packet passes from a cluster to another, in order: along its row of the package first (01_module R28). -/
def routeSites (a b : Nat) : List Nat :=
  let (x, y) := siteXY a
  let (u, v) := siteXY b
  let site (i j : Nat) : Nat := (j / 22 * 4 + i / 16) * Config.sites + j % 22 * 16 + i % 16
  let way (m n : Nat) : List Nat := if m ≤ n then (List.range (n + 1 - m)).map (m + ·) else (List.range (m + 1 - n)).map (m - ·)
  (way x u).map (fun i => site i y) ++ ((way y v).drop 1).map fun j => site u j

/-- A packet held at the bell of partition p, on its way to cluster b, in the drain buffer of the next router that belongs to one of the
partition's clusters: which one that is rests on how far it has come, a free value. One that finds no buffer with room has not left its
core (05_traps R143; log entry 76). -/
def State.holdPacket (s : State) (p i : Nat) (h : HeldPacket) (b : Nat) : State :=
  let sites := (routeSites h.thread.cluster b).filter (s.partClusters p).contains
  let n := Config.heldAt s.fresh i % sites.length
  match (sites.drop n ++ sites.take n).find? fun c => decide ((s.cluster c).drain.length < 32) with
  | some c => s.onCluster c fun x => { x with drain := x.drain ++ [h] }
  | none => s

/-- The drain buffers of partition p hold its threads' packets towards its own storage (05_traps R143). -/
def State.fillDrain (s : State) (p : Nat) : State :=
  let packets := ((s.partClusters p).flatMap clusterSlots).flatMap s.heldPackets
  (packets.zipIdx.foldl (fun a q => a.holdPacket p q.2 q.1.1 q.1.2) s).draw

/-- The clusters of partition p that reach its bell now: each by the PTIME of its own die, whose unit is LOCKED (05_traps R142,
R143). -/
def State.bellClusters (s : State) (p : Nat) : List Nat :=
  match (s.partition p).bell with
  | none => []
  | some b => (s.partClusters p).filter fun c =>
      let d := c / Config.sites
      !(s.partition p).stopped.contains c && (s.die d).time.lock == .locked && ptimeReached (s.ptime d) b

/-- Whether every cluster of partition p has stopped at its bell. -/
def State.allStopped (s : State) (p : Nat) : Bool := (s.partClusters p).all fun c => (s.partition p).stopped.contains c

/-- Whether the bell of partition p falls on a cluster now (05_traps R143). -/
def State.bellDue (s : State) (p : Nat) : Bool :=
  (s.partition p).bell.isSome && (s.allStopped p || !(s.bellClusters p).isEmpty)

/-- Partition p is switched out once its last cluster has stopped: its save units are to run, and the Timetable waits for no page of its
kernels (05_traps R143, R148; 15_page R383). -/
def State.bellEnd (s : State) (p : Nat) : State :=
  let cls := (s.partition p).stopped
  let s1 := s.leaveWaiters fun r => match r with
    | .timetable k => (s.kernel k).any fun x => x.part == p
    | _ => false
  let s2 := s1.onPartition p fun x => { x with
    resident := false, switched := true, bell := none, stopped := [], toSave := cls.flatMap s.unitsToSave }
  (s2.fillDrain p).writePartState p 2

/-- The bell of partition p falls on the clusters whose dies' PTIME has reached it; with the last one the partition is switched out
(05_traps R143). -/
def State.ringBell (s : State) (p : Nat) : State :=
  let cls := s.bellClusters p
  let s1 := (cls.foldl (fun a c => a.stopCluster p c) s).onPartition p fun x => { x with stopped := x.stopped ++ cls }
  if s1.allStopped p then s1.bellEnd p else s1

/-- BELL: cores of partition p reach its bell (05_traps R143). -/
def execBell (p : Nat) (s : State) : Host.Outcome State Fault Refusal := .next (if s.bellDue p then s.ringBell p else s)

/-! ### Saving -/

/-- Whether a list of units holds a thread of a core, by a test on its THREADID. -/
def hasThread (l : List SwitchUnit) (cl core : Nat) (f : Nat → Bool) : Bool :=
  l.any fun u => match u with
    | .thread t => t.cluster == cl && t.core == core && f t.slot
    | _ => false

/-- Whether a core has no dispatched chunk left, of one slot or of any. -/
def Core.settled (c : Core) (slot : Option Nat) : Bool :=
  (c.loadQ ++ c.arithQ ++ c.storeQ).all fun v => v.flight.isEmpty || slot.any fun n => v.slot != n

/-- Whether no result from outside its partition's clusters is owed to a thread (05_traps R144). -/
def State.nothingOwed (s : State) (t : ThreadRef) : Bool :=
  ((s.thread t).loads.all fun l => s.heldByBell t.cluster (s.locNow l.place)) &&
    (s.thread t).stores.all fun w => s.heldByBell t.cluster (s.locNow w.place)

/-- Whether a save unit can complete: a core runs its threads in ascending THREADID and then itself (05_traps R148). -/
def State.saveDue (s : State) (p : Nat) (u : SwitchUnit) : Bool :=
  let l := (s.partition p).toSave
  l.contains u &&
  match u with
  | .thread t => !hasThread l t.cluster t.core (fun n => decide (n < t.slot)) && s.nothingOwed t && (s.core (coreKey t)).settled (some t.slot)
  | .core cl k => !hasThread l cl k (fun _ => true) && (s.core (cl * 8 + k)).settled none
  | .cluster c => s.engineSettled c

/-- The bytes of memory in a range of locations, as listed. -/
def Memory.listed (l n : Nat) (m : List Host.Cell) : List (Nat × Byte) := m.filter fun c => decide (l ≤ c.1) && decide (c.1 < l + n)

/-- The granules of a range whose full-empty bits differ from their reset value. -/
def State.flipsIn (s : State) (l n : Nat) : List Nat := s.feFlips.filter fun g => decide (l / 16 ≤ g) && decide (g < (l + n) / 16)

/-- The bytes and full-empty bits of a storage saved for partition p (05_traps R145). -/
def State.saveBytes (s : State) (p l n : Nat) : State :=
  s.onPartition p fun x => { x with
    savedBytes := x.savedBytes ++ Memory.listed l n s.mem, savedFull := x.savedFull ++ s.flipsIn l n }

/-- One save unit done: a thread's context, a core's record, or a cluster's drain buffer, copies and scratchpad (05_traps R145,
R148). -/
def State.saveUnit (s : State) (p : Nat) (u : SwitchUnit) : State :=
  match u with
  | .thread t =>
    (s.onPartition p fun x => { x with savedThreads := x.savedThreads ++ [(t, s.thread t)] }).onThread t Thread.freed
  | .core cl k =>
    let key := cl * 8 + k
    let c := s.core key
    let kept : Core := { loadQ := c.loadQ, arithQ := c.arithQ, storeQ := c.storeQ, tileQ := c.tileQ, localStore := c.localStore }
    ((s.saveBytes p (Loc.localStore key 0) 0x30000).onPartition p fun x => { x with savedCores := x.savedCores ++ [(key, kept)] }).onCore
      key fun y => { y with loadQ := [], arithQ := [], storeQ := [], tileQ := [], localStore := {} }
  | .cluster cl =>
    let s1 := (s.takeJobs cl).suspendEngine cl
    let c := s1.cluster cl
    ((s1.saveBytes p (Loc.scratch cl 0) (2 ^ 20)).onPartition p fun x => { x with
      savedEngines := x.savedEngines ++ [(cl, c.engine)], savedSwap := x.savedSwap ++ [(cl, c.swap, c.failedPairs)]
      savedScratch := x.savedScratch ++ [(cl, c.scratchpad)], savedDrain := x.savedDrain ++ [(cl, c.drain)] }).onCluster cl
      fun y => { y with engine := [], drain := [], scratchpad := {} }

/-- Whether a unit of partition p holds context of a kernel: of a thread that runs it, or of a core or cluster that it is placed on
(05_traps R149). -/
def State.unitOf (s : State) (p : Nat) (u : SwitchUnit) (k : Nat) (x : Kernel) : Bool :=
  x.part == p && x.state.placed &&
  match u with
  | .thread t => (s.thread t).kernel == some k
  | .core cl c => x.cores.contains (cl * 8 + c)
  | .cluster cl => x.cores.any fun c => c / 8 == cl

/-- The kernels that an uncorrectable value in a unit's save area ends: those whose context the unit holds (05_traps R149). -/
def State.lostKernels (s : State) (p : Nat) (u : SwitchUnit) : List Nat :=
  if (s.partition p).spoiled.contains u then (s.kernels.filter fun q => s.unitOf p u q.1 q.2).map (·.1) else []

/-- Kernels abort with UNCORRECTABLE. -/
def State.loseKernels (s : State) (l : List Nat) : State := l.foldl (fun a k => a.abortKernel k 0x42 false) s

/-- A save unit done: its kernels abort when its save area has met an uncorrectable value (05_traps R148, R149). -/
def State.saved (s : State) (p : Nat) (u : SwitchUnit) : State :=
  ((s.saveUnit p u).onPartition p fun x => { x with
    toSave := x.toSave.filter (fun v => v != u), spoiled := x.spoiled.filter fun v => v != u }).loseKernels (s.lostKernels p u)

/-- SAVE_UNIT_COMPLETE: a save unit of partition p completes, when it is due (05_traps R148). -/
def execSaveUnitComplete (p : Nat) (u : SwitchUnit) (s : State) : Host.Outcome State Fault Refusal :=
  .next (if s.saveDue p u then s.saved p u else s)

/-! ### Restoring -/

/-- Whether a restore unit can complete: the units run in reverse (05_traps R149). -/
def State.restoreDue (s : State) (p : Nat) (u : SwitchUnit) : Bool :=
  let l := (s.partition p).toRestore
  l.contains u &&
  match u with
  | .thread t => !l.contains (.core t.cluster t.core) && !hasThread l t.cluster t.core (fun n => decide (t.slot < n))
  | _ => true

/-- The bytes and full-empty bits of a storage as partition p saved them. -/
def State.restoreBytes (s : State) (p l n : Nat) : State :=
  let x := s.partition p
  let inside (a : Nat) : Bool := decide (l ≤ a) && decide (a < l + n)
  let cells := x.savedBytes.filter fun c => inside c.1
  let flips := x.savedFull.filter fun g => inside (g * 16)
  let keep := s.feFlips.filter fun g => !inside (g * 16)
  { s with
    mem := cells.foldl (fun (m : List Host.Cell) (c : Host.Cell) => Memory.write c.1 c.2 m) (Memory.clear l n s.mem)
    feFlips := flips.foldl (fun a g => insertNat g a) keep }.onPartition p fun y => { y with
      savedBytes := y.savedBytes.filter fun c => !inside c.1, savedFull := y.savedFull.filter fun g => !inside (g * 16) }

/-- One restore unit done (05_traps R149). -/
def State.restoreUnit (s : State) (p : Nat) (u : SwitchUnit) : State :=
  let x := s.partition p
  match u with
  | .thread t =>
    match x.savedThreads.find? fun q => q.1 == t with
    | some q => (s.setThread t q.2).onPartition p fun y => { y with savedThreads := y.savedThreads.filter fun r => r.1 != t }
    | none => s
  | .core cl k =>
    let key := cl * 8 + k
    let c := Table.get {} key x.savedCores
    ((s.restoreBytes p (Loc.localStore key 0) 0x30000).onCore key fun y => { y with
      loadQ := c.loadQ, arithQ := c.arithQ, storeQ := c.storeQ, tileQ := c.tileQ, localStore := c.localStore }).onPartition p
      fun y => { y with savedCores := Table.erase key y.savedCores }
  | .cluster cl =>
    let swap := Table.get (0#16, 0#16) cl x.savedSwap
    ((s.restoreBytes p (Loc.scratch cl 0) (2 ^ 20)).onCluster cl fun y => { y with
      engine := Table.get [] cl x.savedEngines, drain := Table.get [] cl x.savedDrain, scratchpad := Table.get {} cl x.savedScratch
      swap := swap.1, failedPairs := swap.2 }).onPartition p fun y => { y with
        savedEngines := Table.erase cl y.savedEngines, savedSwap := Table.erase cl y.savedSwap
        savedScratch := Table.erase cl y.savedScratch, savedDrain := Table.erase cl y.savedDrain }


/-- After a restore unit: what it could not read is lost, and with the last one the Timetable sets the resume bell (05_traps R149). -/
def State.restored (s : State) (p : Nat) (u : SwitchUnit) : State :=
  let s1 := s.loseKernels (s.lostKernels p u)
  s1.onPartition p fun x =>
    let rest := x.toRestore.filter fun v => v != u
    { x with
      toRestore := rest, spoiled := x.spoiled.filter fun v => v != u
      resumeBell := if rest.isEmpty then some (s1.ptime (s1.agentDie p)) else none }

/-- RESTORE_UNIT_COMPLETE: a restore unit of partition p completes, when it is due (05_traps R149). -/
def execRestoreUnitComplete (p : Nat) (u : SwitchUnit) (s : State) : Host.Outcome State Fault Refusal :=
  .next (if s.restoreDue p u then (s.restoreUnit p u).restored p u else s)

/-! ### The resume bell -/

/-- Whether a HELD slot belongs to a context that resumes here with partition p (09_tile R227). -/
def State.resumesSlot (s : State) (p : Nat) (k : Nat) (x : TileSlot) : Bool :=
  x.state == .held && (s.thread x.owner).kernel == x.kernel && (s.thread x.owner).tile x.name == .inSlot k &&
    (x.kernel.bind s.kernel).all fun y => y.part == p

/-- A cluster resumes: its copies and decoder jobs are queued again, its drain buffers empty, its tile slots LIVE (05_traps R149; 09_tile
R227; 10_buffer R258). DESIGN CHOICE: a job goes back to a decode queue that other clusters have filled meanwhile, which then holds more
than 8 (10_buffer R272; log entry 97). -/
def State.resumeCluster (s : State) (p c : Nat) : State :=
  let slots : Vector TileSlot 64 := Vector.ofFn fun k =>
    let x := (s.cluster c).slot k
    if s.resumesSlot p k x then { x with state := .live } else x
  let jobs := (s.cluster c).engine.filter fun e => e.kind == .dec && e.state == .suspended
  let s1 := jobs.foldl (fun a e => a.onDecoder (c / Config.sites) e.engine fun j => { j with jobs := j.jobs ++ [(c, e.slot)] }) s
  s1.onCluster c fun x => { x with
    engine := x.engine.map fun e => if e.state == .suspended then { e with state := .queued } else e
    drain := [], slots := slots }

/-- A thread back in its recorded state, its counts restarted (05_traps R149, 17_watch R428). -/
def Thread.resumed (t : Thread) : Thread := { t with phase := t.bellPrior, counts := Vector.replicate 18 0#64 }

/-- A SWITCHED thread resumes; one that was PARKED looks for its page again (05_traps R149, 04_context R100, 15_page R383). -/
def State.resumeThread (s : State) (t : ThreadRef) : State :=
  if (s.thread t).phase != .switched then s
  else
    let s1 := s.onThread t Thread.resumed
    if (s1.thread t).isParked then s1.rewalk t else s1

/-- Whether the resume bell of partition p has come (05_traps R149). -/
def State.resumeDue (s : State) (p : Nat) : Bool := (s.partition p).resumeBell.any fun b => ptimeReached (s.ptime (s.agentDie p)) b

/-- The resume bell of partition p (05_traps R149): copies, drain buffers, then threads; its kernels in PLACING are prepared again from
the beginning (10_buffer R250), and its DRAINING ones may be DONE. -/
def State.resume (s : State) (p : Nat) : State :=
  let cls := s.partClusters p
  let s1 := (cls.foldl (fun a c => a.resumeCluster p c) s).makeResident p
  let s2 := (cls.flatMap clusterSlots).foldl State.resumeThread s1
  (s2.kernels.filter fun q => q.2.part == p).foldl (fun (a : State) q =>
    if q.2.state = .placing then a.onKernel q.1 fun x => { x with phaseAt := a.now } else (a.checkRetired q.1).checkDrained q.1) s2

/-- RESUME_BELL: partition p's resume bell (05_traps R149). -/
def execResumeBell (p : Nat) (s : State) : Host.Outcome State Fault Refusal := .next (if s.resumeDue p then s.resume p else s)

/-! ### A kill -/

/-- Whether a kill of partition p can still reach cluster c. -/
def State.killReaches (s : State) (p c : Nat) : Bool :=
  decide (p < 64) && (s.partClusters p).contains c && !(s.partition p).killed.contains c

/-- A thread's work at a kill: it is RETIRED, and its packets are discarded where they stand (05_traps R150). -/
def State.killThread (s : State) (t : ThreadRef) : State :=
  if (s.thread t).phase == .free then s else (s.abandonThread t).onThread t fun x => { x with stores := [] }

/-- What partition p saved is discarded (05_traps R150). -/
def Partition.forget (x : Partition) : Partition :=
  { x with switched := false, bell := none, resumeBell := none, successor := none, toSave := [], toRestore := [], killed := []
           stopped := [], spoiled := [], spoiledTiles := []
           savedThreads := [], savedTiles := [], savedCores := [], savedEngines := [], savedSwap := [], savedScratch := []
           savedBytes := [], savedFull := [], savedDrain := [] }

/-- The outcome of a kill that has reached every cluster: the partition's kernels abort with KILLED (05_traps R150, 12_kernel R318). -/
def State.killKernels (s : State) (p : Nat) : State :=
  let s1 := (s.kernels.filter fun q => q.2.part == p).foldl (fun a q => a.abortKernel q.1 0x43 false) s
  let s2 := (s1.onPartition p Partition.forget).refreshOut p
  if (s.partition p).switched then s2.writePartState p 3 else s2

/-- The kill of partition p reaches cluster c: unless the partition is switched out, the cluster's threads and their work end; with the
last cluster its kernels abort (05_traps R150). -/
def State.killCluster (s : State) (p c : Nat) : State :=
  let here := s.liveOn p c
  let s1 := if here then (clusterSlots c).foldl State.killThread s else s
  let s2 := s1.onCluster c fun x => if here then { x with drain := [], fills := [] } else x
  let s3 := s2.onPartition p fun x => { x with killed := c :: x.killed }
  if (s.partClusters p).all fun d => (s3.partition p).killed.contains d then s3.killKernels p else s3

/-- KILL_ARRIVAL: a kill of partition p reaches the units of cluster c (05_traps R150). -/
def execKillArrival (p cl : Nat) (s : State) : Host.Outcome State Fault Refusal :=
  .next (if s.killReaches p cl then s.killCluster p cl else s)

end Sys2Proof.Machine
end

