-- ==== Sys2Proof/Machine/Dispatch.lean ====
section
/-! DEFINITION. The one dispatch of an instruction or event to its meaning. -/

namespace Sys2Proof.Machine

open Sys2Proof

def exec (i : Instr) (s : State) : Host.Outcome State Fault Refusal :=
  match i with
  | .add d a b w => Sys2Proof.Machine.execAdd d a b w s
  | .sub d a b w => Sys2Proof.Machine.execSub d a b w s
  | .and d a b => Sys2Proof.Machine.execAnd d a b s
  | .or d a b => Sys2Proof.Machine.execOr d a b s
  | .xor d a b => Sys2Proof.Machine.execXor d a b s
  | .sll d a b w => Sys2Proof.Machine.execSll d a b w s
  | .srl d a b w => Sys2Proof.Machine.execSrl d a b w s
  | .sra d a b w => Sys2Proof.Machine.execSra d a b w s
  | .slt d a b => Sys2Proof.Machine.execSlt d a b s
  | .sltu d a b => Sys2Proof.Machine.execSltu d a b s
  | .min d a b => Sys2Proof.Machine.execMin d a b s
  | .max d a b => Sys2Proof.Machine.execMax d a b s
  | .minu d a b => Sys2Proof.Machine.execMinu d a b s
  | .maxu d a b => Sys2Proof.Machine.execMaxu d a b s
  | .mul d a b w => Sys2Proof.Machine.execMul d a b w s
  | .mulh d a b => Sys2Proof.Machine.execMulh d a b s
  | .mulhu d a b => Sys2Proof.Machine.execMulhu d a b s
  | .div d a b w => Sys2Proof.Machine.execDiv d a b w s
  | .divu d a b w => Sys2Proof.Machine.execDivu d a b w s
  | .rem d a b w => Sys2Proof.Machine.execRem d a b w s
  | .remu d a b w => Sys2Proof.Machine.execRemu d a b w s
  | .clz d a w => Sys2Proof.Machine.execClz d a w s
  | .ctz d a w => Sys2Proof.Machine.execCtz d a w s
  | .popc d a w => Sys2Proof.Machine.execPopc d a w s
  | .rol d a b w => Sys2Proof.Machine.execRol d a b w s
  | .ror d a b w => Sys2Proof.Machine.execRor d a b w s
  | .andn d a b => Sys2Proof.Machine.execAndn d a b s
  | .addi d a x2 => Sys2Proof.Machine.execAddi d a x2 s
  | .andi d a x2 => Sys2Proof.Machine.execAndi d a x2 s
  | .ori d a x2 => Sys2Proof.Machine.execOri d a x2 s
  | .xori d a x2 => Sys2Proof.Machine.execXori d a x2 s
  | .slti d a x2 => Sys2Proof.Machine.execSlti d a x2 s
  | .sltiu d a x2 => Sys2Proof.Machine.execSltiu d a x2 s
  | .slli d a x1 => Sys2Proof.Machine.execSlli d a x1 s
  | .srli d a x1 => Sys2Proof.Machine.execSrli d a x1 s
  | .srai d a x1 => Sys2Proof.Machine.execSrai d a x1 s
  | .rori d a x1 => Sys2Proof.Machine.execRori d a x1 s
  | .lui d x2 => Sys2Proof.Machine.execLui d x2 s
  | .addpc d x2 => Sys2Proof.Machine.execAddpc d x2 s
  | .liw d x2 => Sys2Proof.Machine.execLiw d x2 s
  | .lih d x2 => Sys2Proof.Machine.execLih d x2 s
  | .lb d a o => Sys2Proof.Machine.execLb d a o s
  | .lbu d a o => Sys2Proof.Machine.execLbu d a o s
  | .lh d a o => Sys2Proof.Machine.execLh d a o s
  | .lhu d a o => Sys2Proof.Machine.execLhu d a o s
  | .lw d a o => Sys2Proof.Machine.execLw d a o s
  | .lwu d a o => Sys2Proof.Machine.execLwu d a o s
  | .ld d a o => Sys2Proof.Machine.execLd d a o s
  | .sb x1 a o => Sys2Proof.Machine.execSb x1 a o s
  | .sh x1 a o => Sys2Proof.Machine.execSh x1 a o s
  | .sw x1 a o => Sys2Proof.Machine.execSw x1 a o s
  | .sd x1 a o => Sys2Proof.Machine.execSd x1 a o s
  | .beq a b o => Sys2Proof.Machine.execBeq a b o s
  | .bne a b o => Sys2Proof.Machine.execBne a b o s
  | .blt a b o => Sys2Proof.Machine.execBlt a b o s
  | .bge a b o => Sys2Proof.Machine.execBge a b o s
  | .bltu a b o => Sys2Proof.Machine.execBltu a b o s
  | .bgeu a b o => Sys2Proof.Machine.execBgeu a b o s
  | .bp p o => Sys2Proof.Machine.execBp p o s
  | .bnp p o => Sys2Proof.Machine.execBnp p o s
  | .jal d o => Sys2Proof.Machine.execJal d o s
  | .jalr d a x2 => Sys2Proof.Machine.execJalr d a x2 s
  | .pcmp p a b c => Sys2Proof.Machine.execPcmp p a b c s
  | .pand d a b => Sys2Proof.Machine.execPand d a b s
  | .por d a b => Sys2Proof.Machine.execPor d a b s
  | .pxor d a b => Sys2Proof.Machine.execPxor d a b s
  | .pnot d a => Sys2Proof.Machine.execPnot d a s
  | .sel d a b p => Sys2Proof.Machine.execSel d a b p s
  | .pmovFromPredicates d => Sys2Proof.Machine.execPmovFromPredicates d s
  | .pmovToPredicates a => Sys2Proof.Machine.execPmovToPredicates a s
  | .fadd d a b m f => Sys2Proof.Machine.execFadd d a b m f s
  | .fsub d a b m f => Sys2Proof.Machine.execFsub d a b m f s
  | .fmul d a b m f => Sys2Proof.Machine.execFmul d a b m f s
  | .fdiv d a b m f => Sys2Proof.Machine.execFdiv d a b m f s
  | .fsqrt d a m f => Sys2Proof.Machine.execFsqrt d a m f s
  | .fmin d a b f => Sys2Proof.Machine.execFmin d a b f s
  | .fmax d a b f => Sys2Proof.Machine.execFmax d a b f s
  | .feq d a b f => Sys2Proof.Machine.execFeq d a b f s
  | .flt d a b f => Sys2Proof.Machine.execFlt d a b f s
  | .fle d a b f => Sys2Proof.Machine.execFle d a b f s
  | .fclass d a f => Sys2Proof.Machine.execFclass d a f s
  | .fsgnj d a b f => Sys2Proof.Machine.execFsgnj d a b f s
  | .fsgnjn d a b f => Sys2Proof.Machine.execFsgnjn d a b f s
  | .fsgnjx d a b f => Sys2Proof.Machine.execFsgnjx d a b f s
  | .fcvtFi d a w m f => Sys2Proof.Machine.execFcvtFi d a w m f s
  | .fcvtFn d a w m f => Sys2Proof.Machine.execFcvtFn d a w m f s
  | .fcvtIf d a w m f => Sys2Proof.Machine.execFcvtIf d a w m f s
  | .fcvtNf d a w m f => Sys2Proof.Machine.execFcvtNf d a w m f s
  | .fcvtFf d a x1 m f => Sys2Proof.Machine.execFcvtFf d a x1 m f s
  | .fma d a b c f m => Sys2Proof.Machine.execFma d a b c f m s
  | .fms d a b c f m => Sys2Proof.Machine.execFms d a b c f m s
  | .fnma d a b c f m => Sys2Proof.Machine.execFnma d a b c f m s
  | .fnms d a b c f m => Sys2Proof.Machine.execFnms d a b c f m s
  | .csrr d c => Sys2Proof.Machine.execCsrr d c s
  | .csrw d a c => Sys2Proof.Machine.execCsrw d a c s
  | .csrs d a c => Sys2Proof.Machine.execCsrs d a c s
  | .csrc d a c => Sys2Proof.Machine.execCsrc d a c s
  | .syscall c => Sys2Proof.Machine.execSyscall c s
  | .brk c => Sys2Proof.Machine.execBrk c s
  | .fence x1 b => Sys2Proof.Machine.execFence x1 b s
  | .wait l x1 c t => Sys2Proof.Machine.execWait l x1 c t s
  | .yieldw d a t => Sys2Proof.Machine.execYieldw d a t s
  | .time d => Sys2Proof.Machine.execTime d s
  | .amoadd d a b z o x1 => Sys2Proof.Machine.execAmoadd d a b z o x1 s
  | .amoand d a b z o x1 => Sys2Proof.Machine.execAmoand d a b z o x1 s
  | .amoor d a b z o x1 => Sys2Proof.Machine.execAmoor d a b z o x1 s
  | .amoxor d a b z o x1 => Sys2Proof.Machine.execAmoxor d a b z o x1 s
  | .amomin d a b z o x1 => Sys2Proof.Machine.execAmomin d a b z o x1 s
  | .amomax d a b z o x1 => Sys2Proof.Machine.execAmomax d a b z o x1 s
  | .amominu d a b z o x1 => Sys2Proof.Machine.execAmominu d a b z o x1 s
  | .amomaxu d a b z o x1 => Sys2Proof.Machine.execAmomaxu d a b z o x1 s
  | .amoswap d a b z o x1 => Sys2Proof.Machine.execAmoswap d a b z o x1 s
  | .amocas d a b z o x1 => Sys2Proof.Machine.execAmocas d a b z o x1 s
  | .lda d a z x1 => Sys2Proof.Machine.execLda d a z x1 s
  | .strel a b z x1 => Sys2Proof.Machine.execStrel a b z x1 s
  | .amofadd d a b z o x1 => Sys2Proof.Machine.execAmofadd d a b z o x1 s
  | .barinit d a b x1 => Sys2Proof.Machine.execBarinit d a b x1 s
  | .bararr d a x1 => Sys2Proof.Machine.execBararr d a x1 s
  | .bartest p a b x1 => Sys2Proof.Machine.execBartest p a b x1 s
  | .bardrop d a x1 => Sys2Proof.Machine.execBardrop d a x1 s
  | .rdvput p a b x1 => Sys2Proof.Machine.execRdvput p a b x1 s
  | .rdvget d a p x1 => Sys2Proof.Machine.execRdvget d a p x1 s
  | .qbind q a p => Sys2Proof.Machine.execQbind q a p s
  | .qunbind q => Sys2Proof.Machine.execQunbind q s
  | .qpush q a => Sys2Proof.Machine.execQpush q a s
  | .qpop d q => Sys2Proof.Machine.execQpop d q s
  | .qpusht q a p => Sys2Proof.Machine.execQpusht q a p s
  | .qpopt d q p => Sys2Proof.Machine.execQpopt d q p s
  | .qstat d q => Sys2Proof.Machine.execQstat d q s
  | .tqpush q a p => Sys2Proof.Machine.execTqpush q a p s
  | .tqpop q a p => Sys2Proof.Machine.execTqpop q a p s
  | .launch d a => Sys2Proof.Machine.execLaunch d a s
  | .take d p => Sys2Proof.Machine.execTake d p s
  | .wmark a h => Sys2Proof.Machine.execWmark a h s
  | .wmread d h => Sys2Proof.Machine.execWmread d h s
  | .tdep d a => Sys2Proof.Machine.execTdep d a s
  | .tarm d a b => Sys2Proof.Machine.execTarm d a b s
  | .kstat d a => Sys2Proof.Machine.execKstat d a s
  | .kcancel d a => Sys2Proof.Machine.execKcancel d a s
  | .kcancelTcb d a => Sys2Proof.Machine.execKcancelTcb d a s
  | .ldf d a o => Sys2Proof.Machine.execLdf d a o s
  | .ldfTry d a p o => Sys2Proof.Machine.execLdfTry d a p o s
  | .ldfc d a o => Sys2Proof.Machine.execLdfc d a o s
  | .ldfcTry d a p o => Sys2Proof.Machine.execLdfcTry d a p o s
  | .stf x1 a o => Sys2Proof.Machine.execStf x1 a o s
  | .stfTry x1 a p o => Sys2Proof.Machine.execStfTry x1 a p o s
  | .stfw x1 a o => Sys2Proof.Machine.execStfw x1 a o s
  | .stfwTry x1 a p o => Sys2Proof.Machine.execStfwTry x1 a p o s
  | .feset a o => Sys2Proof.Machine.execFeset a o s
  | .fesetTry a p o => Sys2Proof.Machine.execFesetTry a p o s
  | .feclr a o => Sys2Proof.Machine.execFeclr a o s
  | .feclrTry a p o => Sys2Proof.Machine.execFeclrTry a p o s
  | .fetest a p o => Sys2Proof.Machine.execFetest a p o s
  | .tlbinv a b => Sys2Proof.Machine.execTlbinv a b s
  | .tlbinva b => Sys2Proof.Machine.execTlbinva b s
  | .pgprobe d a b => Sys2Proof.Machine.execPgprobe d a b s
  | .migrate d a => Sys2Proof.Machine.execMigrate d a s
  | .vcfg d n => Sys2Proof.Machine.execVcfg d n s
  | .setvl d a f b r x1 => Sys2Proof.Machine.execSetvl d a f b r x1 s
  | .vld d a m => Sys2Proof.Machine.execVld d a m s
  | .vlds d a x1 m => Sys2Proof.Machine.execVlds d a x1 m s
  | .vldx d a x m => Sys2Proof.Machine.execVldx d a x m s
  | .vlseg d a m f => Sys2Proof.Machine.execVlseg d a m f s
  | .vldff d a m => Sys2Proof.Machine.execVldff d a m s
  | .vldp d a x1 m => Sys2Proof.Machine.execVldp d a x1 m s
  | .vst d a m => Sys2Proof.Machine.execVst d a m s
  | .vsts d a x1 m => Sys2Proof.Machine.execVsts d a x1 m s
  | .vstx d a x m => Sys2Proof.Machine.execVstx d a x m s
  | .vsseg d a m f => Sys2Proof.Machine.execVsseg d a m f s
  | .vstp d a x1 m => Sys2Proof.Machine.execVstp d a x1 m s
  | .vadd d a b m => Sys2Proof.Machine.execVadd d a b m s
  | .vsub d a b m => Sys2Proof.Machine.execVsub d a b m s
  | .vmul d a b m => Sys2Proof.Machine.execVmul d a b m s
  | .vmulh d a b m => Sys2Proof.Machine.execVmulh d a b m s
  | .vmin d a b m => Sys2Proof.Machine.execVmin d a b m s
  | .vmax d a b m => Sys2Proof.Machine.execVmax d a b m s
  | .vminu d a b m => Sys2Proof.Machine.execVminu d a b m s
  | .vmaxu d a b m => Sys2Proof.Machine.execVmaxu d a b m s
  | .vand d a b m => Sys2Proof.Machine.execVand d a b m s
  | .vor d a b m => Sys2Proof.Machine.execVor d a b m s
  | .vxor d a b m => Sys2Proof.Machine.execVxor d a b m s
  | .vsll d a b m => Sys2Proof.Machine.execVsll d a b m s
  | .vsrl d a b m => Sys2Proof.Machine.execVsrl d a b m s
  | .vsra d a b m => Sys2Proof.Machine.execVsra d a b m s
  | .vsadd d a b m => Sys2Proof.Machine.execVsadd d a b m s
  | .vssub d a b m => Sys2Proof.Machine.execVssub d a b m s
  | .vsaddu d a b m => Sys2Proof.Machine.execVsaddu d a b m s
  | .vssubu d a b m => Sys2Proof.Machine.execVssubu d a b m s
  | .vmacc d a b m => Sys2Proof.Machine.execVmacc d a b m s
  | .vdot4 d a b m => Sys2Proof.Machine.execVdot4 d a b m s
  | .vfadd d a b m => Sys2Proof.Machine.execVfadd d a b m s
  | .vfsub d a b m => Sys2Proof.Machine.execVfsub d a b m s
  | .vfmul d a b m => Sys2Proof.Machine.execVfmul d a b m s
  | .vfma d a b m => Sys2Proof.Machine.execVfma d a b m s
  | .vfms d a b m => Sys2Proof.Machine.execVfms d a b m s
  | .vfnma d a b m => Sys2Proof.Machine.execVfnma d a b m s
  | .vfdiv d a b m => Sys2Proof.Machine.execVfdiv d a b m s
  | .vfsqrt d a m => Sys2Proof.Machine.execVfsqrt d a m s
  | .vfmin d a b m => Sys2Proof.Machine.execVfmin d a b m s
  | .vfmax d a b m => Sys2Proof.Machine.execVfmax d a b m s
  | .vfsgnj d a b m => Sys2Proof.Machine.execVfsgnj d a b m s
  | .vfsgnjn d a b m => Sys2Proof.Machine.execVfsgnjn d a b m s
  | .vcmp c d a b m => Sys2Proof.Machine.execVcmp c d a b m s
  | .vfeq c d a b m => Sys2Proof.Machine.execVfeq c d a b m s
  | .mand d a b => Sys2Proof.Machine.execMand d a b s
  | .mor d a b => Sys2Proof.Machine.execMor d a b s
  | .mxor d a b => Sys2Proof.Machine.execMxor d a b s
  | .mandn d a b => Sys2Proof.Machine.execMandn d a b s
  | .mpopc d a m => Sys2Proof.Machine.execMpopc d a m s
  | .mfirst d a m => Sys2Proof.Machine.execMfirst d a m s
  | .mset d a k m => Sys2Proof.Machine.execMset d a k m s
  | .vmerge d a b m => Sys2Proof.Machine.execVmerge d a b m s
  | .vmv d a m => Sys2Proof.Machine.execVmv d a m s
  | .vmvs d a m => Sys2Proof.Machine.execVmvs d a m s
  | .vext d a x2 => Sys2Proof.Machine.execVext d a x2 s
  | .vins d a x2 => Sys2Proof.Machine.execVins d a x2 s
  | .vslup d a x1 m => Sys2Proof.Machine.execVslup d a x1 m s
  | .vslupImm d a x1 m n => Sys2Proof.Machine.execVslupImm d a x1 m n s
  | .vsldn d a x1 m => Sys2Proof.Machine.execVsldn d a x1 m s
  | .vsldnImm d a x1 m n => Sys2Proof.Machine.execVsldnImm d a x1 m n s
  | .vgath d a b m => Sys2Proof.Machine.execVgath d a b m s
  | .vcomp d a m => Sys2Proof.Machine.execVcomp d a m s
  | .viota d a m => Sys2Proof.Machine.execViota d a m s
  | .lvLongForm d a b m f k z x q g => Sys2Proof.Machine.execLvLongForm d a b m f k z x q g s
  | .vredsum d a b m => Sys2Proof.Machine.execVredsum d a b m s
  | .vredmin d a b m => Sys2Proof.Machine.execVredmin d a b m s
  | .vredmax d a b m => Sys2Proof.Machine.execVredmax d a b m s
  | .vredand d a b m => Sys2Proof.Machine.execVredand d a b m s
  | .vredor d a b m => Sys2Proof.Machine.execVredor d a b m s
  | .vfredsum d a b m => Sys2Proof.Machine.execVfredsum d a b m s
  | .vfredmax d a b m => Sys2Proof.Machine.execVfredmax d a b m s
  | .vfredmin d a b m => Sys2Proof.Machine.execVfredmin d a b m s
  | .vcvt d a f m => Sys2Proof.Machine.execVcvt d a f m s
  | .vqnt d a f => Sys2Proof.Machine.execVqnt d a f s
  | .vdqnt d a f m => Sys2Proof.Machine.execVdqnt d a f m s
  | .vrot d a m => Sys2Proof.Machine.execVrot d a m s
  | .vplx d a j m => Sys2Proof.Machine.execVplx d a j m s
  | .vpli d a j m => Sys2Proof.Machine.execVpli d a j m s
  | .mopa t a b r c => Sys2Proof.Machine.execMopa t a b r c s
  | .mops t a b r c => Sys2Proof.Machine.execMops t a b r c s
  | .mopan t a b r c => Sys2Proof.Machine.execMopan t a b r c s
  | .mprom t => Sys2Proof.Machine.execMprom t s
  | .mzero t => Sys2Proof.Machine.execMzero t s
  | .talloc t p => Sys2Proof.Machine.execTalloc t p s
  | .tfree t => Sys2Proof.Machine.execTfree t s
  | .tsave t a => Sys2Proof.Machine.execTsave t a s
  | .trest t a => Sys2Proof.Machine.execTrest t a s
  | .mma16 t a b r c k => Sys2Proof.Machine.execMma16 t a b r c k s
  | .mma16s t a b r c k x y => Sys2Proof.Machine.execMma16s t a b r c k x y s
  | .trdv t d r c => Sys2Proof.Machine.execTrdv t d r c s
  | .trdc t d c r => Sys2Proof.Machine.execTrdc t d c r s
  | .twrv t a r c => Sys2Proof.Machine.execTwrv t a r c s
  | .twrc t a c r => Sys2Proof.Machine.execTwrc t a c r s
  | .tst t a x1 r c => Sys2Proof.Machine.execTst t a x1 r c s
  | .tstx t a x r c => Sys2Proof.Machine.execTstx t a x r c s
  | .tld t a x1 r c => Sys2Proof.Machine.execTld t a x1 r c s
  | .cpy d a h t e w g n => Sys2Proof.Machine.execCpy d a h t e w g n s
  | .cpyx d a h t e w g n => Sys2Proof.Machine.execCpyx d a h t e w g n s
  | .cpym d a h t e w g n x1 => Sys2Proof.Machine.execCpym d a h t e w g n x1 s
  | .pub d h x1 => Sys2Proof.Machine.execPub d h x1 s
  | .dec d a n e => Sys2Proof.Machine.execDec d a n e s
  | .decst d a => Sys2Proof.Machine.execDecst d a s
  | .trapret => Sys2Proof.Machine.execTrapret s
  | .yield => Sys2Proof.Machine.execYield s
  | .exit => Sys2Proof.Machine.execExit s
  | .isync => Sys2Proof.Machine.execIsync s
  | .kabort => Sys2Proof.Machine.execKabort s
  | .fetchGrant cl => Sys2Proof.Machine.execFetchGrant cl s
  | .instructionLineFill cl k => Sys2Proof.Machine.execInstructionLineFill cl k s
  | .loadResponse t k => Sys2Proof.Machine.execLoadResponse t k s
  | .storeVisible t k => Sys2Proof.Machine.execStoreVisible t k s
  | .amoAtHome t k => Sys2Proof.Machine.execAmoAtHome t k s
  | .walkComplete die k => Sys2Proof.Machine.execWalkComplete die k s
  | .faultQueueHeadAdvance die => Sys2Proof.Machine.execFaultQueueHeadAdvance die s
  | .faultResolve die k => Sys2Proof.Machine.execFaultResolve die k s
  | .yieldWake t => Sys2Proof.Machine.execYieldWake t s
  | .yieldwWatchRegistration t => Sys2Proof.Machine.execYieldwWatchRegistration t s
  | .yieldwTimeout t => Sys2Proof.Machine.execYieldwTimeout t s
  | .vectorChecksEnd t => Sys2Proof.Machine.execVectorChecksEnd t s
  | .laneGroupBind cl => Sys2Proof.Machine.execLaneGroupBind cl s
  | .vectorChunkResult cl core k => Sys2Proof.Machine.execVectorChunkResult cl core k s
  | .wholeOperandComplete cl core k => Sys2Proof.Machine.execWholeOperandComplete cl core k s
  | .matrixUnitStart cl => Sys2Proof.Machine.execMatrixUnitStart cl s
  | .tileCommandComplete cl => Sys2Proof.Machine.execTileCommandComplete cl s
  | .copyStart cl => Sys2Proof.Machine.execCopyStart cl s
  | .copyBeatArrival cl k dst => Sys2Proof.Machine.execCopyBeatArrival cl k dst s
  | .copyComplete cl k => Sys2Proof.Machine.execCopyComplete cl k s
  | .engineBarrierArrival cl k => Sys2Proof.Machine.execEngineBarrierArrival cl k s
  | .decJobStart die e => Sys2Proof.Machine.execDecJobStart die e s
  | .decFrameComplete die e r => Sys2Proof.Machine.execDecFrameComplete die e r s
  | .feRequestResend t => Sys2Proof.Machine.execFeRequestResend t s
  | .launchQueued k => Sys2Proof.Machine.execLaunchQueued k s
  | .dispatch p => Sys2Proof.Machine.execDispatch p s
  | .placementPrepared k => Sys2Proof.Machine.execPlacementPrepared k s
  | .commitStart k => Sys2Proof.Machine.execCommitStart k s
  | .commitPhase2End => Sys2Proof.Machine.execCommitPhase2End s
  | .successorWalkStep k => Sys2Proof.Machine.execSuccessorWalkStep k s
  | .abortDiscardEnd k => Sys2Proof.Machine.execAbortDiscardEnd k s
  | .draftEscalation k => Sys2Proof.Machine.execDraftEscalation k s
  | .draftFold g => Sys2Proof.Machine.execDraftFold g s
  | .kernelEntryRelease k => Sys2Proof.Machine.execKernelEntryRelease k s
  | .watermarkStallEnd cl core k => Sys2Proof.Machine.execWatermarkStallEnd cl core k s
  | .partitionSwitchDecision p => Sys2Proof.Machine.execPartitionSwitchDecision p s
  | .bell p => Sys2Proof.Machine.execBell p s
  | .saveUnitComplete p u => Sys2Proof.Machine.execSaveUnitComplete p u s
  | .restoreUnitComplete p u => Sys2Proof.Machine.execRestoreUnitComplete p u s
  | .resumeBell p => Sys2Proof.Machine.execResumeBell p s
  | .killArrival p cl => Sys2Proof.Machine.execKillArrival p cl s
  | .taskRecordTake q => Sys2Proof.Machine.execTaskRecordTake q s
  | .queueMap die => Sys2Proof.Machine.execQueueMap die s
  | .queueFetchArrival q => Sys2Proof.Machine.execQueueFetchArrival q s
  | .queueQuantumEnd q => Sys2Proof.Machine.execQueueQuantumEnd q s
  | .hostQueueControlSnoop q tail => Sys2Proof.Machine.execHostQueueControlSnoop q tail s
  | .hostQueuePciePoll q => Sys2Proof.Machine.execHostQueuePciePoll q s
  | .migrationEntry f => Sys2Proof.Machine.execMigrationEntry f s
  | .migrationStep f => Sys2Proof.Machine.execMigrationStep f s
  | .migrationComplete f => Sys2Proof.Machine.execMigrationComplete f s
  | .bankIdleTimerExpiry ch bank => Sys2Proof.Machine.execBankIdleTimerExpiry ch bank s
  | .bankRefresh ch bank => Sys2Proof.Machine.execBankRefresh ch bank s
  | .uncorrectableError r => Sys2Proof.Machine.execUncorrectableError r s
  | .selfTestComplete r pass => Sys2Proof.Machine.execSelfTestComplete r pass s
  | .linkTrainingEnd l r => Sys2Proof.Machine.execLinkTrainingEnd l r s
  | .linkIdleTimeout l => Sys2Proof.Machine.execLinkIdleTimeout l s
  | .linkManagementReset l => Sys2Proof.Machine.execLinkManagementReset l s
  | .syncExchangeTimer die => Sys2Proof.Machine.execSyncExchangeTimer die s
  | .sync die => Sys2Proof.Machine.execSync die s
  | .followUp die => Sys2Proof.Machine.execFollowUp die s
  | .delayRequest die => Sys2Proof.Machine.execDelayRequest die s
  | .delayResponse die => Sys2Proof.Machine.execDelayResponse die s
  | .syncExchangeMissed die => Sys2Proof.Machine.execSyncExchangeMissed die s
  | .hostMemoryRequest wr a data => Sys2Proof.Machine.execHostMemoryRequest wr a data s
  | .peerRequest ep r => Sys2Proof.Machine.execPeerRequest ep r s
  | .eventRingHeadMove h => Sys2Proof.Machine.execEventRingHeadMove h s
  | .eventRingSetup base k => Sys2Proof.Machine.execEventRingSetup base k s
  | .spdmMeasurement x2 => Sys2Proof.Machine.execSpdmMeasurement x2 s
  | .powerUp b => Sys2Proof.Machine.execPowerUp b s
  | .rcstateSeal => Sys2Proof.Machine.execRcstateSeal s
  | .sealComplete => Sys2Proof.Machine.execSealComplete s
  | .pcselWrite t v => Sys2Proof.Machine.execPcselWrite t v s
  | .pcReductionComplete t => Sys2Proof.Machine.execPcReductionComplete t s
  | .debugOwn t => Sys2Proof.Machine.execDebugOwn t s
  | .debugRelease t => Sys2Proof.Machine.execDebugRelease t s
  | .debugStop t => Sys2Proof.Machine.execDebugStop t s
  | .debugResume t => Sys2Proof.Machine.execDebugResume t s
  | .debugRead t x2 => Sys2Proof.Machine.execDebugRead t x2 s
  | .debugWrite t x2 v => Sys2Proof.Machine.execDebugWrite t x2 v s
  | .debugStep t on => Sys2Proof.Machine.execDebugStep t on s
  | .debugHoldchild t on => Sys2Proof.Machine.execDebugHoldchild t on s
  | .illegalWord w1 w2 => Sys2Proof.Machine.execIllegalWord w1 w2 s
  | .fetchFaultIssue f => Sys2Proof.Machine.execFetchFaultIssue f s
  | .correctedError r => Sys2Proof.Machine.execCorrectedError r s
  | .debuggerKernelRelease k => Sys2Proof.Machine.execDebuggerKernelRelease k s
  | .hostLineSnoop a data => Sys2Proof.Machine.execHostLineSnoop a data s
  | .residencyMigrationStart k => Sys2Proof.Machine.execResidencyMigrationStart k s
  | .powerOff => Sys2Proof.Machine.execPowerOff s

end Sys2Proof.Machine
end

