-- ==== Sys2Proof/Machine/Agents.lean ====
section
/-! DEFINITION. The model's own order among the module's agents (log entry 3): which internal events can occur in a state, and the one
that an event turn takes. What only the outside world brings (host and peer requests, the debugger, errors, management, power, the
loss of an exchange, refresh, a kill) comes from the agenda alone. -/

namespace Sys2Proof.Machine

open Sys2Proof

/-- The free mode in which the n-th training attempt brings up the host link: the highest that both ends support (16_link R408; log entry
3). -/
def trainingMode (n : Nat) : HostMode :=
  match Config.trainingEnd n / 3 % 5 with
  | 0 => .cxl31
  | 1 => .cxl30
  | 2 => .cxl20
  | 3 => .pcie60
  | _ => .pcie50

/-- The free end of the n-th training attempt (16_link R398; log entry 3). -/
def trainingResult (n : Nat) : TrainingResult :=
  match Config.trainingEnd n % 3 with
  | 0 => .full (trainingMode n)
  | 1 => .partialWidth (trainingMode n)
  | _ => .failed

/-- The threads that the state lists. -/
def State.threadRefs (s : State) : List ThreadRef := s.cur :: s.others.map (·.1)

/-- The events that may fall on a thread. -/
noncomputable def State.threadEvents (s : State) (t : ThreadRef) : List Instr :=
  let x := s.thread t
  (List.range (x.loads.length + x.stores.length)).map (fun k => .amoAtHome t k) ++
    (List.range x.loads.length).map (fun k => .loadResponse t k) ++ (List.range x.stores.length).map (fun k => .storeVisible t k) ++
    [.feRequestResend t, .yieldwWatchRegistration t, .yieldwTimeout t, .yieldWake t, .vectorChecksEnd t, .pcReductionComplete t]

/-- The events that may fall on core k of a cluster. -/
noncomputable def State.coreEvents (s : State) (cl k : Nat) : List Instr :=
  (s.core (cl * 8 + k)).commands.zipIdx.flatMap fun p =>
    (List.range p.1.flight.length).map (fun f => .vectorChunkResult cl k (64 * f + p.2)) ++
      [.wholeOperandComplete cl k p.2, .watermarkStallEnd cl k p.2]

/-- The events that may fall on a cluster. -/
noncomputable def State.clusterEvents (s : State) (cl : Nat) : List Instr :=
  let x := s.cluster cl
  (List.range x.fills.length).map (fun k => .instructionLineFill cl k) ++
    [.fetchGrant cl, .laneGroupBind cl, .matrixUnitStart cl, .tileCommandComplete cl, .copyStart cl] ++
    (x.engine.flatMap fun e =>
      ((if e.read.isNone then e.dests else e.pending).map fun d => .copyBeatArrival cl e.slot d) ++
        [.engineBarrierArrival cl e.slot, .copyComplete cl e.slot]) ++
    (List.range 8).flatMap (s.coreEvents cl)

/-- The events that may fall on a die. -/
noncomputable def State.dieEvents (s : State) (d : Nat) : List Instr :=
  let x := s.die d
  (List.range x.walks.length).map (fun k => .walkComplete d k) ++ [.faultQueueHeadAdvance d] ++
    (List.range x.faults.length).map (fun k => .faultResolve d k) ++
    [.decJobStart d 0, .decJobStart d 1, .decFrameComplete d 0 (frameResult s.fresh), .decFrameComplete d 1 (frameResult s.fresh)] ++
    [.queueMap d, .syncExchangeTimer d, .sync d, .followUp d, .delayRequest d, .delayResponse d] ++
    (x.slots.flatMap fun p => [.queueFetchArrival p.2.queue, .taskRecordTake p.2.queue, .queueQuantumEnd p.2.queue]) ++
    (s.polled d).map fun q => .hostQueuePciePoll q

/-- The events that may fall on a kernel. -/
noncomputable def kernelEvents (k : Nat) : List Instr :=
  [.launchQueued k, .residencyMigrationStart k, .placementPrepared k, .commitStart k, .successorWalkStep k, .abortDiscardEnd k,
    .draftEscalation k, .kernelEntryRelease k]

/-- The events that may fall on a partition. -/
noncomputable def State.partitionEvents (s : State) (p : Nat) : List Instr :=
  let x := s.partition p
  [.dispatch p, .partitionSwitchDecision p, .bell p, .resumeBell p] ++ x.toSave.map (.saveUnitComplete p ·) ++
    x.toRestore.map (.restoreUnitComplete p ·)

/-- The events that may fall on the package's other units. -/
noncomputable def State.packageEvents (s : State) : List Instr :=
  [.commitPhase2End, .sealComplete] ++
    ((s.pkg.drafts.filter fun d => d.commit.isSome).map fun d => .draftFold d.granule) ++
    (List.range 8).flatMap (fun f => [.migrationEntry f, .migrationStep f, .migrationComplete f]) ++
    (s.pkg.banks.map fun b => .bankIdleTimerExpiry (b.1 / 65536) (b.1 % 65536)) ++
    (s.pkg.tests.filterMap fun r => if r.2.isTesting then some (.selfTestComplete r.1 (Config.testPasses s.fresh)) else none)

/-- The ends of the training attempts in progress. -/
noncomputable def State.linkEvents (s : State) : List Instr :=
  s.pkg.links.filterMap fun l =>
    if l.2.state == .training then some (.linkTrainingEnd l.1 (trainingResult s.fresh)) else none

/-- Every event that the module's agents may bring about: during the link training of a boot the ends of the training attempts alone
(16_link R419). -/
noncomputable def State.agentEvents (s : State) : List Instr :=
  if s.pkg.boot == .training then s.linkEvents
  else
  let ts := s.threadRefs
  let cls := (ts.map (·.cluster) ++ s.clusters.map (·.1)).eraseDups
  ts.flatMap s.threadEvents ++ cls.flatMap s.clusterEvents ++ (List.range Config.dies).flatMap s.dieEvents ++
    s.kernels.flatMap (fun p => kernelEvents p.1) ++ (List.range 64).flatMap s.partitionEvents ++ s.packageEvents ++ s.linkEvents

/-- Whether an event of the agents would do something now: the condition under which its meaning acts. -/
def State.due (s : State) : Instr → Bool
  | .amoAtHome t k => s.homeDue t k
  | .loadResponse t k => s.loadDue t k
  | .storeVisible t k => s.storeDue t k && !((s.thread t).stores[k]?.any fun w => w.atHome)
  | .feRequestResend t => s.resendDue t
  | .yieldwWatchRegistration t => s.registerDue t
  | .yieldwTimeout t => s.timeoutDue t
  | .yieldWake t => s.wakeDue t
  | .vectorChecksEnd t => s.checksDue t
  | .pcReductionComplete t => s.reductionDue t
  | .vectorChunkResult cl c k => (s.core (cl * 8 + c)).commands[k % 64]?.any fun x => s.chunkDue (cl * 8 + c) x (k / 64)
  | .wholeOperandComplete cl c k => (s.core (cl * 8 + c)).commands[k]?.any (s.wholeDue (cl * 8 + c))
  | .watermarkStallEnd cl c k => (s.core (cl * 8 + c)).commands[k]?.any (s.stallOver (cl * 8 + c))
  | .instructionLineFill cl k => s.fillDue cl k
  | .fetchGrant cl => !(s.fetchRequests cl).isEmpty
  | .laneGroupBind cl => s.bindDue cl
  | .matrixUnitStart cl => s.matrixDue cl
  | .tileCommandComplete cl => s.tileCompletes cl
  | .copyStart cl => s.copyStartDue cl
  | .copyBeatArrival cl k d => s.beatDue cl k d
  | .engineBarrierArrival cl k => s.engineArrivalDue cl k
  | .copyComplete cl k => s.copyDone cl k
  | .walkComplete d k => s.walkDue d k
  | .faultQueueHeadAdvance d => s.headDue d
  | .faultResolve d k => s.resolveDue d k
  | .decJobStart d e => s.jobStartDue d e
  | .decFrameComplete d e _ => s.frameDue d e
  | .queueMap d => s.mapDue d
  | .syncExchangeTimer d =>
    decide (0 < d) && (s.die d).time.t1.isNone && decide ((s.die d).time.exchangeAt + 2700 ≤ s.now)
  | .sync d => s.syncDue d
  | .followUp d => s.followUpDue d
  | .delayRequest d => s.delayRequestDue d
  | .delayResponse d => (s.die d).time.t4.isSome && s.dieOpen (timeParent d) d
  | .queueFetchArrival q => s.fetchDue q
  | .taskRecordTake q => s.takeDue q
  | .queueQuantumEnd q => s.quantumDue q
  | .hostQueuePciePoll q => s.pollDue q
  | .launchQueued k => s.launchDue k
  | .residencyMigrationStart k => s.residencyDue k
  | .placementPrepared k => s.prepareDue k
  | .commitStart k => s.commitDue k
  | .successorWalkStep k => s.walkStepDue k
  | .abortDiscardEnd k => s.discardDue k
  | .draftEscalation k => s.escalationDue k
  | .kernelEntryRelease k => s.releaseDue k
  | .dispatch p => s.dispatchDue p
  | .partitionSwitchDecision p => s.switchDue p
  | .bell p => s.bellDue p
  | .resumeBell p => s.resumeDue p
  | .saveUnitComplete p u => s.saveDue p u
  | .restoreUnitComplete p u => s.restoreDue p u
  | .commitPhase2End => s.commitEndDue
  | .sealComplete => s.sealDue
  | .draftFold _ => true
  | .migrationEntry f => s.migrationStarts f
  | .migrationStep f => s.migrationSteps f
  | .migrationComplete f => s.migrationEnds f
  | .bankIdleTimerExpiry ch b => s.idleDue ch b
  | .selfTestComplete _ _ | .linkTrainingEnd _ _ => true
  | _ => false

/-- The bell that is due, if there is one: it takes effect before every other event that falls on its threads in the same cycle
(04_context R100, 05_traps R143). -/
noncomputable def State.dueBell (s : State) : Option Instr :=
  (s.pkg.partitions.find? fun p => s.bellDue p.1).map fun p => .bell p.1

/-- The event that an event turn takes: a free choice among those that are due (log entry 3). -/
noncomputable def State.dueEvent (s : State) : Option Instr :=
  match s.agentEvents.filter s.due with
  | [] => none
  | i :: r => some ((i :: r).getD (Config.pick s.fresh % (r.length + 1)) i)

end Sys2Proof.Machine
end

