-- ==== Sys2Proof/Machine/Sched.lean ====
section
/-! DEFINITION. One issue turn of a thread (06_group R168) and what surrounds an instruction's meaning in a step: holds (05_traps
R136), breakpoints and single step (17_watch R431, R433), the passing of time and the next thread's turn. -/

namespace Sys2Proof.Machine

open Sys2Proof

/-- The outcome with its next state changed. -/
def mapNext (f : State → State) : Host.Outcome State Fault Refusal → Host.Outcome State Fault Refusal
  | .next s => .next (f s)
  | .fault r => .fault r
  | .refused r => .refused r

/-- The cycles that a thread spends in its state added to its event counts (17_watch R428). -/
def Thread.tick (n : Nat) (t : Thread) : Thread :=
  match t.phase with
  | .free | .switched => t
  | .waiting => (t.count 0 n).count 2 n
  | .yielded => (t.count 0 n).count 3 n
  | .parked => (t.count 0 n).count 4 n
  | _ => t.count 0 n

/-- A thread in YIELD no longer waits for the threads of its core that have left READY and WAITING (06_group R171). -/
def State.pruneYield (s : State) (t : ThreadRef) (x : Thread) : Thread :=
  match x.yield with
  | none => x
  | some y =>
    let live (o : Nat) : Bool :=
      let p := (s.thread { t with slot := o }).phase
      p == .ready || p == .waiting
    { x with yield := some { y with others := y.others.filter live } }

/-- Whether a requester waits in a die's walks, for its walk or for a walker (15_page R380). -/
def State.walksFor (s : State) (t : ThreadRef) : Bool :=
  (s.die (dieOf t)).walks.any fun w => w.waiters.any fun x => s.counted x.who == some t

/-- Whether a thread has a request that may wait by R31: for a fetch grant or a divider, as a READY or WAITING one (06_group R166,
04_context R110); for a walker (15_page R380); a scalar access, a chunk of a vector instruction, or a copy's beat (01_module R31). -/
def State.requesting (s : State) (t : ThreadRef) (x : Thread) : Bool :=
  x.phase == .ready || x.phase == .waiting || x.request.isSome || s.walksFor t || !x.loads.isEmpty || !x.stores.isEmpty ||
  ((s.core (coreKey t)).commands.any fun v => v.slot == t.slot && !v.flight.isEmpty) ||
  (s.cluster t.cluster).engine.any fun e => e.owner == t && e.state == .running

/-- The cycles that a thread's requests wait in a step, a free number, added to its event count 17 (01_module R31, 17_watch R428; log entry
2). -/
def State.countWaits (s : State) (t : ThreadRef) (x : Thread) : Thread :=
  if s.requesting t x then x.count 17 (Config.requestWaits s.fresh (coreKey t * 4 + t.slot)) else x

/-- The device's writes to the event ring since the last step wake the watches on its lines (14_barrier R371, 16_link R415-R418). -/
def State.ringWake (s : State) : State :=
  match s.pkg.ring with
  | none => s
  | some (base, size) =>
    let seen := (s.pkg.ringTail, s.lostShown)
    if s.pkg.ringSeen = seen then s
    else
      let first := s.pkg.ringSeen.1
      (((List.range (s.pkg.ringTail - first)).foldl (fun a i => a.wakeWatches (ringRecord base size (first + i)) 32 1) s).wakeWatches
        (Loc.host base) 64 1).onPkg fun g => { g with ringSeen := seen }

/-- Time passes: one cycle and a free number of further cycles (log entry 2). Each thread's request for a fetch block and its YIELD stand as
its state then says. -/
def State.pass (s : State) : State :=
  let n := 1 + Config.elapse s.fresh
  let go (t : ThreadRef) (x : Thread) : Thread := (s.pruneYield t (s.countWaits t (x.tick n))).noteRequest (s.now + n)
  { s with now := s.now + n, fresh := s.fresh + 1, ctx := go s.cur s.ctx, others := s.others.map fun p => (p.1, go p.1 p.2) }

/-- The end of a step: the watches on the event ring see its writes, the units admit the threads whose queue heads have become eligible
(07_vector R184, 09_tile R234), and time passes. -/
def State.tick (s : State) : State := (s.ringWake.admitHeads).pass

/-- The state with thread t's context unpacked as the current one. -/
def State.focus (s : State) (t : ThreadRef) : State :=
  if t = s.cur then s
  else { s with cur := t, ctx := s.thread t, others := storeThread s.cur s.ctx (s.others.filter fun p => p.1 != t) }

/-- Whether a thread's next instruction is held: by its checks, by a result it must await, or by a wait table (05_traps R136; 11_ordering
R296; 10_buffer R254). -/
def Thread.held (x : Thread) : Bool :=
  x.checking.isSome || x.owedTrap.isSome || x.inTable || x.refused.isSome || (x.loads.any fun l => l.holds) ||
    x.stores.any fun w => w.pred.isSome

/-- Whether a thread is READY, or WAITING for something that may have gone (04_context R99). -/
def Thread.wakes (x : Thread) : Bool := x.phase == .ready || x.phase == .waiting && x.reissue

/-- Whether thread t takes an issue turn: it is READY, and its next instruction is in its fetch buffer or the thread goes on otherwise:
with the fault of a failed service, or to WAITING for what holds its next instruction (06_group R168, 04_context R99). -/
def State.mayIssue (s : State) (t : ThreadRef) : Bool :=
  let x := s.thread t
  x.wakes && (x.parkFail || x.held || s.tieHeld t || x.fetched != .missing)

/-- Of a core's threads that can issue, the first in ascending THREADID from the slot after the one that last issued (06_group
R168). -/
def State.coreTurn (s : State) (k : Nat) : Option ThreadRef :=
  let slots := (List.range 4).map fun i => (⟨k / 8, k % 8, ((s.core k).lastSlot + 1 + i) % 4⟩ : ThreadRef)
  slots.find? s.mayIssue

/-- The threads that may issue next: of each core with READY threads the one whose turn it is (06_group R168). -/
def State.turns (s : State) : List ThreadRef :=
  ((s.cur, s.ctx) :: s.others).filterMap fun p =>
    if p.2.wakes && s.coreTurn (coreKey p.1) == some p.1 then some p.1 else none

/-- The issue turn passes to one of the threads that may issue, a free choice where there are several (log entry 3); with none it
stays. -/
def State.rotate (s : State) : State :=
  match s.turns with
  | [] => s
  | [t] => s.focus t
  | t :: u :: r => s.focus ((t :: u :: r).getD (Config.turn s.fresh % (r.length + 2)) t)

/-- A WAITING thread whose condition may have gone looks again at its next turn (04_context R99). -/
def Thread.retry (t : Thread) : Thread := if t.phase == .waiting then { t with reissue := true } else t

/-- A WAITING thread at the turn at which it looks again: READY, unless its instruction finds it held once more (04_context R99). -/
def Thread.lookAgain (t : Thread) : Thread := if t.phase == .waiting then { t with phase := .ready, reissue := false } else t

/-- Every WAITING thread is to look again. -/
def State.retryAll (s : State) : State :=
  { s with ctx := s.ctx.retry, others := s.others.map fun p => (p.1, p.2.retry) }

/-- Whether the thread's next instruction is held: by its checks, by a result it must await, by a wait table, or by a tile
update under FCTL.TIE (05_traps R136; 11_ordering R296; 10_buffer R254). -/
def State.held (s : State) : Bool := s.ctx.held || s.tieHeld s.cur

/-- A thread has issued: its core's last slot is set, and the YIELDED threads of the core no longer wait for it (06_group
R168, R171). -/
def State.noteIssue (s : State) : State :=
  let s1 := s.onCore (coreKey s.cur) fun c => { c with lastSlot := s.cur.slot }
  let drop (x : Thread) : Thread :=
    { x with yield := x.yield.map fun y => { y with others := y.others.filter fun o => o != s.cur.slot } }
  { s1 with others := s1.others.map fun p =>
      if coreKey p.1 = coreKey s.cur ∧ p.2.yield.isSome then (p.1, drop p.2) else p }

/-- The end of a single step by the instruction that the running thread, whose context was b, has just issued; a tile
update under FCTL.TIE ends it when it completes (17_watch R433, 05_traps R134). -/
def State.stepDone (s : State) (b : Thread) : State :=
  if !bit b.status 4 || s.ctx.phase != .ready || s.tieHeld s.cur || (s.ctx.loads.any fun l => l.watchPc.isSome) then s
  else if s.ctx.owned then
    (if s.ctx.instret = b.instret ∧ s.ctx.pc = b.pc ∧ s.ctx.status = b.status then s else s.onCtx fun t => t.stop .ready)
  else if s.ctx.instret ≠ b.instret ∧ !b.hm ∧ !s.ctx.hm then s.trapAt s.cur causeStep s.ctx.pc b.pc
  else s

/-- Whether the running thread, whose context was b, has issued an instruction: it is not WAITING to issue it, or the instruction has
gone to its checks or to a wait table (04_context R99, 05_traps R136, 10_buffer R254). -/
def State.hasIssued (s : State) (b : Thread) : Bool :=
  s.ctx.phase != .waiting || (b.checking.isNone && s.ctx.checking.isSome) || (!b.inTable && s.ctx.inTable) ||
    (b.refused.isNone && s.ctx.refused.isSome)

/-- A READY thread whose next instruction is held is WAITING (05_traps R136). -/
def State.restHeld (s : State) : State := if s.ctx.phase == .ready && s.held then s.block else s

/-- What follows an instruction's meaning in a step: the end of a single step, the note of the issue, time and the next
turn. The context before it is b. -/
def State.finish (b : Thread) (s : State) : State :=
  (if s.hasIssued b then (s.stepDone b).noteIssue.restHeld else s).tick.rotate

/-- The instruction of a first and second word issued by the running thread: decoded, held back while it is owed a register
it names, and given its meaning; a word that decodes to nothing raises ILLEGAL (04_context R108, 03_encoding R78). -/
noncomputable def runWords (w x : Nat) (s : State) : Host.Outcome State Fault Refusal :=
  match decodeWords w x with
  | .ok i => if s.interlocked i then .next s.block else exec i s
  | .error _ => exec (.illegalWord (BitVec.ofNat 32 w) (if isLong w then some (BitVec.ofNat 32 x) else none)) s

/-- An issue turn of the running thread. -/
noncomputable def issue (s : State) : Host.Outcome State Fault Refusal :=
  match s.ctx.parkFail, s.ctx.parkedAt with
  | true, some (va, _) =>
    .next (((s.onCtx fun t => { t with parkFail := false, parkedAt := none, checking := none, owedTrap := none }).trap causePageFault va).finish s.ctx)
  | _, _ =>
    let a := s.onCtx Thread.lookAgain
    if s.held then .next (s.block.finish s.ctx)
    else if s.ctx.execMatch then .next ((a.debugTrap causeWatch s.ctx.pc).finish s.ctx)
    else
      match s.ctx.fetched with
      | .missing => .next s.tick.rotate
      | .fault f => mapNext (State.finish s.ctx) (exec (.fetchFaultIssue f) a)
      | .words w x => mapNext (State.finish s.ctx) (runWords w x a)

/-- Whether an entry of the agenda is an event that the outside world or an agent may bring about: not an instruction, and
not one of the events that only an instruction's issue raises. -/
def Instr.isAgent (i : Instr) : Bool :=
  (encode i).isNone &&
  match i with
  | .illegalWord _ _ | .fetchFaultIssue _ | .rcstateSeal | .pcselWrite _ _ => false
  | _ => true

/-- Whether an event of the agenda can fall on the module as it stands: without power only its power-up and what the host does in its own
memory (01_module R33), and in BOOTFAIL besides these only a loss of power and what the mailbox and SPDM answer (16_link R419). -/
def State.admits (s : State) (i : Instr) : Bool :=
  (s.pkg.boot != .off && s.pkg.boot != .bootFail) ||
  match i with
  | .powerUp _ | .hostLineSnoop _ _ | .hostQueueControlSnoop _ _ => true
  | .powerOff | .spdmMeasurement _ | .eventRingSetup _ _ => s.pkg.boot == .bootFail
  | _ => false

/-- After an event: WAITING threads try again, time passes, and the issue turn passes on. -/
def State.afterEvent (s : State) : State := s.retryAll.tick.rotate

/-- Whether the turn is an agent's rather than the thread's (log entry 3). -/
def State.eventTurn (s : State) : Bool := s.fresh % 4 == 3

end Sys2Proof.Machine
end

