-- ==== Sys2Proof/Machine/Step.lean ====
section
/-! DEFINITION. One step of the module: an entry of the agenda if there is one, else an issue turn of the current thread or
the first internal event that is due (log entry 3). -/

namespace Sys2Proof.Machine

open Sys2Proof

/-- One step of the module. A bell that is due comes before everything else that falls on its threads (04_context R100). -/
noncomputable def step (s : State) : Host.Outcome State Fault Refusal :=
  match s.dueBell with
  | some i => mapNext State.afterEvent (exec i s)
  | none =>
    match s.agenda with
    | .event i :: rest =>
      if Sys2Proof.Machine.Instr.isAgent i && s.admits i then mapNext State.afterEvent (exec i { s with agenda := rest })
      else .next { s with agenda := rest }
    | .issue t :: rest =>
      .next ((State.coreTurn s (coreKey t)).elim { s with agenda := rest } fun u => State.focus { s with agenda := rest } u)
    | [] =>
      if s.pkg.boot == .off || s.pkg.boot == .bootFail then .fault .moduleOff
      else if s.mayIssue s.cur && !s.eventTurn then issue s
      else
        match s.dueEvent with
        | some i => mapNext State.afterEvent (exec i s)
        | none => if s.mayIssue s.cur then issue s else .next s.tick.rotate

/-- The state with an instruction of nbits bits placed in the running thread's fetch buffer at its PC, from which the next
step takes it: nothing is owed to the thread or on the agenda, the turn is the thread's, and no breakpoint tests it. -/
def State.withFetchWord (s : State) (nbits w : Nat) : State :=
  { s with
    agenda := []
    fresh := if s.eventTurn then s.fresh + 1 else s.fresh
    pkg := if s.pkg.boot == .off || s.pkg.boot == .bootFail || s.pkg.boot == .training then { s.pkg with boot := .rollCall } else s.pkg
    ctx := { s.ctx with
      phase := .ready, checking := none, owedTrap := none, inTable := false, refused := none, loads := []
      stores := s.ctx.stores.filter (fun w => w.pred.isNone), pushing := none, parkFail := false, execExempt := true
      fetch := blocksWith s.ctx.pc.toNat (w % 2 ^ nbits % 2 ^ 32) (w % 2 ^ nbits / 2 ^ 32) } }

end Sys2Proof.Machine
end

