-- ==== Sys2Proof/Safety.lean ====
section
/-! DEFINITION. What counts as a safe run, in the terms the claims use: no step ends in a fault or a refusal, memory keeps its
canonical form, and an instruction changes only what its statement names. -/

namespace Sys2Proof.Machine

open Sys2Proof

/-- The memory of a state is in its canonical form. -/
def State.MemOk (s : State) : Prop := Memory.wf s.mem = true

/-- A step of the state answers a next state. -/
def State.Runs (s : State) : Prop := ∃ t, step s = .next t

/-- An instruction or event of a state answers a next state, of which P holds. -/
def Completes (i : Instr) (s : State) (P : State → Prop) : Prop := ∃ t, exec i s = .next t ∧ P t

/-- Every byte of memory reads in t as it does in s. -/
def SameBytes (s t : State) : Prop := ∀ a, Memory.read a t.mem = Memory.read a s.mem

/-- Every byte of memory outside the n bytes from l reads in t as it does in s. -/
def SameBytesOutside (l n : Nat) (s t : State) : Prop :=
  ∀ a, a < l ∨ l + n ≤ a → Memory.read a t.mem = Memory.read a s.mem

/-- Nothing but the running thread's context differs between s and t, and no byte of memory. -/
structure OnlyThread (s t : State) : Prop where
  frame : t = { s with ctx := t.ctx }
  bytes : SameBytes s t

/-- The running thread has completed an instruction of n words that goes on at the next one: its PC, INSTRET and state (04_context
R107). -/
structure Advanced (n : Nat) (s t : State) : Prop where
  pc      : t.ctx.pc = s.ctx.pc + BitVec.ofNat 64 (4 * n)
  instret : t.ctx.instret = s.ctx.instret + 1#64
  ready   : t.ctx.phase = .ready

/-- The running thread has completed an instruction of n words whose whole effect is to write v to g[d]: no other general
register, predicate, special register, accumulator or byte of memory has changed, and g0 discards the value (00_scope R12,
04_context R109). -/
structure Wrote (d : BitVec 5) (v : Word) (n : Nat) (s t : State) : Prop where
  advanced : Advanced n s t
  value  : d ≠ 0#5 → t.ctx.g d.toNat = v
  zero   : t.ctx.g 0 = 0#64
  others : ∀ k, k ≠ d.toNat → t.ctx.g k = s.ctx.g k
  thread : t.ctx = { s.ctx with
    regs := t.ctx.regs, pc := t.ctx.pc, instret := t.ctx.instret, counts := t.ctx.counts, phase := .ready, execExempt := false }
  only   : OnlyThread s t

/-- The running thread has completed an instruction of one word whose whole effect is to write b to p[d]; p0 discards it. -/
structure WroteP (d : BitVec 3) (b : Bool) (s t : State) : Prop where
  advanced : Advanced 1 s t
  value  : d ≠ 0#3 → t.ctx.p d.toNat = b
  zero   : t.ctx.p 0 = true
  others : ∀ k, k ≠ d.toNat → t.ctx.p k = s.ctx.p k
  thread : t.ctx = { s.ctx with
    preds := t.ctx.preds, pc := t.ctx.pc, instret := t.ctx.instret, counts := t.ctx.counts, phase := .ready, execExempt := false }
  only   : OnlyThread s t

/-- The running thread has completed a branch or jump that goes on at the address given, with v in g[d] (04_context R122, R123). -/
structure WentTo (target : Word) (d : BitVec 5) (v : Word) (s t : State) : Prop where
  pc      : t.ctx.pc = target
  instret : t.ctx.instret = s.ctx.instret + 1#64
  value  : d ≠ 0#5 → t.ctx.g d.toNat = v
  zero   : t.ctx.g 0 = 0#64
  others : ∀ k, k ≠ d.toNat → t.ctx.g k = s.ctx.g k
  thread : t.ctx = { s.ctx with
    regs := t.ctx.regs, pc := target, instret := t.ctx.instret, counts := t.ctx.counts, fetch := t.ctx.fetch
    phase := .ready, execExempt := false }
  only   : OnlyThread s t

/-- A trap of the running thread has been delivered (05_traps R137): the status, the trap registers, the handler bank, VSTART and PC
are as its entry leaves them, and nothing else has changed. -/
structure Trapped (code : Nat) (epc value : Word) (s t : State) : Prop where
  pc      : t.ctx.pc = s.ctx.tvec
  cause   : t.ctx.cause = BitVec.ofNat 64 code
  savedPc : t.ctx.epc = epc
  savedValue : t.ctx.tval = value
  bank    : t.ctx.hvl = s.ctx.vl ∧ t.ctx.hvtype = s.ctx.vtype ∧ t.ctx.hvstart = s.ctx.vstart
  vstart  : t.ctx.vstart = 0#64
  hm      : t.ctx.hm = true
  hte     : bit t.ctx.status 1 = false
  vloss   : bit t.ctx.status 2 = (s.ctx.hm || bit s.ctx.status 2)
  status  : ∀ k, 3 ≤ k → bit t.ctx.status k = bit s.ctx.status k
  thread  : t.ctx = { s.ctx with
    status := t.ctx.status, cause := t.ctx.cause, epc := epc, tval := value, hvl := s.ctx.vl, hvtype := s.ctx.vtype
    hvstart := s.ctx.vstart, vstart := 0#64, pc := s.ctx.tvec, phase := .ready, fetch := [], execExempt := false }
  only    : OnlyThread s t

/-- The running thread's instruction has not issued: the thread is WAITING, with nothing yet to look at it again, and nothing else has
changed (04_context R99). -/
def Held (s t : State) : Prop := t = { s with ctx := { s.ctx with phase := .waiting, reissue := false } }

/-- A debugger that owns the running thread has been given it: it is STOPPED, to go on READY, and nothing else has changed (04_context
R99, 05_traps R133). -/
def StoppedFor (s t : State) : Prop := t = { s with ctx := { s.ctx with phase := .stopped, stopPrior := .ready } }

/-- The bits [hi:lo] of a register are those of the value written and every other bit stands (05_traps R152). -/
def FieldTaken (hi lo : Nat) (old new after : Word) : Prop :=
  ∀ k, bit after k = if lo ≤ k ∧ k ≤ hi then bit new k else bit old k

/-- A CSR instruction has put the old value in g[d] and changed the context to u, or left it when u is the context before; nothing else
has changed (05_traps R152). -/
structure CsrDone (d : BitVec 5) (old : Word) (u : Thread) (s t : State) : Prop where
  advanced : Advanced 1 s t
  value  : d ≠ 0#5 → t.ctx.g d.toNat = old
  others : ∀ k, k ≠ d.toNat → t.ctx.g k = s.ctx.g k
  thread : t.ctx = { u with
    regs := t.ctx.regs, pc := t.ctx.pc, instret := t.ctx.instret, counts := t.ctx.counts, phase := .ready, execExempt := false }
  only   : OnlyThread s t

/-- An address of the running thread passes every check of a scalar access of n bytes and reaches a place: it is aligned, its window,
translation and permissions allow the access, and no breakpoint is armed (04_context R118). The state s1 carries what the TLBs
learned. -/
structure Reaches (ea : Word) (n : Nat) (write : Bool) (p : Place) (s s1 : State) : Prop where
  aligned : ea.toNat % n = 0
  unwatched : s.ctx.bpctl = 0#64
  reach : s.reach s.agent (.thread s.cur false) true write false ea = (.place p, s1)

/-- Lines of caches may have been filled, written back or dropped between s and t, and watches on them have woken their threads: no byte of
memory, no kernel and nothing of a thread has changed but its wake, and the running thread's event counts (04_context R464, 14_barrier
R371). -/
structure WroteBack (s t : State) : Prop where
  mem     : t.mem = s.mem
  kernels : t.kernels = s.kernels
  running : t.cur = s.cur ∧ t.now = s.now
  thread  : t.ctx = { s.ctx with yield := t.ctx.yield, counts := t.ctx.counts }
  others  : ∀ u, u ≠ s.cur → t.thread u = { s.thread u with yield := (t.thread u).yield }

/-- The running thread's instruction has been accepted with an operation outstanding: nothing of its context has changed but what a
retirement changes and its outstanding operations, and no byte of memory. -/
structure Accepted (s t : State) : Prop where
  advanced : Advanced 1 s t
  thread : t.ctx = { s.ctx with
    loads := t.ctx.loads, stores := t.ctx.stores, nextSeq := s.ctx.nextSeq + 1
    pc := t.ctx.pc, instret := t.ctx.instret, counts := t.ctx.counts, phase := .ready, execExempt := false }
  others : t.others = s.others
  kernels : t.kernels = s.kernels
  package : t.pkg = s.pkg
  bytes : SameBytes s t

/-- A result is owed to the running thread: one more entry of its pending-load table (05_traps R147). -/
def Owes (l : PendingLoad) (s t : State) : Prop :=
  Accepted s t ∧ t.ctx.loads = s.ctx.loads ++ [{ l with seq := s.ctx.nextSeq }] ∧ t.ctx.stores = s.ctx.stores

/-- A store of the running thread is outstanding (04_context R120). -/
def Buffers (x : PendingStore) (s t : State) : Prop :=
  Accepted s t ∧ t.ctx.stores = s.ctx.stores ++ [{ x with seq := s.ctx.nextSeq }] ∧ t.ctx.loads = s.ctx.loads

/-- The running thread has completed an instruction of one word with a result in g[d], a predicate, or both, where it has them; every
other general register and predicate stands. -/
structure Answers (result : Option (BitVec 5 × Word)) (flag : Option (BitVec 3 × Bool)) (s t : State) : Prop where
  advanced : Advanced 1 s t
  value  : ∀ d v, result = some (d, v) → d ≠ 0#5 → t.ctx.g d.toNat = v
  others : ∀ k, (∀ d v, result = some (d, v) → k ≠ d.toNat) → t.ctx.g k = s.ctx.g k
  pred   : ∀ p b, flag = some (p, b) → p ≠ 0#3 → t.ctx.p p.toNat = b
  preds  : ∀ k, (∀ p b, flag = some (p, b) → k ≠ p.toNat) → t.ctx.p k = s.ctx.p k

/-- The running thread's FE instruction at location l has returned (10_buffer R251-R253): its result and predicate, the granule's bit,
and the 8 bytes it wrote, each where it has one; every other register, predicate, granule and byte stands. -/
structure FeEnds (l : Nat) (result : Option (BitVec 5 × Word)) (flag : Option (BitVec 3 × Bool)) (full : Bool) (data : Option Word)
    (s t : State) : Prop where
  answers : Answers result flag s t
  bit    : t.feFull (l / 16) = full
  bits   : ∀ g, g ≠ l / 16 → t.feFull g = s.feFull g
  stored : ∀ v, data = some v → ∀ j < 8, Memory.read (l + j) t.mem = BitVec.ofNat 8 (v.toNat / 256 ^ j)
  bytes  : if data.isSome then SameBytesOutside l 8 s t else SameBytes s t

/-- A scalar floating-point instruction has written a result and ORed its conditions into FCTL[4:0] (04_context R126, R131), and
nothing else. -/
structure FloatDone (d : BitVec 5) (r : Nat × Conds) (s t : State) : Prop where
  advanced : Advanced 1 s t
  value  : d ≠ 0#5 → t.ctx.g d.toNat = BitVec.ofNat 64 r.1
  others : ∀ k, k ≠ d.toNat → t.ctx.g k = s.ctx.g k
  flags  : t.ctx.fctl = s.ctx.fctl ||| BitVec.ofNat 64 (r.2.toNat % 32)
  thread : t.ctx = { s.ctx with
    regs := t.ctx.regs, fctl := t.ctx.fctl, pc := t.ctx.pc, instret := t.ctx.instret, counts := t.ctx.counts, phase := .ready
    execExempt := false }
  only   : OnlyThread s t

/-- How a scalar floating-point instruction with result r ends: with no raised condition enabled in FCTL[9:5] it writes; with one
enabled it traps with the first in the order NV, DZ, OF, UF, NX, the raised set as its value, and writes neither g[d] nor FCTL
(04_context R131). -/
def FloatEnds (i : Instr) (d : BitVec 5) (r : Nat × Conds) (s : State) : Prop :=
  let raised (k : Nat) : Bool := r.2.getLsbD k && bit s.ctx.fctl (k + 5)
  ((∀ k < 5, raised k = false) → Completes i s (FloatDone d r s)) ∧
  ∀ k < 5, raised k = true → (∀ j < 5, k < j → raised j = false) → s.ctx.trapFatal = false →
    Completes i s (Trapped (0x0A - k) s.ctx.pc (BitVec.ofNat 64 (r.2.toNat % 32)) s)

/-- The running thread's vector instruction of n words has been accepted with the captured command c (07_vector R177, R182): the last of
its core's queue, under the thread's next numbers; VSTART is 0 and no register, mask or byte of memory has changed. -/
structure Queued (n : Nat) (c : VCmd) (s t : State) : Prop where
  advanced : Advanced n s t
  queue  : (t.core (coreKey s.cur)).queue c.op.queue = (s.core (coreKey s.cur)).queue c.op.queue ++
    [{ c with seq := s.ctx.nextSeq, vseq := s.ctx.vecSeq, instret := s.ctx.instret, sampled := s.ctx.samples }]
  thread : t.ctx = { s.ctx with
    nextSeq := s.ctx.nextSeq + 1, vecSeq := s.ctx.vecSeq + 1, vstart := 0#64, sampleCount := s.ctx.sampleCount + 1, pc := t.ctx.pc
    instret := t.ctx.instret, counts := t.ctx.counts, phase := .ready, execExempt := false }
  frame  : t = { s with ctx := t.ctx, cores := t.cores }

/-- The running thread's tile instruction of n words has been accepted with the captured command c (09_tile R231, R232): the last of its
core's tile command queue; of the thread nothing else has changed, TSTARTROW apart, which holds w. -/
structure TileQueued (n : Nat) (c : TCmd) (w : Word) (s t : State) : Prop where
  advanced : Advanced n s t
  queue  : (t.core (coreKey s.cur)).tileQ = (s.core (coreKey s.cur)).tileQ ++ [{ c with seq := s.ctx.nextSeq }]
  thread : t.ctx = { s.ctx with
    nextSeq := s.ctx.nextSeq + 1, tstartrow := w, pc := t.ctx.pc, instret := t.ctx.instret, counts := t.ctx.counts, phase := .ready
    execExempt := false }
  frame  : t = { s with ctx := t.ctx, cores := t.cores }

end Sys2Proof.Machine
end

