-- ==== Sys2Proof/Certificates/Slice0/Obligations.lean ====
section
/-! DEFINITION. The statements about this model. -/

open Sys2Proof Sys2Proof.Machine

/-! ### Integer instructions -/

/-- The INT instructions on 64-bit operands write the results of the table of 04_context R111 (R112), here as operations on 64-bit words,
and change nothing else. The .w forms of INT take the low words of both operands and write the 32-bit result sign-extended (04_context
R112). CLZ, CTZ and POPC count, at the operand's width n, the leading zeros, the trailing zeros and the ones; CLZ and CTZ of a zero
operand give n (04_context R111, R112). Division truncates towards zero and the remainder takes the sign of the dividend; a divisor of 0
gives all ones and the dividend, and -2^(n-1) by -1 gives -2^(n-1) and 0 (04_context R113), at both widths. -/
def Obligations.IntegerResults : Prop :=
  (∀ (s : State) (d a b : BitVec 5),
   let x := s.ctx.g a.toNat
   let y := s.ctx.g b.toNat
   Completes (.add d a b 0#1) s (Wrote d (x + y) 1 s) ∧
   Completes (.sub d a b 0#1) s (Wrote d (x - y) 1 s) ∧
   Completes (.and d a b) s (Wrote d (x &&& y) 1 s) ∧
   Completes (.or d a b) s (Wrote d (x ||| y) 1 s) ∧
   Completes (.xor d a b) s (Wrote d (x ^^^ y) 1 s) ∧
   Completes (.andn d a b) s (Wrote d (x &&& ~~~y) 1 s) ∧
   Completes (.sll d a b 0#1) s (Wrote d (x <<< (y.toNat % 64)) 1 s) ∧
   Completes (.srl d a b 0#1) s (Wrote d (x >>> (y.toNat % 64)) 1 s) ∧
   Completes (.sra d a b 0#1) s (Wrote d (x.sshiftRight (y.toNat % 64)) 1 s) ∧
   Completes (.rol d a b 0#1) s (Wrote d (x.rotateLeft (y.toNat % 64)) 1 s) ∧
   Completes (.ror d a b 0#1) s (Wrote d (x.rotateRight (y.toNat % 64)) 1 s) ∧
   Completes (.slt d a b) s (Wrote d (if x.slt y then 1#64 else 0#64) 1 s) ∧
   Completes (.sltu d a b) s (Wrote d (if x < y then 1#64 else 0#64) 1 s) ∧
   Completes (.min d a b) s (Wrote d (if x.slt y then x else y) 1 s) ∧
   Completes (.max d a b) s (Wrote d (if x.slt y then y else x) 1 s) ∧
   Completes (.minu d a b) s (Wrote d (if x < y then x else y) 1 s) ∧
   Completes (.maxu d a b) s (Wrote d (if x < y then y else x) 1 s) ∧
   Completes (.mul d a b 0#1) s (Wrote d (x * y) 1 s) ∧
   Completes (.mulh d a b) s (Wrote d ((x.signExtend 128 * y.signExtend 128).extractLsb' 64 64) 1 s) ∧
   Completes (.mulhu d a b) s (Wrote d ((x.setWidth 128 * y.setWidth 128).extractLsb' 64 64) 1 s)) ∧
  (∀ (s : State) (d a b : BitVec 5),
   let x := (s.ctx.g a.toNat).setWidth 32
   let y := (s.ctx.g b.toNat).setWidth 32
   Completes (.add d a b 1#1) s (Wrote d ((x + y).signExtend 64) 1 s) ∧
   Completes (.sub d a b 1#1) s (Wrote d ((x - y).signExtend 64) 1 s) ∧
   Completes (.mul d a b 1#1) s (Wrote d ((x * y).signExtend 64) 1 s) ∧
   Completes (.sll d a b 1#1) s (Wrote d ((x <<< (y.toNat % 32)).signExtend 64) 1 s) ∧
   Completes (.srl d a b 1#1) s (Wrote d ((x >>> (y.toNat % 32)).signExtend 64) 1 s) ∧
   Completes (.sra d a b 1#1) s (Wrote d ((x.sshiftRight (y.toNat % 32)).signExtend 64) 1 s) ∧
   Completes (.rol d a b 1#1) s (Wrote d ((x.rotateLeft (y.toNat % 32)).signExtend 64) 1 s) ∧
   Completes (.ror d a b 1#1) s (Wrote d ((x.rotateRight (y.toNat % 32)).signExtend 64) 1 s)) ∧
  (∀ (s : State) (d a : BitVec 5) (w : BitVec 1),
   let n := if w = 1#1 then 32 else 64
   let x := s.ctx.g a.toNat
   (∃ c, c ≤ n ∧ (∀ i < c, bit x (n - 1 - i) = false) ∧ (c < n → bit x (n - 1 - c) = true) ∧
     Completes (.clz d a w) s (Wrote d (BitVec.ofNat 64 c) 1 s)) ∧
   (∃ c, c ≤ n ∧ (∀ i < c, bit x i = false) ∧ (c < n → bit x c = true) ∧
     Completes (.ctz d a w) s (Wrote d (BitVec.ofNat 64 c) 1 s)) ∧
   Completes (.popc d a w) s (Wrote d (BitVec.ofNat 64 ((List.range n).countP fun i => bit x i)) 1 s)) ∧
  (∀ (s : State) (d a b : BitVec 5),
   let x := s.ctx.g a.toNat
   let y := s.ctx.g b.toNat
   let p := x.setWidth 32
   let q := y.setWidth 32
   Completes (.div d a b 0#1) s (Wrote d (if y = 0#64 then BitVec.allOnes 64 else x.sdiv y) 1 s) ∧
   Completes (.divu d a b 0#1) s (Wrote d (if y = 0#64 then BitVec.allOnes 64 else x / y) 1 s) ∧
   Completes (.rem d a b 0#1) s (Wrote d (if y = 0#64 then x else x.srem y) 1 s) ∧
   Completes (.remu d a b 0#1) s (Wrote d (if y = 0#64 then x else x % y) 1 s) ∧
   Completes (.div d a b 1#1) s (Wrote d ((if q = 0#32 then BitVec.allOnes 32 else p.sdiv q).signExtend 64) 1 s) ∧
   Completes (.divu d a b 1#1) s (Wrote d ((if q = 0#32 then BitVec.allOnes 32 else p / q).signExtend 64) 1 s) ∧
   Completes (.rem d a b 1#1) s (Wrote d ((if q = 0#32 then p else p.srem q).signExtend 64) 1 s) ∧
   Completes (.remu d a b 1#1) s (Wrote d ((if q = 0#32 then p else p % q).signExtend 64) 1 s) ∧
   (x = BitVec.intMin 64 ∧ y = BitVec.allOnes 64 →
     Completes (.div d a b 0#1) s (Wrote d (BitVec.intMin 64) 1 s) ∧ Completes (.rem d a b 0#1) s (Wrote d 0#64 1 s)) ∧
   (p = BitVec.intMin 32 ∧ q = BitVec.allOnes 32 →
     Completes (.div d a b 1#1) s (Wrote d ((BitVec.intMin 32).signExtend 64) 1 s) ∧
     Completes (.rem d a b 1#1) s (Wrote d 0#64 1 s)))

/-- The immediate ALU instructions (04_context R114), the shifts by an amount (R115) and the constants (R116); LIW and LIH are two words
long, and LIH keeps the low half of its destination. -/
def Obligations.ImmediatesAndConstants : Prop := ∀ (s : State) (d a : BitVec 5) (i : BitVec 16) (n : BitVec 6) (k : BitVec 32),
  let x := s.ctx.g a.toNat
  Completes (.addi d a i) s (Wrote d (x + i.signExtend 64) 1 s) ∧
  Completes (.andi d a i) s (Wrote d (x &&& i.signExtend 64) 1 s) ∧
  Completes (.ori d a i) s (Wrote d (x ||| i.setWidth 64) 1 s) ∧
  Completes (.xori d a i) s (Wrote d (x ^^^ i.setWidth 64) 1 s) ∧
  Completes (.slti d a i) s (Wrote d (if x.slt (i.signExtend 64) then 1#64 else 0#64) 1 s) ∧
  Completes (.sltiu d a i) s (Wrote d (if x < i.signExtend 64 then 1#64 else 0#64) 1 s) ∧
  Completes (.slli d a n) s (Wrote d (x <<< n.toNat) 1 s) ∧
  Completes (.srli d a n) s (Wrote d (x >>> n.toNat) 1 s) ∧
  Completes (.srai d a n) s (Wrote d (x.sshiftRight n.toNat) 1 s) ∧
  Completes (.rori d a n) s (Wrote d (x.rotateRight n.toNat) 1 s) ∧
  Completes (.lui d i) s (Wrote d (i.signExtend 64 * 65536#64) 1 s) ∧
  Completes (.addpc d i) s (Wrote d (s.ctx.pc + 4#64 * i.signExtend 64) 1 s) ∧
  Completes (.liw d k) s (Wrote d (k.signExtend 64) 2 s) ∧
  Completes (.lih d k) s (Wrote d (k ++ (s.ctx.g d.toNat).setWidth 32) 2 s)

/-! ### Control flow and predicates -/

/-- A branch goes to PC + 4 x sext(off13) when the condition of its cond holds and to the next instruction otherwise, and writes no
register (04_context R122). JAL links PC + 4 and goes to PC + 4 x sext(off21); JALR forms its target from g[ra] before it writes the link,
and goes there when the target is word-aligned (04_context R123). A JALR whose target is not word-aligned traps with MISALIGNED and the
target as the value, and writes no register (04_context R123, 05_traps R137). -/
def Obligations.BranchesAndJumps : Prop :=
  (∀ (s : State) (a b : BitVec 5) (p : BitVec 3) (o : BitVec 13),
   let x := s.ctx.g a.toNat
   let y := s.ctx.g b.toNat
   let target := s.ctx.pc + 4#64 * o.signExtend 64
   let goes (taken : Bool) (t : State) : Prop := if taken then WentTo target 0#5 0#64 s t else Wrote 0#5 0#64 1 s t
   Completes (.beq a b o) s (goes (x == y)) ∧
   Completes (.bne a b o) s (goes (x != y)) ∧
   Completes (.blt a b o) s (goes (x.slt y)) ∧
   Completes (.bge a b o) s (goes (!x.slt y)) ∧
   Completes (.bltu a b o) s (goes (x.ult y)) ∧
   Completes (.bgeu a b o) s (goes (!x.ult y)) ∧
   Completes (.bp p o) s (goes (s.ctx.p p.toNat)) ∧
   Completes (.bnp p o) s (goes (!s.ctx.p p.toNat))) ∧
  (∀ (s : State) (d a : BitVec 5) (o : BitVec 21) (i : BitVec 16),
   let link := s.ctx.pc + 4#64
   let target := s.ctx.g a.toNat + i.signExtend 64
   Completes (.jal d o) s (WentTo (s.ctx.pc + 4#64 * o.signExtend 64) d link s) ∧
   (target.toNat % 4 = 0 → Completes (.jalr d a i) s (WentTo target d link s))) ∧
  (∀ (s : State) (d a : BitVec 5) (i : BitVec 16),
   let target := s.ctx.g a.toNat + i.signExtend 64
   target.toNat % 4 ≠ 0 → s.ctx.trapFatal = false → Completes (.jalr d a i) s (Trapped 0x03 s.ctx.pc target s))

/-- The PRED instructions (04_context R125): comparisons, logic, selection and the two moves of the whole predicate set. -/
def Obligations.Predicates : Prop := ∀ (s : State) (d a b : BitVec 5) (p q r : BitVec 3),
  let x := s.ctx.g a.toNat
  let y := s.ctx.g b.toNat
  Completes (.pcmp p a b 0#3) s (WroteP p (x == y) s) ∧
  Completes (.pcmp p a b 1#3) s (WroteP p (x != y) s) ∧
  Completes (.pcmp p a b 2#3) s (WroteP p (x.slt y) s) ∧
  Completes (.pcmp p a b 3#3) s (WroteP p (!x.slt y) s) ∧
  Completes (.pcmp p a b 4#3) s (WroteP p (x.ult y) s) ∧
  Completes (.pcmp p a b 5#3) s (WroteP p (!x.ult y) s) ∧
  Completes (.pand p q r) s (WroteP p (s.ctx.p q.toNat && s.ctx.p r.toNat) s) ∧
  Completes (.por p q r) s (WroteP p (s.ctx.p q.toNat || s.ctx.p r.toNat) s) ∧
  Completes (.pxor p q r) s (WroteP p (s.ctx.p q.toNat ^^ s.ctx.p r.toNat) s) ∧
  Completes (.pnot p q) s (WroteP p (!s.ctx.p q.toNat) s) ∧
  Completes (.sel d a b p) s (Wrote d (if s.ctx.p p.toNat then x else y) 1 s) ∧
  (∃ v, (∀ k < 8, bit v k = s.ctx.p k) ∧ (∀ k, 8 ≤ k → bit v k = false) ∧ Completes (.pmovFromPredicates d) s (Wrote d v 1 s)) ∧
  Completes (.pmovToPredicates a) s (fun t => Advanced 1 s t ∧ t.ctx.p 0 = true ∧ (∀ k, 1 ≤ k → k < 8 → t.ctx.p k = bit x k) ∧
    OnlyThread s t ∧ t.ctx = { s.ctx with
      preds := t.ctx.preds, pc := t.ctx.pc, instret := t.ctx.instret, counts := t.ctx.counts, phase := .ready, execExempt := false })

/-! ### Scalar floating point -/

/-- FADD, FSUB, FMUL, FDIV, FSQRT and the FMA family (04_context R127, R128, R132), in each format and rounding mode: the rounded result
is written and its conditions accrue, or the first enabled condition traps (R131). The results that 04_context R128 fixes, in each format
and mode: an invalid operation gives the canonical NaN and raises NV, a finite non-zero value divided by zero an infinity of the sign of
the quotient and DZ, and the square root of -0 is -0. -/
def Obligations.FloatArithmetic : Prop :=
  (∀ (s : State) (d a b c : BitVec 5) (m : BitVec 3) (n f : BitVec 2) (rm : Nat),
   let k := scalarFmt f
   let x := (s.ctx.g a.toNat).toNat % 2 ^ k.width
   let y := (s.ctx.g b.toNat).toNat % 2 ^ k.width
   let z := (s.ctx.g c.toNat).toNat % 2 ^ k.width
   ((m.toNat = rm ∧ rm ≤ 4) ∨ (m = 7#3 ∧ rm = field s.ctx.fctl 12 10 ∧ rm ≤ 4) →
     FloatEnds (.fadd d a b m f) d (floatAdd k rm false x y) s ∧
     FloatEnds (.fsub d a b m f) d (floatSub k rm false x y) s ∧
     FloatEnds (.fmul d a b m f) d (floatMul k rm false x y) s ∧
     FloatEnds (.fdiv d a b m f) d (floatDiv k rm false x y) s ∧
     FloatEnds (.fsqrt d a m f) d (floatSqrt k rm false x) s) ∧
   FloatEnds (.fma d a b c f n) d (floatFma k n.toNat false false false x y z) s ∧
   FloatEnds (.fms d a b c f n) d (floatFma k n.toNat false false true x y z) s ∧
   FloatEnds (.fnma d a b c f n) d (floatFma k n.toNat false true false x y z) s ∧
   FloatEnds (.fnms d a b c f n) d (floatFma k n.toNat false true true x y z) s) ∧
  (∀ (f : BitVec 2) (rm : Nat) (x y : Nat),
   let k := scalarFmt f
   let top := 2 ^ (k.width - 1)
   let inf := (2 ^ k.ebits - 1) * 2 ^ k.mbits
   let nan := inf + 2 ^ (k.mbits - 1)
   let finite (z : Nat) : Prop := z % top < inf
   x < 2 ^ k.width → y < 2 ^ k.width →
     floatSub k rm false inf inf = (nan, condNV) ∧
     floatAdd k rm false inf (inf + top) = (nan, condNV) ∧
     (y % top = 0 → floatMul k rm false inf y = (nan, condNV) ∧ floatMul k rm false y inf = (nan, condNV)) ∧
     (x % top = 0 ∧ y % top = 0 → floatDiv k rm false x y = (nan, condNV)) ∧
     (x % top = inf ∧ y % top = inf → floatDiv k rm false x y = (nan, condNV)) ∧
     (finite x ∧ x % top ≠ 0 ∧ y % top = 0 →
       floatDiv k rm false x y = (inf + (if decide (top ≤ x) ^^ decide (top ≤ y) then top else 0), condDZ)) ∧
     (top < x ∧ x ≤ inf + top → floatSqrt k rm false x = (nan, condNV)) ∧
     floatSqrt k rm false top = (top, 0#7))

/-- FMIN and FMAX, the comparisons, FCLASS and the sign instructions (04_context R127, R129): a NaN makes every comparison 0, FEQ raises
NV for a signalling NaN alone and FLT and FLE for any, FCLASS sets exactly one bit, and the sign instructions copy bits exactly. The
conversions (04_context R130): of a signed or unsigned integer of the low w bits of g[ra], to a signed result sign-extended or an unsigned
one zero-extended, and between formats. Dynamic rounding while FCTL.RM holds 5, 6 or 7 raises ILLEGAL with the instruction word as its
value (04_context R104). -/
def Obligations.FloatComparisonsAndConversions : Prop :=
  (∀ (s : State) (d a b : BitVec 5) (f : BitVec 2),
   let k := scalarFmt f
   let x := (s.ctx.g a.toNat).toNat % 2 ^ k.width
   let y := (s.ctx.g b.toNat).toNat % 2 ^ k.width
   let nan := (decodeFloat k x).isNan || (decodeFloat k y).isNan
   let snan := (decodeFloat k x).isSignalling || (decodeFloat k y).isSignalling
   let order := (decodeFloat k x).cmp (decodeFloat k y)
   let flag (holds : Prop) [Decidable holds] : Nat := if !nan && decide holds then 1 else 0
   let magnitude := x % 2 ^ (k.width - 1)
   let signed (neg : Bool) : Word := BitVec.ofNat 64 (magnitude + if neg then 2 ^ (k.width - 1) else 0)
   FloatEnds (.fmin d a b f) d (floatMinMax k false x y) s ∧
   FloatEnds (.fmax d a b f) d (floatMinMax k true x y) s ∧
   FloatEnds (.feq d a b f) d (flag (order = 0), if snan then condNV else 0#7) s ∧
   FloatEnds (.flt d a b f) d (flag (order < 0), if nan then condNV else 0#7) s ∧
   FloatEnds (.fle d a b f) d (flag (order ≤ 0), if nan then condNV else 0#7) s ∧
   (∃ j < 10, Completes (.fclass d a f) s (Wrote d (BitVec.ofNat 64 (2 ^ j)) 1 s)) ∧
   Completes (.fsgnj d a b f) s (Wrote d (signed (y.testBit (k.width - 1))) 1 s) ∧
   Completes (.fsgnjn d a b f) s (Wrote d (signed (!y.testBit (k.width - 1))) 1 s) ∧
   Completes (.fsgnjx d a b f) s (Wrote d (signed (x.testBit (k.width - 1) ^^ y.testBit (k.width - 1))) 1 s)) ∧
  (∀ (s : State) (d a : BitVec 5) (w : BitVec 2) (m : BitVec 3) (f : BitVec 2) (rm : Nat),
   let k := scalarFmt f
   let n := 64 / 2 ^ w.toNat
   let g := (s.ctx.g a.toNat).toNat
   let x := decodeFloat k (g % 2 ^ k.width)
   let v := decodeFloat (scalarFmt w) (g % 2 ^ (scalarFmt w).width)
   let signed := toInteger rm (-2 ^ (n - 1)) (2 ^ (n - 1) - 1) n x
   let unsigned := toInteger rm 0 (2 ^ n - 1) n x
   (m.toNat = rm ∧ rm ≤ 4) ∨ (m = 7#3 ∧ rm = field s.ctx.fctl 12 10 ∧ rm ≤ 4) →
     FloatEnds (.fcvtFi d a w m f) d
       (roundVal k rm false (.fin (decide ((BitVec.ofNat n g).toInt < 0)) (BitVec.ofNat n g).toInt.natAbs 0)) s ∧
     FloatEnds (.fcvtFn d a w m f) d (roundVal k rm false (.fin false (g % 2 ^ n) 0)) s ∧
     FloatEnds (.fcvtIf d a w m f) d (((BitVec.ofNat n signed.1).signExtend 64).toNat, signed.2) s ∧
     FloatEnds (.fcvtNf d a w m f) d (unsigned.1 % 2 ^ n, unsigned.2) s ∧
     FloatEnds (.fcvtFf d a w m f) d
       ((roundVal k rm false v).1, (roundVal k rm false v).2 ||| if v.isSignalling then condNV else 0#7) s) ∧
  (∀ (s : State) (d a b : BitVec 5) (w f : BitVec 2) (i : Instr),
   i = .fadd d a b 7#3 f ∨ i = .fsub d a b 7#3 f ∨ i = .fmul d a b 7#3 f ∨ i = .fdiv d a b 7#3 f ∨ i = .fsqrt d a 7#3 f ∨
     i = .fcvtFi d a w 7#3 f ∨ i = .fcvtFn d a w 7#3 f ∨ i = .fcvtIf d a w 7#3 f ∨ i = .fcvtNf d a w 7#3 f ∨ i = .fcvtFf d a w 7#3 f →
   5 ≤ field s.ctx.fctl 12 10 → s.ctx.trapFatal = false →
     ∀ word, encode i = some (word, none) → Completes i s (Trapped 0x01 s.ctx.pc (BitVec.ofNat 64 word) s))

/-! ### Special registers, traps and the system instructions -/

/-- CSRR of a thread's register that waits for nothing gives the register's value (04_context R102, 05_traps R152): status, trap, vector,
tile, identity and counter registers. CSRW, CSRS and CSRC write to g[d] the old value and to the register the bits of each writable field:
those of g[a], or the old value with the bits of g[a] set or cleared (05_traps R151, R152); a VSTART beyond 32,767 and a zero VSHARE or
TSHARE are ignored. CSRS and CSRC with ra = 0 only read. The refusals of CSR instructions, in order (05_traps R152): an unassigned number
is ILLEGAL, a system register without system privilege PRIVILEGE, a write of a register of read-only fields ILLEGAL, and a write that sets
STATUS.SYS from 0 PRIVILEGE; each has the word as its value. -/
def Obligations.CsrInstructions : Prop :=
  (∀ (s : State) (d : BitVec 5) (c : BitVec 12) (v : Word),
   ((c = 0x000#12 ∧ v = s.ctx.status) ∨ (c = 0x001#12 ∧ v = s.ctx.cause) ∨ (c = 0x002#12 ∧ v = s.ctx.epc) ∨
    (c = 0x003#12 ∧ v = s.ctx.tval) ∨ (c = 0x004#12 ∧ v = s.ctx.tvec) ∨ (c = 0x005#12 ∧ v = s.ctx.scratch) ∨
    (c = 0x010#12 ∧ v = s.ctx.vl) ∨ (c = 0x011#12 ∧ v = s.ctx.vtype) ∨ (c = 0x015#12 ∧ v = s.ctx.vreq) ∨
    (c = 0x013#12 ∧ v = BitVec.ofNat 64 (s.ctx.share / s.ctx.vnreg)) ∨ (c = 0x014#12 ∧ v = BitVec.ofNat 64 s.ctx.vnreg) ∨
    (c = 0x016#12 ∧ v = s.ctx.vslip) ∨ (c = 0x017#12 ∧ v = s.ctx.vshare) ∨ (c = 0x020#12 ∧ v = s.ctx.hvl) ∨
    (c = 0x021#12 ∧ v = s.ctx.hvtype) ∨ (c = 0x022#12 ∧ v = s.ctx.hvstart) ∨ (c = 0x030#12 ∧ v = s.ctx.tctl) ∨
    (c = 0x034#12 ∧ v = s.ctx.tshare) ∨ (c = 0x040#12 ∧ v = BitVec.ofNat 64 s.cur.slot) ∨
    (c = 0x041#12 ∧ v = BitVec.ofNat 64 s.cur.core) ∨ (c = 0x043#12 ∧ v = BitVec.ofNat 64 (s.cur.cluster / 352)) ∨
    (c = 0x044#12 ∧ v = s.ctx.khandle) ∨ (c = 0x045#12 ∧ v = s.ctx.striplen) ∨ (c = 0x046#12 ∧ v = s.ctx.asid.setWidth 64) ∨
    (c = 0x053#12 ∧ v = s.ctx.instret) ∨ (c = 0x07E#12 ∧ v = s.ctx.dbgctl)) →
   Completes (.csrr d c) s (Wrote d v 1 s)) ∧
  (∀ (s : State) (d a : BitVec 5) (op : Fin 3),
   let i (c : BitVec 12) : Instr := match op with | 0 => .csrw d a c | 1 => .csrs d a c | 2 => .csrc d a c
   let x := s.ctx.g a.toNat
   let new (old : Word) : Word := match op with | 0 => x | 1 => old ||| x | 2 => old &&& ~~~x
   let writes (c : BitVec 12) (hi lo : Nat) (old : Word) (put : Word → Thread) : Prop :=
     ∃ v, FieldTaken hi lo old (new old) v ∧ Completes (i c) s (CsrDone d old (put v) s)
   (op ≠ 0 ∧ a = 0#5 → Completes (i 0x010#12) s (Wrote d s.ctx.vl 1 s) ∧ Completes (i 0x005#12) s (Wrote d s.ctx.scratch 1 s)) ∧
   (op = 0 ∨ a ≠ 0#5 →
     ((bit (new s.ctx.status) 3 = false ∨ s.ctx.sys = true) → writes 0x000#12 3 0 s.ctx.status fun v => { s.ctx with status := v }) ∧
     writes 0x001#12 7 0 s.ctx.cause (fun v => { s.ctx with cause := v }) ∧
     writes 0x002#12 63 2 s.ctx.epc (fun v => { s.ctx with epc := v }) ∧
     writes 0x003#12 63 0 s.ctx.tval (fun v => { s.ctx with tval := v }) ∧
     writes 0x004#12 63 2 s.ctx.tvec (fun v => { s.ctx with tvec := v }) ∧
     writes 0x005#12 63 0 s.ctx.scratch (fun v => { s.ctx with scratch := v }) ∧
     (s.csrWaits 0x006 = false → writes 0x006#12 13 0 s.ctx.fctl fun v => { s.ctx with fctl := v }) ∧
     (s.csrWaits 0x012 = false ∧ field (new s.ctx.vstart) 16 0 ≤ 32767 →
       writes 0x012#12 16 0 s.ctx.vstart fun v => { s.ctx with vstart := v }) ∧
     (s.csrWaits 0x012 = false ∧ 32767 < field (new s.ctx.vstart) 16 0 → Completes (i 0x012#12) s (CsrDone d s.ctx.vstart s.ctx s)) ∧
     (field (new s.ctx.vshare) 3 0 ≠ 0 → writes 0x017#12 3 0 s.ctx.vshare fun v => { s.ctx with vshare := v }) ∧
     (field (new s.ctx.vshare) 3 0 = 0 → Completes (i 0x017#12) s (CsrDone d s.ctx.vshare s.ctx s)) ∧
     (s.csrWaits 0x018 = false → writes 0x018#12 6 0 s.ctx.vflags fun v => { s.ctx with vflags := v }) ∧
     writes 0x020#12 63 0 s.ctx.hvl (fun v => { s.ctx with hvl := v }) ∧
     writes 0x021#12 63 0 s.ctx.hvtype (fun v => { s.ctx with hvtype := v }) ∧
     writes 0x022#12 63 0 s.ctx.hvstart (fun v => { s.ctx with hvstart := v }) ∧
     (s.csrWaits 0x033 = false → writes 0x033#12 4 0 s.ctx.tflags fun v => { s.ctx with tflags := v }) ∧
     (field (new s.ctx.tshare) 3 0 ≠ 0 → writes 0x034#12 3 0 s.ctx.tshare fun v => { s.ctx with tshare := v }) ∧
     writes 0x07A#12 4 0 s.ctx.bpctl (fun v => { s.ctx with bpctl := v }))) ∧
  (∀ (s : State) (d a : BitVec 5) (c : BitVec 12) (i : Instr) (word : Nat),
   (i = .csrr d c ∨ i = .csrw d a c ∨ i = .csrs d a c ∨ i = .csrc d a c) → encode i = some (word, none) → s.ctx.trapFatal = false →
   let traps (code : Nat) : Prop := Completes i s (Trapped code s.ctx.pc (BitVec.ofNat 64 word) s)
   (csrAssigned c = false → traps 0x01) ∧
   (csrAssigned c = true ∧ 0x100 ≤ c.toNat ∧ s.ctx.sys = false → traps 0x02) ∧
   (csrAssigned c = true ∧ (c.toNat < 0x100 ∨ s.ctx.sys = true) ∧ s.csrWritable c.toNat = false ∧
     (i = .csrw d a c ∨ a ≠ 0#5 ∧ (i = .csrs d a c ∨ i = .csrc d a c)) → traps 0x01) ∧
   (c = 0#12 ∧ s.ctx.sys = false ∧ bit (s.ctx.g a.toNat) 3 = true ∧ (i = .csrw d a c ∨ a ≠ 0#5 ∧ i = .csrs d a c) → traps 0x02))

/-- SYSCALL retires and then traps with EPC at the next instruction and its service code; BREAK traps at itself with its code, or stops a
thread that a debugger owns (05_traps R133, R155). TRAPRET in handler mode with a bank that a thread may resume with restores VL, VTYPE
and VSTART from the bank and goes on at EPC; it clears VLOSS if that is set and stays in handler mode, else clears HM; HTE, CAUSE, TVAL
and the bank stand, and it counts once (05_traps R156). -/
def Obligations.SystemCallsAndTrapReturn : Prop :=
  (∀ (s : State) (c : BitVec 12),
   (s.ctx.trapFatal = false → Completes (.syscall c) s fun t =>
     Trapped 0x10 (s.ctx.pc + 4#64) (c.setWidth 64) s.retire t ∧ t.ctx.instret = s.ctx.instret + 1#64) ∧
   (s.ctx.owned = false → s.ctx.trapFatal = false → Completes (.brk c) s (Trapped 0x0E s.ctx.pc (c.setWidth 64) s)) ∧
   (s.ctx.owned = true → Completes (.brk c) s (StoppedFor s))) ∧
  (∀ (s : State),
   let block := if field s.ctx.hvtype 6 5 = 0 then 1 else 2 ^ (3 + field s.ctx.hvtype 6 5)
   let valid := bit s.ctx.hvtype 10
   let width := fmtWidth (field s.ctx.hvtype 4 0)
   let badTyped := field s.ctx.hvtype 4 0 = 31 ∨ field s.ctx.hvtype 63 11 ≠ 0 ∨ s.ctx.vlmax * 8 / width < s.ctx.hvl.toNat ∨
     s.ctx.hvl.toNat % block ≠ 0
   let badUntyped := s.ctx.hvtype ≠ 0#64 ∨ s.ctx.hvl ≠ 0#64
   let bad := (valid = true ∧ badTyped) ∨ (valid = false ∧ badUntyped) ∨ 2 ^ 15 ≤ s.ctx.hvstart.toNat
   (s.ctx.hm = true ∧ ¬bad → Completes .trapret s fun t =>
     t.ctx.vl = s.ctx.hvl ∧ t.ctx.vtype = s.ctx.hvtype ∧ t.ctx.vstart = s.ctx.hvstart ∧ t.ctx.pc = s.ctx.epc ∧
     t.ctx.instret = s.ctx.instret + 1#64 ∧
     (∀ k, bit t.ctx.status k =
       if k = 2 then false else if k = 0 then bit s.ctx.status 2 else bit s.ctx.status k) ∧
     t.ctx = { s.ctx with
       vl := t.ctx.vl, vtype := t.ctx.vtype, vstart := t.ctx.vstart, pc := t.ctx.pc, status := t.ctx.status, fetch := t.ctx.fetch
       instret := t.ctx.instret, counts := t.ctx.counts, phase := .ready, execExempt := true } ∧
     OnlyThread s t) ∧
   (s.ctx.trapFatal = false → s.ctx.hm = false → Completes .trapret s (Trapped 0x01 s.ctx.pc 0x4C006000#64 s)) ∧
   (s.ctx.trapFatal = false → s.ctx.hm = true → bad → Completes .trapret s (Trapped 0x01 s.ctx.pc s.ctx.hvtype s)))

/-- A word that decodes to nothing raises ILLEGAL with the word as its value, and with two words the first in [31:0] and the second in
[63:32] (03_encoding R78, R79); a fault on the fetch of the next instruction is taken on it (04_context R124, 06_group R168). A trap of a
thread of no kernel while TVEC = 0, or in handler mode with HTE = 0, is not delivered: the thread RETIRES with every CSR as it was, and
the cause, the PC and the value are reported; of a thread of a kernel it ends the kernel, which is ABORTING with THREADFATAL (04_context
R105, 05_traps R137, 12_kernel R318). -/
def Obligations.IllegalAndFatalTraps : Prop :=
  (∀ (s : State) (w x : BitVec 32) (a : Word), s.ctx.trapFatal = false →
   Completes (.illegalWord w none) s (Trapped 0x01 s.ctx.pc (w.setWidth 64) s) ∧
   Completes (.illegalWord w (some x)) s (Trapped 0x01 s.ctx.pc (x ++ w) s) ∧
   Completes (.fetchFaultIssue (.access a)) s (Trapped 0x05 s.ctx.pc a s) ∧
   Completes (.fetchFaultIssue (.pageFault a)) s (Trapped 0x04 s.ctx.pc a s)) ∧
  (∀ (s : State) (w : BitVec 32),
   s.ctx.kernel = none → (s.ctx.tvec = 0#64 ∨ (s.ctx.hm = true ∧ bit s.ctx.status 1 = false)) →
   Completes (.illegalWord w none) s fun t =>
     t.ctx = { s.ctx with phase := .retired, fetch := [] } ∧
     t.pkg.reports = s.pkg.reports ++ [.bootStop s.cur 0x01 s.ctx.pc (w.setWidth 64)] ∧ SameBytes s t) ∧
  (∀ (s : State) (w : BitVec 32) (k : Nat) (x : Kernel),
   s.ctx.kernel = some k → s.kernel k = some x → x.state.abortable = true → x.tag = none → (∀ e ∈ s.kernels, e.2.parent ≠ some k) →
   (s.ctx.tvec = 0#64 ∨ (s.ctx.hm = true ∧ bit s.ctx.status 1 = false)) →
   Completes (.illegalWord w none) s fun t =>
     t.ctx.phase = .retired ∧ t.ctx.cause = s.ctx.cause ∧ t.ctx.epc = s.ctx.epc ∧ t.ctx.tval = s.ctx.tval ∧ SameBytes s t ∧
     t.pkg.reports = s.pkg.reports ∧ t.kernel k = some { x with state := .aborting, status := 0x44, phaseAt := s.now })

/-- For a long instruction that raises ILLEGAL, TVAL[31:0] holds the first word and TVAL[63:32] the second (03_encoding R79). -/
def Obligations.LongIllegalValue : Prop := ∀ (s : State) (w x : BitVec 32), s.ctx.trapFatal = false →
  Completes (.illegalWord w (some x)) s fun t =>
    t.ctx.cause = 1#64 ∧ t.ctx.tval.extractLsb' 0 32 = w ∧ t.ctx.tval.extractLsb' 32 32 = x

/-- A FENCE passes when every earlier event of the paths and kinds it selects has been performed and, with [6], every engine command of
the thread has completed; until then the thread waits (11_ordering R289-R291). One that orders the scalar path's stores performs them at its
scope: from .clu on no line dirty with a store of the thread stays in its core's cache, from .pkg on none in its die's (04_context R464,
11_ordering R291). A WAIT passes when each counter it names, one whose operand is not 7, is at most its operand; then it reports by
COPYFAULT the oldest failed operation it covers, once, or retires (10_buffer R257). -/
def Obligations.FencesAndWaits : Prop :=
  (∀ (s : State) (x : BitVec 3) (b : BitVec 7),
   let core := s.core (coreKey s.cur)
   let mine (v : VCmd) : Bool := v.slot == s.cur.slot
   let atHome (l : PendingLoad) : Bool := match l.kind with | .atHome _ => true | _ => false
   let reads := b.getLsbD 0 || b.getLsbD 1
   let writes := b.getLsbD 2 || b.getLsbD 3
   let scalarDone := (reads = true → s.ctx.loads = []) ∧ (writes = true → s.ctx.stores = [] ∧ s.ctx.loads.any atHome = false)
   let tiles := core.tileQ.filter (fun e => e.slot == s.cur.slot) ++ (match (s.cluster (coreKey s.cur / 8)).matrix with
     | some (j, e) => if j = coreKey s.cur % 8 ∧ e.slot = s.cur.slot then [e] else []
     | none => [])
   let vectorDone := (reads = true → core.loadQ.any mine = false ∧ ∀ e ∈ tiles, e.op ≠ .trest) ∧
     (writes = true → core.storeQ.any mine = false ∧ ∀ e ∈ tiles, e.op ≠ .tsave)
   let engineDone := ∀ e ∈ (s.cluster s.cur.cluster).engine, e.owner = s.cur → e.state = .complete
   let passes := (b.getLsbD 5 = true → scalarDone) ∧ (b.getLsbD 4 = true → vectorDone) ∧ (b.getLsbD 6 = true → engineDone)
   let backed := if b.getLsbD 5 = true ∧ writes = true then s.flush s.cur x.toNat else s
   (passes → WroteBack s backed ∧ Completes (.fence x b) s (Wrote 0#5 0#64 1 backed)) ∧ (¬passes → Completes (.fence x b) s (Held s))) ∧
  (∀ (s : State) (scope : Nat),
   let t := s.flush s.cur scope
   WroteBack s t ∧ (scope = 0 → t = s) ∧
   (1 ≤ scope → ∀ e ∈ (t.core (coreKey s.cur)).dcache, e.dirtyBy s.cur = false) ∧
   (3 ≤ scope → ∀ e ∈ (t.die (s.cur.cluster / 352)).cache, e.dirtyBy s.cur = false)) ∧
  (∀ (s : State) (l x c n : BitVec 3),
   let met := (l ≠ 7#3 → s.cntld s.cur ≤ l.toNat) ∧ (x ≠ 7#3 → s.cntst s.cur ≤ x.toNat) ∧
     (c ≠ 7#3 → s.cntcp s.cur ≤ c.toNat) ∧ (n ≠ 7#3 → s.cnttl s.cur ≤ n.toNat)
   let covers (f : FailedOp) : Bool := if f.tile then n != 7#3 else c != 7#3
   (met ∧ s.ctx.failed.find? covers = none → Completes (.wait l x c n) s (Wrote 0#5 0#64 1 s)) ∧
   (∀ f, met → s.ctx.failed.find? covers = some f → s.ctx.trapFatal = false →
     Completes (.wait l x c n) s
       (Trapped 0x0C s.ctx.pc f.mask { s with ctx := { s.ctx with failed := s.ctx.failed.filter fun g => g.id != f.id } })) ∧
   (¬met → Completes (.wait l x c n) s (Held s)))

/-- YIELD leaves the thread YIELDED at the next instruction, TIME writes the die's package time, and ISYNC, once the thread has no
outstanding store, empties the cluster instruction cache and the thread's fetch buffer and changes no byte of memory; before, it waits
(06_group R171, 16_link R407, 05_traps R157). YIELDW of an address that may be read leaves the thread YIELDED at the next instruction with
the 64 bytes that hold the address as its watched line; no byte of memory changes (14_barrier R370, R371). A YIELD ends when no thread of
its set still has to issue or 31 cycles have passed, a YIELDW when a reason has been given, which it writes to g[d]; the thread is READY
(06_group R171, 14_barrier R371). The watch of a YIELDW on host memory or a local store is entered at its line's home, where a full table
of 16 wakes the thread with reason 3, as does a page that migrates; and a timeout withdraws the watch and wakes the thread with reason 2
(14_barrier R371). EXIT of a
thread with loads outstanding waits; without, the thread RETIRES past the EXIT, counts it, and its queue bindings are released; for a
thread of no kernel and for one whose kernel has a thread that has not retired nothing of the kernel changes (06_group R172, 13_queue
R332). With its last thread's EXIT a RUNNING kernel is DRAINING, or, where no work of its threads is outstanding, DONE under the next done
number with its threads' slots FREE (12_kernel R304). -/
def Obligations.YieldsAndExits : Prop :=
  (∀ (s : State) (d : BitVec 5),
   Completes .yield s (fun t => t.ctx.phase = .yielded ∧ t.ctx.pc = s.ctx.pc + 4#64 ∧ t.ctx.instret = s.ctx.instret + 1#64 ∧
     (∀ k, t.ctx.g k = s.ctx.g k) ∧ (∀ k, t.ctx.p k = s.ctx.p k) ∧
     (∃ y, t.ctx.yield = some y ∧ y.since = s.now ∧ y.watch = none) ∧ OnlyThread s t) ∧
   Completes (.time d) s (Wrote d (BitVec.ofNat 64 (s.ptime (s.cur.cluster / 352))) 1 s) ∧
   (s.cntst s.cur = 0 → Completes .isync s fun t => Advanced 1 s t ∧ (t.cluster s.cur.cluster).icache = [] ∧ t.ctx.fetch = [] ∧
     (∀ k, t.ctx.g k = s.ctx.g k) ∧ SameBytes s t ∧ t.others = s.others ∧ t.cores = s.cores) ∧
   (s.cntst s.cur ≠ 0 → Completes .isync s (Held s))) ∧
  (∀ (s s1 : State) (d a : BitVec 5) (n : BitVec 12) (p : Place),
   s.reach s.agent (.thread s.cur false) true false false (s.ctx.g a.toNat) = (.place p, s1) →
   Completes (.yieldw d a n) s fun t => t.ctx.phase = .yielded ∧ t.ctx.pc = s.ctx.pc + 4#64 ∧ t.ctx.instret = s.ctx.instret + 1#64 ∧
     (∀ k, t.ctx.g k = s.ctx.g k) ∧
     (∃ y, t.ctx.yield = some y ∧ y.watch = some (p.loc / 64 * 64) ∧ y.rd = d.toNat ∧ y.timeout = n.toNat ∧ y.wake = none) ∧
     SameBytes s t) ∧
  (∀ (s : State) (u : ThreadRef) (y : YieldInfo),
   (s.thread u).phase = .yielded → (s.thread u).yield = some y → bit (s.thread u).status 4 = false →
   (y.watch = none → (y.others = [] ∨ y.since + 31 ≤ s.now) →
     Completes (.yieldWake u) s fun t => t.thread u = { s.thread u with phase := .ready, yield := none } ∧ SameBytes s t) ∧
   (∀ line r, y.watch = some line → y.wake = some r →
     Completes (.yieldWake u) s fun t => t.thread u = { (s.thread u).setG y.rd (BitVec.ofNat 64 r) with phase := .ready, yield := none } ∧
       SameBytes s t)) ∧
  (∀ (s : State) (u : ThreadRef) (y : YieldInfo) (line : Nat),
   (s.thread u).phase = .yielded → (s.thread u).yield = some y → y.wake = none → y.watch = some line →
   let woken (r : Nat) (t : State) : Prop := (t.thread u).yield = some { y with wake := some r } ∧ SameBytes s t
   let store := (s.core ((line - 2 ^ 63) / 2 ^ 18)).localStore.watches
   (y.registered = false → s.migrating line = true → Completes (.yieldwWatchRegistration u) s (woken 3)) ∧
   (y.registered = false → s.migrating line = false → 2 ^ 60 ≤ line → line < 2 ^ 61 → Completes (.yieldwWatchRegistration u) s fun t =>
     (u, line) ∈ t.pkg.watches ∧ (t.thread u).yield = some { y with registered := true } ∧ SameBytes s t) ∧
   (y.registered = false → s.migrating line = false → 2 ^ 63 ≤ line → line < 2 ^ 64 → store.length < 16 →
     Completes (.yieldwWatchRegistration u) s fun t =>
     (t.core ((line - 2 ^ 63) / 2 ^ 18)).localStore.watches = store ++ [(u, line)] ∧
     (t.thread u).yield = some { y with registered := true } ∧ SameBytes s t) ∧
   (y.registered = false → 2 ^ 63 ≤ line → line < 2 ^ 64 → 16 ≤ store.length → Completes (.yieldwWatchRegistration u) s (woken 3)) ∧
   (0 < y.timeout → y.since + 256 * y.timeout ≤ s.now → Completes (.yieldwTimeout u) s fun t =>
     woken 2 t ∧ (∀ w ∈ t.pkg.watches, w.1 ≠ u))) ∧
  (∀ (s : State),
   (s.cntld s.cur ≠ 0 → Completes .exit s (Held s)) ∧
   (s.cntld s.cur = 0 → (s.ctx.kernel = none ∨ ∃ k x u, s.ctx.kernel = some k ∧ s.kernel k = some x ∧ u ∈ x.threads ∧ u ≠ s.cur ∧
       (s.thread u).phase ≠ .retired) →
     Completes .exit s fun t => t.ctx.phase = .retired ∧ t.ctx.pc = s.ctx.pc + 4#64 ∧ t.ctx.instret = s.ctx.instret + 1#64 ∧
       t.ctx.queues = Vector.replicate 16 0#28 ∧ (∀ k, t.ctx.g k = s.ctx.g k) ∧ t.kernels = s.kernels ∧ SameBytes s t) ∧
   (∀ k x, s.cntld s.cur = 0 → s.ctx.kernel = some k → s.kernel k = some x → x.state = .running → s.cur ∈ x.threads →
     (∀ u ∈ x.threads, u ≠ s.cur → (s.thread u).phase = .retired) → (s.partition x.part).killed = [] →
     (s.partition x.part).switched = false →
     ((∃ u ∈ x.threads, s.threadIdle u = false) → Completes .exit s fun t =>
       t.ctx.phase = .retired ∧ t.kernel k = some { x with state := .draining, phaseAt := s.now } ∧ SameBytes s t) ∧
     ((∀ u ∈ x.threads, s.threadIdle u = true) → Completes .exit s fun t =>
       (∃ y, t.kernel k = some y ∧ y.state = .done ∧ y.doneSeq = s.pkg.doneSeq ∧ y.cores = x.cores ∧ y.tag = x.tag) ∧
       t.pkg.doneSeq = s.pkg.doneSeq + 1 ∧ ∀ u ∈ x.threads, (s.thread u).kernel = some k → (t.thread u).phase = .free)))

/-! ### Memory, atomics and full-empty granules -/

/-- A scalar load that passes its checks with fewer than eight loads outstanding is accepted: its place, size and extension stand in the
pending-load table, and no register or byte of memory changes (04_context R117, R118, R120). A scalar store that passes its checks with
fewer than sixteen stores outstanding is accepted with the low bytes of its register; no register or byte of memory changes yet
(04_context R117, R118, R120). Lines that the access's cache fill replaces may be written back (04_context R464). -/
def Obligations.LoadsAndStoresIssue : Prop :=
  (∀ (s s1 : State) (d a : BitVec 5) (o : BitVec 13) (p : Place) (i : Instr) (sz n : Nat),
   ((i = .lb d a o ∧ sz = 0 ∧ n = 1) ∨ (i = .lbu d a o ∧ sz = 1 ∧ n = 1) ∨ (i = .lh d a o ∧ sz = 2 ∧ n = 2) ∨
    (i = .lhu d a o ∧ sz = 3 ∧ n = 2) ∨ (i = .lw d a o ∧ sz = 4 ∧ n = 4) ∨ (i = .lwu d a o ∧ sz = 5 ∧ n = 4) ∨
    (i = .ld d a o ∧ sz = 6 ∧ n = 8)) →
   (s.cntld s.cur < 8 → Reaches (s.ctx.g a.toNat + o.signExtend 64) n false p s s1 → Completes i s fun t =>
     ∃ r, WroteBack s r ∧ Owes { seq := 0, rd := d.toNat, kind := .load sz, place := p, bytes := n } r t) ∧
   (8 ≤ s.cntld s.cur → Completes i s (Held s))) ∧
  (∀ (s s1 : State) (v a : BitVec 5) (o : BitVec 13) (p : Place) (i : Instr) (n : Nat),
   ((i = .sb v a o ∧ n = 1) ∨ (i = .sh v a o ∧ n = 2) ∨ (i = .sw v a o ∧ n = 4) ∨ (i = .sd v a o ∧ n = 8)) →
   (s.cntst s.cur < 16 → Reaches (s.ctx.g a.toNat + o.signExtend 64) n true p s s1 → Completes i s fun t =>
     ∃ r, WroteBack s r ∧ Buffers { seq := 0, place := p, bytes := n, value := (s.ctx.g v.toNat).toNat % 2 ^ (8 * n) } r t) ∧
   (16 ≤ s.cntst s.cur → Completes i s (Held s)))

/-- The checks of a scalar load or store in order (04_context R118, 05_traps R134): a misaligned address traps with MISALIGNED, one that
its window, page or permissions deny with ACCESS, each with the address as the value, and one that needs a walk waits. How addresses are
decoded before translation (10_buffer R247, 16_link R422): a core's own local store in window 0xFE up to its size, the thread's own
scratchpad in 0xFD, the near and far ranges as they stand in ASID 0 before the seal, and nothing else. -/
def Obligations.ScalarAccessTraps : Prop :=
  (∀ (s s1 : State) (d a : BitVec 5) (o : BitVec 13) (i : Instr) (n : Nat) (write : Bool),
   ((write = false ∧ s.cntld s.cur < 8 ∧ ((i = .lb d a o ∧ n = 1) ∨ (i = .lbu d a o ∧ n = 1) ∨ (i = .lh d a o ∧ n = 2) ∨
       (i = .lhu d a o ∧ n = 2) ∨ (i = .lw d a o ∧ n = 4) ∨ (i = .lwu d a o ∧ n = 4) ∨ (i = .ld d a o ∧ n = 8))) ∨
    (write = true ∧ s.cntst s.cur < 16 ∧ ((i = .sb d a o ∧ n = 1) ∨ (i = .sh d a o ∧ n = 2) ∨ (i = .sw d a o ∧ n = 4) ∨
       (i = .sd d a o ∧ n = 8)))) →
   let ea := s.ctx.g a.toNat + o.signExtend 64
   (ea.toNat % n ≠ 0 → s.ctx.trapFatal = false → Completes i s (Trapped 0x03 s.ctx.pc ea s)) ∧
   (ea.toNat % n = 0 → s.reach s.agent (.thread s.cur false) true write false ea = (.deny, s1) → s.ctx.trapFatal = false →
     Completes i s (Trapped 0x05 s.ctx.pc ea s1)) ∧
   (ea.toNat % n = 0 → s.reach s.agent (.thread s.cur false) true write false ea = (.walk, s1) → Completes i s (Held s1))) ∧
  (∀ (s : State) (r : Requester) (micro write : Bool) (ea : Word),
   let reach := s.reach s.agent r micro write false ea
   (field ea 63 18 = 0xFE * 2 ^ 38 → field ea 17 0 < 0x30000 →
     reach = (.place { loc := Loc.localStore (s.cur.cluster * 8 + s.cur.core) (field ea 17 0) }, s)) ∧
   (field ea 63 56 = 0xFE → field ea 55 18 ≠ 0 ∨ 0x30000 ≤ field ea 17 0 → reach = (.deny, s)) ∧
   (field ea 63 20 = 0xFD * 2 ^ 36 → s.clusterAnswers s.agent s.cur.cluster = true → s.scratchOpen s.agent s.cur.cluster = true →
     reach = (.place { loc := Loc.scratch s.cur.cluster (shadowOffset (s.cluster s.cur.cluster) (field ea 19 0))
                       via := some (Loc.scratch s.cur.cluster (field ea 19 0)) }, s)) ∧
   (field ea 63 56 = 0xFD → field ea 55 20 ≠ 0 → reach = (.deny, s)) ∧
   (0 < field ea 63 56 → field ea 63 56 < 0xFB ∨ field ea 63 56 = 0xFF → reach = (.deny, s)) ∧
   (field ea 63 55 = 1 → reach = (.deny, s)) ∧
   (s.pkg.boot ≠ .sealed → s.ctx.asid = 0#16 → field ea 63 55 = 0 →
     (ea.toNat < 0x14000000000 ∨ (0x20000000000 ≤ ea.toNat ∧ ea.toNat < 0x40000000000) →
       reach = (.place { loc := ea.toNat, cached := true, direct := true }, s)) ∧
     (0x14000000000 ≤ ea.toNat → ea.toNat < 0x20000000000 ∨ 0x40000000000 ≤ ea.toNat → reach = (.deny, s))))

/-- The answer to a pending load of a thread writes the bytes at its place, extended by its sz, to its register, and the entry leaves the
table; a store of the thread to the same bytes that is still outstanding is read in their place (04_context R118, R120; 11_ordering R280).
No byte of memory changes. A result formed at its home is written to its register or predicate when it arrives, and the conditions of an
AMOFADD accrue in FCTL (05_traps R147, 11_ordering R295). -/
def Obligations.Responses : Prop :=
  (∀ (s : State) (u : ThreadRef) (k : Nat) (l : PendingLoad) (sz : Nat),
   let p := s.placeNow l.place
   (s.thread u).loads[k]? = some l → l.kind = .load sz → l.watchPc = none → s.loadDue u k = true → s.readPoisoned p l.bytes = false →
   let extend (m : Nat) : Word := match sz with
     | 0 => (BitVec.ofNat 8 m).signExtend 64
     | 1 => BitVec.ofNat 64 (m % 2 ^ 8)
     | 2 => (BitVec.ofNat 16 m).signExtend 64
     | 3 => BitVec.ofNat 64 (m % 2 ^ 16)
     | 4 => (BitVec.ofNat 32 m).signExtend 64
     | 5 => BitVec.ofNat 64 (m % 2 ^ 32)
     | _ => BitVec.ofNat 64 m
   let answers (m : Nat) : Prop := Completes (.loadResponse u k) s fun t =>
     (l.rd ≠ 0 → l.rd < 32 → (t.thread u).g l.rd = extend m) ∧
     (∀ r, r ≠ l.rd → (t.thread u).g r = (s.thread u).g r) ∧
     (t.thread u).loads = ((s.thread u).loads.filter fun x => x.seq != l.seq) ∧
     t.thread u = { s.thread u with regs := (t.thread u).regs, loads := (t.thread u).loads } ∧ SameBytes s t ∧ t.kernels = s.kernels
   ((s.thread u).stores = [] → answers (readPlace s p 0 l.bytes)) ∧
   (∀ w, (s.thread u).stores = [w] → w.seq < l.seq → (s.placeNow w.place).loc = p.loc → w.bytes = l.bytes → w.value < 256 ^ w.bytes →
     answers w.value)) ∧
  (∀ (s : State) (u : ThreadRef) (k : Nat) (l : PendingLoad) (v : Option Word) (b : Option Bool),
   (s.thread u).loads[k]? = some l → l.kind = .result v b → Completes (.loadResponse u k) s fun t =>
     (∀ w, v = some w → l.rd ≠ 0 → l.rd < 32 → (t.thread u).g l.rd = w) ∧
     (∀ c, b = some c → l.pred ≠ 0 → l.pred < 8 → (t.thread u).p l.pred = c) ∧
     (∀ r, r ≠ l.rd ∨ v = none → (t.thread u).g r = (s.thread u).g r) ∧
     (t.thread u).loads = ((s.thread u).loads.filter fun x => x.seq != l.seq) ∧
     (t.thread u).fctl = (s.thread u).fctl ||| BitVec.ofNat 64 (l.conds % 32) ∧
     SameBytes s t ∧ t.kernels = s.kernels)

/-- An outstanding store of a thread that is due becomes visible at its place: its bytes read as stored, every byte outside them reads as
before, it leaves the thread's outstanding stores, and the predicate that a TQPOP owes with it is true (04_context R118, R120; 13_queue
R358). The place of a draft's store is its version's line, and committed memory stands (12_kernel R310, R311). An AMO, barrier or
rendezvous operation that is due is performed at its home as one event (11_ordering R293): its place holds what the operation writes on the
old contents, every other byte reads as before, and its entry holds the result. -/
def Obligations.StoresBecomeVisible : Prop :=
  (∀ (s : State) (u : ThreadRef) (k : Nat) (w : PendingStore),
   let p := s.placeNow w.place
   (s.thread u).stores[k]? = some w → s.storeDue u k = true → w.atHome = false → s.MemOk →
   (∀ e x, (s.thread u).kernel = some e → s.kernel e = some x → x.state ≠ .draining) →
   (p.draft = none → p.loc + w.bytes ≤ 2 ^ 64 → s.behind .failed p.loc = false → Completes (.storeVisible u k) s fun t =>
     (∀ j < w.bytes, Memory.read (p.loc + j) t.mem = BitVec.ofNat 8 (w.value / 256 ^ j)) ∧
     SameBytesOutside p.loc w.bytes s t ∧ (t.thread u).stores = ((s.thread u).stores.filter fun x => x.seq != w.seq) ∧
     (∀ n, w.pred = some n → n ≠ 0 → n < 8 → (t.thread u).p n = true) ∧ (t.thread u).regs = (s.thread u).regs) ∧
   (∀ v, p.draft = some v → p.loc % 256 + w.bytes ≤ 256 → s.slotFor v p.loc = true →
     s.linkState (.nearDie (poolOf p.loc)) ≠ .failed →
     (∃ d ∈ s.pkg.drafts, d.tag = v ∧ d.granule = p.loc / 256 ∧ d.commit = none) →
     (∀ d ∈ s.pkg.drafts, d.granule = p.loc / 256 → d.commit = none → d.tag = v) →
     Completes (.storeVisible u k) s fun t =>
       (∀ j < w.bytes, draftByte t v (p.loc + j) = some (BitVec.ofNat 8 (w.value / 256 ^ j))) ∧ SameBytes s t ∧
       (t.thread u).stores = (s.thread u).stores.filter fun x => x.seq != w.seq)) ∧
  (∀ (s : State) (u : ThreadRef) (k : Nat) (l : PendingLoad) (op : HomeOp),
   let p := s.placeNow l.place
   (s.thread u).loads[k]? = some l → l.kind = .atHome op → s.homeDue u k = true → s.readPoisoned p l.bytes = false → s.MemOk →
   p.draft = none → p.loc + l.bytes ≤ 2 ^ 64 → s.behind .failed p.loc = false → (∀ m ∈ (s.thread u).loads, m.seq = l.seq → m = l) →
   op ≠ .tdep → (∀ c, op ≠ .tarm c) →
   let r := op.apply (readPlace s p 0 l.bytes)
   Completes (.amoAtHome u k) s fun t =>
     (∀ x, r.write = some x → ∀ j < l.bytes, Memory.read (p.loc + j) t.mem = BitVec.ofNat 8 (x / 256 ^ j)) ∧
     (r.write = none → SameBytes s t) ∧ SameBytesOutside p.loc l.bytes s t ∧
     (t.thread u).loads[k]? = some { l with kind := .result r.value r.pred, conds := r.conds } ∧
     (t.thread u).regs = (s.thread u).regs)

/-- The read-modify-writes of the AMO major, the stage barriers and the rendezvous cells are accepted with their operands captured when
their address passes its checks, fewer than eight results are outstanding and, with a release part, every earlier scalar access of the
thread has been performed at its scope; an acquire part holds the thread's next issue (11_ordering R293, R296; 14_barrier R364, R369). STREL
waits for every earlier scalar access of the thread and is accepted as an outstanding store that is performed at its home (11_ordering R293,
R296). BARTEST and RDVPUT owe a predicate and no register (05_traps R147). -/
def Obligations.HomeOperationsIssue : Prop :=
  (∀ (s s1 : State) (d a b : BitVec 5) (z : BitVec 1) (o : BitVec 2) (c : BitVec 3) (p : BitVec 3) (at0 : Place)
     (i : Instr) (op : HomeOp) (n rd pd : Nat) (acquire release write named : Bool),
   let x := s.ctx.g b.toNat
   let old := s.ctx.g d.toNat
   let w := if z = 1#1 then 8 else 4
   let amo (code : Nat) : Prop := op = .amo code w x old ∧ n = w ∧ rd = d.toNat ∧ pd = 0 ∧ write = true ∧
     acquire = o.getLsbD 0 ∧ release = o.getLsbD 1 ∧ named = true
   let both : Prop := acquire = true ∧ release = true
   ((i = .amoadd d a b z o c ∧ amo 0) ∨ (i = .amoand d a b z o c ∧ amo 1) ∨ (i = .amoor d a b z o c ∧ amo 2) ∨
    (i = .amoxor d a b z o c ∧ amo 3) ∨ (i = .amomin d a b z o c ∧ amo 4) ∨ (i = .amomax d a b z o c ∧ amo 5) ∨
    (i = .amominu d a b z o c ∧ amo 6) ∨ (i = .amomaxu d a b z o c ∧ amo 7) ∨ (i = .amoswap d a b z o c ∧ amo 8) ∨
    (i = .amocas d a b z o c ∧ amo 9) ∨ (i = .amofadd d a b z o c ∧ amo 12 ∧ Loc.isPeer at0.loc = false) ∨
    (i = .lda d a z c ∧ op = .amo 10 w 0#64 0#64 ∧ n = w ∧ rd = d.toNat ∧ pd = 0 ∧ write = false ∧ acquire = true ∧ release = false ∧
      named = true) ∨
    (i = .barinit d a b c ∧ op = .barInit x ∧ n = 8 ∧ rd = d.toNat ∧ pd = 0 ∧ write = true ∧ both ∧ named = true) ∨
    (i = .bararr d a c ∧ op = .barArrive ∧ n = 8 ∧ rd = d.toNat ∧ pd = 0 ∧ write = true ∧ both ∧ named = true) ∨
    (i = .bardrop d a c ∧ op = .barDrop ∧ n = 8 ∧ rd = d.toNat ∧ pd = 0 ∧ write = true ∧ both ∧ named = true) ∨
    (i = .bartest p a b c ∧ op = .barTest x ∧ n = 8 ∧ rd = 0 ∧ pd = p.toNat ∧ write = false ∧ both ∧ named = false) ∨
    (i = .rdvput p a b c ∧ op = .rdvPut x ∧ n = 16 ∧ rd = 0 ∧ pd = p.toNat ∧ write = true ∧ both ∧ named = false) ∨
    (i = .rdvget d a p c ∧ op = .rdvGet ∧ n = 16 ∧ rd = d.toNat ∧ pd = p.toNat ∧ write = true ∧ both ∧ named = true)) →
   let backed := if release = true then s.flush s.cur c.toNat else s
   Reaches (s.ctx.g a.toNat) n write at0 backed s1 → s.cntld s.cur < 8 →
   ((release = true → s.ctx.loads = [] ∧ s.ctx.stores = []) → Completes i s
     (Owes { seq := 0, rd := rd, pred := pd, named := named, kind := .atHome op, place := at0, bytes := n, holds := acquire } backed)) ∧
   (release = true → s.ctx.loads ≠ [] ∨ s.ctx.stores ≠ [] → Completes i s (Held s))) ∧
  (∀ (s s1 : State) (a b : BitVec 5) (z : BitVec 1) (c : BitVec 3) (p : Place),
   let n := if z = 1#1 then 8 else 4
   let backed := s.flush s.cur c.toNat
   (Reaches (s.ctx.g a.toNat) n true p backed s1 → s.cntst s.cur < 16 → s.ctx.loads = [] → s.ctx.stores = [] →
     Completes (.strel a b z c) s
       (Buffers { seq := 0, place := p, bytes := n, value := (s.ctx.g b.toNat).toNat % 2 ^ (8 * n), atHome := true } backed)) ∧
   (s.ctx.loads ≠ [] ∨ s.ctx.stores ≠ [] → Completes (.strel a b z c) s (Held s)))

/-- What a read-modify-write on old contents writes and answers (11_ordering R293): the integer operations on n-bit operands, here as
operations on bit vectors, with the old value as the result, sign-extended for .w; a compare-and-swap that fails writes nothing. A barrier
word through its operations (14_barrier R359-R364): an arrival below EXPECTED counts in ARRIVED, the last one clears ARRIVED and advances
PHASE, a drop takes one from EXPECTED, and each answers the phase as its ticket; a ticket's test is true once the phase has gone past it
by 1 to 32,767; and a broken word, EXPECTED 0 or not above ARRIVED, changes nothing. AMOFADD writes the sum, rounded to nearest even, and
keeps its conditions (11_ordering R293, R295). A rendezvous cell (14_barrier R368, R369): RDVPUT fills an EMPTY one with its value and is
true, and is false on any other; RDVGET empties a FULL one, answers its value and is true, and is false on any other. -/
def Obligations.AtomicResults : Prop :=
  (∀ (old : Nat) (b c : Word),
   let x := BitVec.ofNat 64 old
   let y := BitVec.ofNat 32 old
   let bw := b.setWidth 32
   let write (op n : Nat) : Option Nat := ((HomeOp.amo op n b c).apply old).write
   let result (op n : Nat) : Option Word := ((HomeOp.amo op n b c).apply old).value
   (old < 2 ^ 64 →
     write 0 8 = some (x + b).toNat ∧ write 1 8 = some (x &&& b).toNat ∧ write 2 8 = some (x ||| b).toNat ∧
     write 3 8 = some (x ^^^ b).toNat ∧ write 4 8 = some (if b.slt x then b else x).toNat ∧
     write 5 8 = some (if x.slt b then b else x).toNat ∧ write 6 8 = some (if b.ult x then b else x).toNat ∧
     write 7 8 = some (if x.ult b then b else x).toNat ∧ write 8 8 = some b.toNat ∧
     write 9 8 = (if x = c then some b.toNat else none) ∧ write 10 8 = none ∧ ∀ op ≤ 12, result op 8 = some x) ∧
   (old < 2 ^ 32 →
     write 0 4 = some (y + bw).toNat ∧ write 1 4 = some (y &&& bw).toNat ∧ write 2 4 = some (y ||| bw).toNat ∧
     write 3 4 = some (y ^^^ bw).toNat ∧ write 4 4 = some (if bw.slt y then bw else y).toNat ∧
     write 5 4 = some (if y.slt bw then bw else y).toNat ∧ write 6 4 = some (if bw.ult y then bw else y).toNat ∧
     write 7 4 = some (if y.ult bw then bw else y).toNat ∧ write 8 4 = some bw.toNat ∧
     write 9 4 = (if y = c.setWidth 32 then some bw.toNat else none) ∧ write 10 4 = none ∧
     (∀ op < 12, result op 4 = some (y.signExtend 64)) ∧ result 12 4 = some (y.setWidth 64)) ∧
   (let sum := floatAdd fmtF64 0 false old b.toNat
    write 12 8 = some sum.1 ∧ ((HomeOp.amo 12 8 b c).apply old).conds = sum.2.toNat) ∧
   (let sum := floatAdd fmtF32 0 false old (b.toNat % 2 ^ 32)
    write 12 4 = some sum.1 ∧ ((HomeOp.amo 12 4 b c).apply old).conds = sum.2.toNat)) ∧
  (∀ (value : Nat) (mark : Nat) (v : Word),
   let cell := value + mark * 2 ^ 64
   let put := HomeOp.apply (.rdvPut v) cell
   let get := HomeOp.apply .rdvGet cell
   value < 2 ^ 64 →
   (mark = 0 → put.write = some (v.toNat + 2 ^ 64) ∧ put.pred = some true ∧ get.write = none ∧ get.pred = some false) ∧
   (mark = 1 → put.write = none ∧ put.pred = some false ∧ get.write = some value ∧ get.value = some (BitVec.ofNat 64 value) ∧
     get.pred = some true) ∧
   (2 ≤ mark → put.write = none ∧ put.pred = some false ∧ get.write = none ∧ get.pred = some false)) ∧
  (∀ (expected arrived phase ticket : Nat),
   let word (e a p : Nat) : Nat := e * 2 ^ 36 + a * 2 ^ 16 + p
   let w := word expected arrived phase
   let ahead := (phase + 2 ^ 16 - ticket % 2 ^ 16) % 2 ^ 16
   expected < 2 ^ 20 → arrived < 2 ^ 20 → phase < 2 ^ 16 →
   (arrived + 1 < expected → (HomeOp.apply .barArrive w).write = some (word expected (arrived + 1) phase) ∧
     (HomeOp.apply .barArrive w).value = some (BitVec.ofNat 64 phase)) ∧
   (arrived + 1 = expected → (HomeOp.apply .barArrive w).write = some (word expected 0 ((phase + 1) % 2 ^ 16)) ∧
     (HomeOp.apply .barArrive w).value = some (BitVec.ofNat 64 (phase + 2 ^ 16))) ∧
   (arrived + 1 < expected → (HomeOp.apply .barDrop w).write = some (word (expected - 1) arrived phase) ∧
     (HomeOp.apply .barDrop w).value = some (BitVec.ofNat 64 phase)) ∧
   (arrived + 1 = expected → (HomeOp.apply .barDrop w).write = some (word (expected - 1) 0 ((phase + 1) % 2 ^ 16)) ∧
     (HomeOp.apply .barDrop w).value = some (BitVec.ofNat 64 (phase + 2 ^ 16))) ∧
   (expected = 0 ∨ expected ≤ arrived → (HomeOp.apply .barArrive w).write = none ∧ (HomeOp.apply .barDrop w).write = none ∧
     (HomeOp.apply .barArrive w).value = some (BitVec.ofNat 64 (phase + 2 ^ 17)) ∧
     (HomeOp.apply (.barTest (BitVec.ofNat 64 ticket)) w).pred = some false) ∧
   (arrived < expected → (HomeOp.apply (.barTest (BitVec.ofNat 64 ticket)) w).pred = some (decide (1 ≤ ahead) && decide (ahead ≤ 32767)) ∧
     (HomeOp.apply (.barInit (BitVec.ofNat 64 ticket)) w).write = some (word (ticket % 2 ^ 20) 0 phase) ∧
     (HomeOp.apply (.barInit (BitVec.ofNat 64 ticket)) w).value = some (BitVec.ofNat 64 w)))

/-- An FE instruction whose address passes its checks, with the release of its form met, no earlier access of the thread to its bytes
outstanding, no failed copy on the granule and no other request waiting for it, takes effect on the granule as one event (10_buffer
R251-R255): a load form returns the data of a FULL granule, and LDFC leaves it EMPTY; STF writes data and FULL whatever the bit, STFW on
an EMPTY granule alone; FESET and FECLR set the bit; and a try form answers whether its condition held. A blocking form on the other state
waits in the storage's table: LDF and LDFC for FULL, STFW for EMPTY. A misaligned address raises MISALIGNED and one outside the windows of
the storages ACCESS; a granule of a failed copy raises COPYFAULT with that copy's mask, but FESET and FECLR take it off the list and set
the bit (10_buffer R252, R264). A thread whose FE request a full table refused sends it again 16 cycles later (10_buffer R254): its
instruction issues afresh. -/
def Obligations.FullEmptyInstructions : Prop :=
  (∀ (s s1 : State) (r a : BitVec 5) (q : BitVec 3) (o : BitVec 9) (p : Place),
   let ea := s.ctx.g a.toNat + o.signExtend 64 * 8#64
   let l := p.loc
   let data := BitVec.ofNat 64 (Memory.readNat l 8 s.mem)
   let full := s.feFull (l / 16)
   let v := s.ctx.g r.toNat
   let usable (write : Bool) : Prop := Reaches ea 8 write p s s1 ∧ 0xFB ≤ field ea 63 56 ∧ field ea 63 56 ≤ 0xFE ∧ 2 ^ 62 ≤ l ∧ l < 2 ^ 64 ∧
     s1.mayPerform s1.cur s1.ctx.nextSeq p 8 false = true ∧ s1.copyFaultAt (l / 16) = none ∧ s1.readPoisoned p 8 = false ∧
     s1.releases l = false ∧ ∀ w ∈ (s1.storageAt l).waits, w.loc / 16 ≠ l / 16
   let released : Prop := s.ctx.loads = [] ∧ s.ctx.stores = []
   s.MemOk →
   (usable false → full = true →
     Completes (.ldf r a o) s (FeEnds l (some (r, data)) none true none s) ∧
     Completes (.ldfTry r a q o) s (FeEnds l (some (r, data)) (some (q, true)) true none s) ∧
     Completes (.ldfc r a o) s (FeEnds l (some (r, data)) none false none s) ∧
     Completes (.ldfcTry r a q o) s (FeEnds l (some (r, data)) (some (q, true)) false none s)) ∧
   (usable false → full = false →
     Completes (.ldfTry r a q o) s (FeEnds l none (some (q, false)) false none s) ∧
     Completes (.ldfcTry r a q o) s (FeEnds l none (some (q, false)) false none s)) ∧
   (usable false → Completes (.fetest a q o) s (FeEnds l none (some (q, full)) full none s)) ∧
   (usable true → released →
     Completes (.stf r a o) s (FeEnds l none none true (some v) s) ∧
     Completes (.stfTry r a q o) s (FeEnds l none (some (q, !full)) true (some v) s) ∧
     Completes (.feset a o) s (FeEnds l none none true none s) ∧
     Completes (.fesetTry a q o) s (FeEnds l none (some (q, !full)) true none s)) ∧
   (usable true → released → full = false →
     Completes (.stfw r a o) s (FeEnds l none none true (some v) s) ∧
     Completes (.stfwTry r a q o) s (FeEnds l none (some (q, true)) true (some v) s)) ∧
   (usable true → released → full = true → Completes (.stfwTry r a q o) s (FeEnds l none (some (q, false)) true none s)) ∧
   (usable true →
     Completes (.feclr a o) s (FeEnds l none none false none s) ∧
     Completes (.feclrTry a q o) s (FeEnds l none (some (q, full)) false none s)) ∧
   (let waits (state : Bool) (op : FeOp) (t : State) : Prop := t.ctx.inTable = true ∧ t.ctx.phase = .waiting ∧ t.ctx.pc = s.ctx.pc ∧
      SameBytes s t ∧ (t.storageAt l).waits = (s1.storageAt l).waits ++ [{ thread := s.cur, loc := l, full := state, op := op }]
    (s1.storageAt l).waits.length < 16 →
     (usable false → full = false → Completes (.ldf r a o) s (waits true (.load r.toNat false)) ∧
       Completes (.ldfc r a o) s (waits true (.load r.toNat true))) ∧
     (usable true → released → full = true → Completes (.stfw r a o) s (waits false (.store v)))) ∧
   (s.ctx.trapFatal = false → ea.toNat % 8 ≠ 0 → ∀ i ∈ [Instr.ldf r a o, .ldfTry r a q o, .ldfc r a o, .ldfcTry r a q o, .stf r a o,
      .stfTry r a q o, .stfw r a o, .stfwTry r a q o, .feset a o, .fesetTry a q o, .feclr a o, .feclrTry a q o, .fetest a q o],
     Completes i s (Trapped 0x03 s.ctx.pc ea s)) ∧
   (s.ctx.trapFatal = false → ea.toNat % 8 = 0 → field ea 63 56 < 0xFB ∨ 0xFE < field ea 63 56 →
     ∀ i ∈ [Instr.ldf r a o, .ldfTry r a q o, .ldfc r a o, .ldfcTry r a q o, .stf r a o, .stfTry r a q o, .stfw r a o, .stfwTry r a q o,
      .feset a o, .fesetTry a q o, .feclr a o, .feclrTry a q o, .fetest a q o], Completes i s (Trapped 0x05 s.ctx.pc ea s)) ∧
   (∀ f, Reaches ea 8 false p s s1 → 0xFB ≤ field ea 63 56 → field ea 63 56 ≤ 0xFE → l < 2 ^ 64 →
     s1.mayPerform s1.cur s1.ctx.nextSeq p 8 false = true → s1.copyFaultAt (l / 16) = some f → f.owner ≠ s1.cur → s1.ctx.trapFatal = false →
     ∀ i ∈ [Instr.ldf r a o, .ldfTry r a q o, .ldfc r a o, .ldfcTry r a q o, .fetest a q o],
     Completes i s (Trapped 0x0C s1.ctx.pc f.mask s1)) ∧
   (∀ f, Reaches ea 8 true p s s1 → released → 0xFB ≤ field ea 63 56 → field ea 63 56 ≤ 0xFE → l < 2 ^ 64 →
     s1.mayPerform s1.cur s1.ctx.nextSeq p 8 false = true → s1.copyFaultAt (l / 16) = some f → f.owner ≠ s1.cur → s1.ctx.trapFatal = false →
     ∀ i ∈ [Instr.stf r a o, .stfTry r a q o, .stfw r a o, .stfwTry r a q o], Completes i s (Trapped 0x0C s1.ctx.pc f.mask s1)) ∧
   (Reaches ea 8 true p s s1 → 0xFB ≤ field ea 63 56 → field ea 63 56 ≤ 0xFE → 2 ^ 62 ≤ l → l < 2 ^ 64 →
     s1.mayPerform s1.cur s1.ctx.nextSeq p 8 false = true → (∀ w ∈ (s1.storageAt l).waits, w.loc / 16 ≠ l / 16) →
     (released → Completes (.feset a o) s fun t => FeEnds l none none true none s t ∧ t.copyFaultAt (l / 16) = none) ∧
     Completes (.feclr a o) s fun t => FeEnds l none none false none s t ∧ t.copyFaultAt (l / 16) = none)) ∧
  (∀ (s : State) (u : ThreadRef) (c : Nat),
   ((s.thread u).phase = .waiting ∨ (s.thread u).phase = .ready) → (s.thread u).refused = some c → c + 16 ≤ s.now →
   Completes (.feRequestResend u) s fun t =>
     t.thread u = { s.thread u with refused := none, phase := .ready } ∧ SameBytes s t ∧ t.kernels = s.kernels)

/-! ### Kernels -/

/-- LAUNCH, once its reads are done, answers 2^63 + 1 for an invalid packet, 2^63 + 3 for a task control block that cannot be used and
2^63 + 2 when the kernel table is full, and else creates a QUEUED kernel in the lowest free entry under the next launch serial and answers
its handle, serial x 4096 + entry (12_kernel R301, R304, R325). -/
def Obligations.LaunchOutcomes : Prop :=
  ∀ (s s1 s2 s3 : State) (d a : BitVec 5) (ws ts : List Word),
  let ea := s.ctx.g a.toNat
  let p : Packet := { words := ws, streams := ts }
  let w (i : Nat) : Word := ws.getD i 0#64
  let part := s3.launchPart s3.cur
  ea.toNat % 64 = 0 → s.ctx.loads = [] → s.ctx.stores = [] → s.vectorPathDone s.cur true true = true →
  (s.flush s.cur 4).readWords ea 8 = .ok (ws, s1) →
  (if w 5 = 0#64 ∨ (w 5).toNat % 32 ≠ 0 then ts = [] ∧ s2 = s1 else s1.readStreams (w 5) 16 = .ok (ts, s2)) →
  (if w 6 = 0#64 ∨ (w 6).toNat % 64 ≠ 0 then s3 = s2 else ∃ tw, s2.readWords (w 6) 2 = .ok (tw, s3)) →
  let valid := p.ok (s3.parentOf s3.cur).isSome
  let usable := s3.tcbUsable s3.ctx.asid.toNat (w 6)
  (valid = false → Completes (.launch d a) s (Wrote d 0x8000000000000001#64 1 s3)) ∧
  (valid = true → usable = false → Completes (.launch d a) s (Wrote d 0x8000000000000003#64 1 s3)) ∧
  (valid = true → usable = true → (∀ e < 4096, ∃ x, s3.kernel e = some x ∧ x.released = false) →
    Completes (.launch d a) s (Wrote d 0x8000000000000002#64 1 s3)) ∧
  (∀ e < 4096, valid = true → usable = true → (∀ f < e, ∃ x, s3.kernel f = some x ∧ x.released = false) →
    (∀ x, s3.kernel e = some x → x.released = true) → Completes (.launch d a) s fun t =>
      Advanced 1 s3 t ∧ (d ≠ 0#5 → t.ctx.g d.toNat = BitVec.ofNat 64 (s3.pkg.nextSerial * 4096 + e)) ∧
      (∀ k, k ≠ d.toNat → t.ctx.g k = s3.ctx.g k) ∧ t.pkg.nextSerial = s3.pkg.nextSerial + 1 ∧ t.mem = s3.mem ∧
      ∃ x, t.kernel e = some x ∧ x.state = .queued ∧ x.serial = s3.pkg.nextSerial ∧ x.asid = s.ctx.asid.toNat ∧ x.part = part ∧
        x.launcher = some s.cur ∧ x.parent = s3.parentOf s3.cur ∧ (∀ i < 8, x.word i = w i))

/-- TAKE (12_kernel R307): from the thread's own die's range; when that is empty, the upper part of the range with most left, or a strip
from its front when it is shorter than two blocks; nothing once every range is empty, and nothing for a thread of no kernel. WMARK raises
the watermark of a linked output stream to g[ra] if that is higher, after the thread's earlier accesses have been performed; beyond the
stream's length it raises ACCESS with g[ra], on any other stream ILLEGAL. WMREAD answers the stream's own watermark, and for a linked
input its producer's, or the whole length once no producer is left, which is the model's choice (log entry 86); without a role it is
ILLEGAL (12_kernel R326). -/
def Obligations.TakesStripsAndWatermarks : Prop :=
  (∀ (s : State) (d : BitVec 5) (q : BitVec 3) (k : Nat) (x : Kernel) (die : Nat),
   let b := x.block
   let ends (start : Word) (n : Nat) (granted : Bool) (t : State) : Prop :=
     Advanced 1 s t ∧ (d ≠ 0#5 → t.ctx.g d.toNat = start) ∧ (∀ r, r ≠ d.toNat → t.ctx.g r = s.ctx.g r) ∧
     (q ≠ 0#3 → t.ctx.p q.toNat = granted) ∧ (∀ r, r ≠ q.toNat → t.ctx.p r = s.ctx.p r) ∧
     t.ctx.striplen = BitVec.ofNat 64 n ∧ SameBytes s t
   let strips (l : List Strip) (t : State) : Prop := t.kernel k = some { x with strips := l }
   (s.ctx.kernel = none → Completes (.take d q) s (ends 0#64 0 false)) ∧
   (s.ctx.kernel = some k → s.kernel k = some x → die = s.cur.cluster / 352 → x.strips.Pairwise (fun y z => y.die < z.die) →
     (∀ y ∈ x.strips, y.e < 2 ^ 64) →
     (∀ y ∈ x.strips, y.die = die → y.c < y.e → Completes (.take d q) s fun t =>
       ends (BitVec.ofNat 64 y.c) (min b (y.e - y.c)) true t ∧
       strips (x.strips.map fun z => if z.die = die then { y with c := y.c + min b (y.e - y.c) } else z) t) ∧
     (∀ v ∈ x.strips, (∃ y ∈ x.strips, y.die = die ∧ y.e ≤ y.c) → v.c < v.e →
       (∀ z ∈ x.strips, z.e - z.c < v.e - v.c ∨ (z.e - z.c = v.e - v.c ∧ v.die ≤ z.die)) →
       (2 * b ≤ v.e - v.c → 0 < b →
         let m := v.c + b * ((v.e - v.c) / (2 * b))
         let n := min b (v.e - m)
         Completes (.take d q) s fun t => ends (BitVec.ofNat 64 m) n true t ∧ strips (x.strips.map fun z =>
           if z.die = die then { die := die, c := m + n, e := v.e } else if z.die = v.die then { v with e := m } else z) t) ∧
       (v.e - v.c < 2 * b → Completes (.take d q) s fun t =>
         ends (BitVec.ofNat 64 v.c) (min b (v.e - v.c)) true t ∧
         strips (x.strips.map fun z => if z.die = v.die then { v with c := v.c + min b (v.e - v.c) } else z) t)) ∧
     ((∀ y ∈ x.strips, y.e ≤ y.c) → 0 < b → Completes (.take d q) s fun t => ends (x.word 1) 0 false t ∧ strips x.strips t))) ∧
  (∀ (s : State) (d a : BitVec 5) (h : BitVec 4) (k : Nat) (x : Kernel),
   s.ctx.kernel = some k → s.kernel k = some x →
   let m := x.streams.toArray.getD h.toNat {}
   let n := s.ctx.g a.toNat
   let illegal (i : Instr) : Prop := ∀ word, encode i = some (word, none) → s.ctx.trapFatal = false →
     Completes i s (Trapped 0x01 s.ctx.pc (BitVec.ofNat 64 word) s)
   (m.link = true → 2 ≤ m.role → n.toNat ≤ m.length → s.ctx.loads = [] → s.ctx.stores = [] →
       s.vectorPathDone s.cur true true = true → Completes (.wmark a h) s fun t =>
     Advanced 1 s t ∧ t.kernel k = some { x with streams := x.streams.set h.toNat { m with mark := max m.mark n.toNat } h.isLt } ∧
     (∀ r, t.ctx.g r = s.ctx.g r) ∧ SameBytes s t) ∧
   (m.link = true → 2 ≤ m.role → m.length < n.toNat → s.ctx.trapFatal = false → Completes (.wmark a h) s (Trapped 0x05 s.ctx.pc n s)) ∧
   (m.link = false ∨ m.role < 2 → illegal (.wmark a h)) ∧
   (m.role ≠ 0 → m.role ≠ 1 ∨ m.link = false → Completes (.wmread d h) s (Wrote d (BitVec.ofNat 64 m.mark) 1 s)) ∧
   (m.role = 1 → m.link = true → s.producerOf k x.asid x.tag m = none →
     Completes (.wmread d h) s (Wrote d (BitVec.ofNat 64 m.length) 1 s)) ∧
   (∀ e y z, m.role = 1 → m.link = true → s.producerOf k x.asid x.tag m = some (e, y, z) →
     Completes (.wmread d h) s (Wrote d (BitVec.ofNat 64 z.mark) 1 s)) ∧
   (m.role = 0 → illegal (.wmread d h)))

/-- TDEP and TARM of a task control block that the thread can write are accepted to be performed at its home, and hold the thread's next
issue (12_kernel R327). There TDEP takes one from an ARMED task's count and makes it READY at 0, TARM starts a FREE, COMMITTED, FAULTED or
CANCELLED task or adds to an ARMED one, and both answer the old state and count. A task that TARM starts has words 5 to 7 of its block
cleared; and the ARMED kernel whose block TDEP brings to 0 is READY under the next ready sequence number. KSTAT answers the status word of the kernel that a handle
of the thread's address space names (12_kernel R328), and 0 for a handle that names none; a thread with system privilege may ask for any.
-/
def Obligations.TasksAndKernelStatus : Prop :=
  (∀ (s s1 : State) (d a b : BitVec 5) (p : Place) (state : Fin 8) (count : Nat) (n : Word),
   (s.cntld s.cur < 8 → s.ctx.loads = [] → s.ctx.stores = [] → (s.flush s.cur 4).taskAccess (s.ctx.g a.toNat) = .ok p s1 →
     Completes (.tdep d a) s (Owes { seq := 0, rd := d.toNat, kind := .atHome .tdep, place := p, bytes := 16, holds := true } s1) ∧
     Completes (.tarm d a b) s
       (Owes { seq := 0, rd := d.toNat, kind := .atHome (.tarm (s.ctx.g b.toNat)), place := p, bytes := 16, holds := true } s1)) ∧
   (let old := state.val + count * 2 ^ 64
    let idle := state = 0 ∨ state = 5 ∨ state = 6 ∨ state = 7
    count < 2 ^ 64 →
     (HomeOp.apply .tdep old).value = some (BitVec.ofNat 64 (state.val + count % 2 ^ 32 * 2 ^ 32)) ∧
     (HomeOp.apply (.tarm n) old).value = some (BitVec.ofNat 64 (state.val + count % 2 ^ 32 * 2 ^ 32)) ∧
     (HomeOp.apply .tdep old).write =
       (if state = 1 ∧ 1 < count then some (1 + (count - 1) * 2 ^ 64) else if state = 1 ∧ count = 1 then some 2 else none) ∧
     (HomeOp.apply (.tarm n) old).write =
       (if idle then some ((if n = 0#64 then 2 else 1) + n.toNat * 2 ^ 64)
        else if state = 1 then some (1 + (count + n.toNat) % 2 ^ 64 * 2 ^ 64) else none))) ∧
  (∀ (s : State) (u : ThreadRef) (k j : Nat) (l : PendingLoad) (n : Word) (y : Kernel),
   let p := s.placeNow l.place
   let old := readPlace s p 0 16
   (s.thread u).loads[k]? = some l → s.homeDue u k = true → s.readPoisoned p 16 = false → s.MemOk → l.bytes = 16 → p.draft = none →
   p.loc + 64 ≤ 2 ^ 64 → (∀ i < 64, s.behind .failed (p.loc + i) = false) →
   (l.kind = .atHome (.tarm n) → old % 16 = 0 ∨ old % 16 = 5 ∨ old % 16 = 6 ∨ old % 16 = 7 → Completes (.amoAtHome u k) s fun t =>
     Memory.readNat p.loc 16 t.mem = (if n = 0#64 then 2 else 1) + n.toNat * 2 ^ 64 ∧ Memory.readNat (p.loc + 40) 24 t.mem = 0 ∧
     ∀ a, a < p.loc ∨ (p.loc + 16 ≤ a ∧ a < p.loc + 40) ∨ p.loc + 64 ≤ a → Memory.read a t.mem = Memory.read a s.mem) ∧
   (l.kind = .atHome .tdep → old % 16 = 1 → old / 2 ^ 64 = 1 → s.kernelByHandle (s.blockWordAt p 5) = some (j, y) → y.state = .armed →
     Completes (.amoAtHome u k) s fun t => t.pkg.readySeq = s.pkg.readySeq + 1 ∧
       ∃ z, t.kernel j = some z ∧ z.state = .ready ∧ z.readySeq = s.pkg.readySeq)) ∧
  (∀ (s : State) (d a : BitVec 5) (k : Nat) (x : Kernel),
   let h := s.ctx.g a.toNat
   (s.kernel k = some x → k < 4096 → x.serial < 2 ^ 52 → h = BitVec.ofNat 64 (x.serial * 4096 + k) →
     (x.asid = s.ctx.asid.toNat ∨ s.ctx.sys = true) →
     ∃ v, Completes (.kstat d a) s (Wrote d v 1 s) ∧
       (x.status < 256 → field v 3 0 = x.state.code ∧ field v 15 8 = x.status ∧ field v 18 16 = min x.attempts 7 ∧
         bit v 20 = x.escalated ∧ bit v 21 = x.cancelled ∧ field v 7 4 = 0 ∧
         field v 63 32 = if x.state = .committed then x.csn % 2 ^ 32 else 0)) ∧
   ((∀ y, s.kernel (h.toNat % 4096) = some y → (y.serial * 4096 + h.toNat % 4096) % 2 ^ 64 ≠ h.toNat ∨
       (y.asid ≠ s.ctx.asid.toNat ∧ s.ctx.sys = false)) → Completes (.kstat d a) s (Wrote d 0#64 1 s)))

/-- KCANCEL of a handle (12_kernel R330): a kernel that is not placed ends ABORTED and cancelled and one that is placed and not yet
committing aborts with KILLED, each answering 0; a later state answers 1 and an unknown handle 2, with no effect. Of a task control block,
ARMED, READY or FAULTED becomes CANCELLED and answers 0, any other answers 1. The block of a kernel that ends so by its handle is CANCELLED,
with KILLED in word 6 (from FREE, RUNNING and DONE too, which is the model's reading, log entry 104). KABORT ends the thread's kernel with SELFABORT: the kernel
is ABORTING with status 0x45; its children end with PARENTABORT, ABORTED where they are not placed and ABORTING where they are (12_kernel
R318, R322); a thread of no kernel RETIRES and is reported with that status at its own PC (12_kernel R329, 04_context R105). -/
def Obligations.KernelCancelAndAbort : Prop :=
  (∀ (s s1 : State) (d a : BitVec 5) (k : Nat) (x : Kernel) (p : Place),
   let done (v : Word) (t : State) : Prop := (d ≠ 0#5 → t.ctx.g d.toNat = v) ∧ ∀ r, r ≠ d.toNat → t.ctx.g r = s.ctx.g r
   let task := s1.blockWordAt p 0
   (s.kernelFor (s.ctx.g a.toNat) = some (k, x) → x.state.unplaced = true → x.word 6 = 0#64 → Completes (.kcancel d a) s fun t =>
     done 0#64 t ∧ Advanced 1 s t ∧ t.kernel k = some { x with state := .aborted, status := 0x43, cancelled := true, phaseAt := s.now }) ∧
   (s.kernelFor (s.ctx.g a.toNat) = some (k, x) → x.state.unplaced = true → s.tcbOf x = some p → x.fromQueue = none →
     s.pkg.ring = none → s.pkg.sequencer = none → s.blockWordAt p 3 = 0#64 → s.tcbState p ≠ 5 → s.tcbState p ≠ 7 → s.MemOk →
     p.loc + 64 ≤ 2 ^ 60 → (∀ i < 64, s.behind .failed (p.loc + i) = false) → Completes (.kcancel d a) s fun t =>
     done 0#64 t ∧ t.kernel k = some { x with state := .aborted, status := 0x43, cancelled := true, phaseAt := s.now } ∧
     Memory.readNat p.loc 8 t.mem = 7 ∧ Memory.readNat (p.loc + 48) 8 t.mem = 0x43 ∧ SameBytesOutside p.loc 56 s t) ∧
   (s.kernelFor (s.ctx.g a.toNat) = some (k, x) → x.state.abortable = true → x.tag = none → (∀ e ∈ s.kernels, e.2.parent ≠ some k) →
     Completes (.kcancel d a) s fun t =>
       done 0#64 t ∧ SameBytes s t ∧
       t.kernel k = some { x with state := .aborting, status := 0x43, cancelled := true, phaseAt := s.now }) ∧
   (s.kernelFor (s.ctx.g a.toNat) = some (k, x) → x.state.unplaced = false → x.state.abortable = false →
     Completes (.kcancel d a) s (Wrote d 1#64 1 s)) ∧
   (s.kernelFor (s.ctx.g a.toNat) = none → Completes (.kcancel d a) s (Wrote d 2#64 1 s)) ∧
   let acts := s.taskAccess (s.ctx.g a.toNat) = .ok p s1 ∧ s1.mayPerform s1.cur s1.ctx.nextSeq p 64 false = true
   (acts → field task 2 0 = 1 ∨ field task 2 0 = 2 ∨ field task 2 0 = 6 →
     s1.blockWordAt p 3 = 0#64 → s1.kernelByHandle (s1.blockWordAt p 5) = none → s1.MemOk → p.loc + 64 ≤ 2 ^ 60 →
     s1.behind .failed p.loc = false → poisoned s1 p.loc 64 = false →
     Completes (.kcancelTcb d a) s fun t => done 0#64 t ∧ Advanced 1 s1 t ∧ Memory.readNat p.loc 8 t.mem = 7 ∧
       SameBytesOutside p.loc 8 s1 t) ∧
   (acts → field task 2 0 ≠ 1 → field task 2 0 ≠ 2 → field task 2 0 ≠ 6 →
     Completes (.kcancelTcb d a) s (Wrote d 1#64 1 s1))) ∧
  (∀ (s : State) (k : Nat) (x : Kernel),
   (s.ctx.kernel = none → Completes .kabort s fun t =>
     t.ctx = { s.ctx with phase := .retired, fetch := [] } ∧
     t.pkg.reports = s.pkg.reports ++ [.bootStop s.cur 0x45 s.ctx.pc 0#64] ∧ SameBytes s t) ∧
   (s.ctx.kernel = some k → s.kernel k = some x → x.state.abortable = true → x.tag = none → (∀ e ∈ s.kernels, e.2.parent ≠ some k) →
     Completes .kabort s fun t => t.ctx.phase = .retired ∧ SameBytes s t ∧
       t.kernel k = some { x with state := .aborting, status := 0x45, phaseAt := s.now }) ∧
   (∀ j y, s.ctx.kernel = some k → s.kernel k = some x → x.state.abortable = true → x.tag = none → x.parent = none → s.kernel j = some y →
     (s.kernels.map fun q => q.1).Nodup → y.parent = some k → y.word 6 = 0#64 → Completes .kabort s fun t =>
       (y.state.unplaced = true → t.kernel j = some { y with state := .aborted, status := 0x46, phaseAt := s.now }) ∧
       (y.state.abortable = true → t.kernel j = some { y with state := .aborting, status := 0x46, phaseAt := s.now })))

/-! ### Queues and the copy engines -/

/-- QBIND with a valid code takes it into the queue register and answers true, an MBOXRX binding with HEAD and TAIL of its area zero; any
other code answers false and changes nothing; QUNBIND leaves NONE, and no command of the thread is left to report through that register
(13_queue R331, R355). The uses of a queue register that its binding does not allow: QUEUEFAULT for QPUSH on a mailbox and QPOP on the
thread's own, else ILLEGAL, each with the word as its value and nothing else changed (13_queue R333). -/
def Obligations.QueueBindings : Prop :=
  (∀ (s : State) (q : BitVec 4) (a : BitVec 5) (p : BitVec 3),
   let c := s.ctx.g a.toNat
   let kind := field c 27 24
   let target := field c 23 0
   let mailed := ∃ k < 16, k ≠ q.toNat ∧ bindKind (s.ctx.binding k) = 2
   let bound (b : BitVec 28) (flag : Option (BitVec 3 × Bool)) (t : State) : Prop :=
     Answers none flag s t ∧ t.ctx.binding q.toNat = b ∧ (∀ r, r ≠ q.toNat → t.ctx.binding r = s.ctx.binding r) ∧
     (bindKind (s.ctx.binding q.toNat) = 1 → ∀ e ∈ (t.cluster s.cur.cluster).engine, e.owner = s.cur → ∀ x, e.via ≠ some (q.toNat, x))
   let entry := target % 65536
   let task := s.queueBindable entry = true ∧ (field (s.queueWord entry 4) 15 0 = s.ctx.asid.toNat ∨ s.ctx.sys = true) ∧
     if target / 65536 = 1 then bit (s.queueWord entry 4) 21 = false else bit (s.queueWord entry 4) 22 = false
   (field c 63 28 = 0 → (kind ≤ 1 ∧ target = 0) ∨ (kind = 3 ∧ target < 2 ^ 18) ∨ (kind = 4 ∧ target < 2 ^ 17 ∧ task) →
     Completes (.qbind q a p) s fun t => bound (c.setWidth 28) (some (p, true)) t ∧ SameBytes s t) ∧
   (field c 63 28 = 0 → kind = 2 → target < 4096 → ¬mailed → s.MemOk → s.cur.cluster < 8448 →
     Completes (.qbind q a p) s fun t => bound (c.setWidth 28) (some (p, true)) t ∧
       Memory.readNat (s.mailbox s.cur (c.setWidth 28) + 128) 16 t.mem = 0 ∧
       SameBytesOutside (s.mailbox s.cur (c.setWidth 28) + 128) 16 s t) ∧
   (field c 63 28 ≠ 0 ∨ (kind ≤ 1 ∧ target ≠ 0) ∨ (kind = 2 ∧ (4096 ≤ target ∨ mailed)) ∨ (kind = 3 ∧ 2 ^ 18 ≤ target) ∨
       (kind = 4 ∧ (2 ^ 17 ≤ target ∨ ¬task)) ∨ 5 ≤ kind →
     Completes (.qbind q a p) s (WroteP p false s)) ∧
   Completes (.qunbind q) s fun t => bound 0#28 none t ∧ SameBytes s t) ∧
  (∀ (s : State) (q : BitVec 4) (a : BitVec 5) (p : BitVec 3), s.ctx.trapFatal = false →
   let kind := bindKind (s.ctx.binding q.toNat)
   let pop := bindTarget (s.ctx.binding q.toNat) / 65536 = 1
   let traps (i : Instr) (code : Nat) : Prop :=
     ∀ w, encode i = some (w, none) → Completes i s (Trapped code s.ctx.pc (BitVec.ofNat 64 w) s)
   (kind = 2 ∨ kind = 3 → traps (.qpush q a) 0x0D) ∧ (kind = 2 → traps (.qpop a q) 0x0D) ∧
   (kind = 0 ∨ 4 ≤ kind → traps (.qpush q a) 0x01) ∧ (kind = 0 ∨ 3 ≤ kind → traps (.qpop a q) 0x01) ∧
   (kind ≠ 1 ∧ kind ≠ 3 → traps (.qpusht q a p) 0x01) ∧ (kind ≠ 1 ∧ kind ≠ 2 → traps (.qpopt a q p) 0x01) ∧
   (kind ≠ 4 ∨ pop → traps (.tqpush q a p) 0x01) ∧ (kind ≠ 4 ∨ ¬pop → traps (.tqpop q a p) 0x01))

/-- QSTAT writes the kind of the binding in [63:60], and of a COPY binding the commands outstanding and the results ready, of a mailbox its
entries, of a task queue its state, its on-chip records and its records (13_queue R357). A push of a valid copy descriptor through a COPY
binding is accepted as a command of the thread's cluster with the descriptor's operands; with no slot free QPUSH waits, its descriptor as
it was read and checked, and QPUSHT answers false. A pop gives the oldest command's result and frees its slot, 0 with none owed; before it
is complete QPOP waits and QPOPT answers false (13_queue R334, R335, R356). A push to another thread's mailbox writes the entry at TAIL mod
16 and advances TAIL when the receiver has a mailbox with fewer than 16 entries, and else answers false with nothing changed; a pop answers
the entry at HEAD mod 16 and advances HEAD while 1 to 16 entries are there (13_queue R336). -/
def Obligations.QueueTransfers : Prop :=
  (∀ (s : State) (d : BitVec 5) (q : BitVec 4),
   let b := s.ctx.binding q.toNat
   let kind := bindKind b
   let mine := s.copiesVia q.toNat
   let mail := s.mailCount (s.mailbox s.cur b)
   let r := bindTarget b % 65536
   ∃ v, Completes (.qstat d q) s (Wrote d v 1 s) ∧
     (kind = 0 ∨ kind = 3 → v = BitVec.ofNat 64 (kind * 2 ^ 60)) ∧
     (kind = 1 → mine.length ≤ 16 → field v 63 60 = 1 ∧ field v 12 8 = mine.length ∧
       field v 4 0 = (mine.filter fun e => e.state == .complete).length) ∧
     (kind = 2 → field v 63 60 = 2 ∧ field v 59 32 = 0 ∧ field v 31 0 = if mail < 2 ^ 28 then mail else 0x0FFFFFFF) ∧
     (kind = 4 → (∀ k x, s.queueSlot r = some (k, x) → x.records.length ≤ 32) →
       field v 63 60 = 4 ∧ field v 39 38 = field (s.queueWord r 4) 24 23 ∧ (s.queueSlot r = none → field v 37 32 = 0) ∧
       (∀ k x, s.queueSlot r = some (k, x) → field v 37 32 = x.records.length) ∧
       field v 31 0 = (s.queueTail r + 2 ^ 64 - s.queueHead r) % 2 ^ 32)) ∧
  (∀ (s s1 : State) (q : BitVec 4) (a d : BitVec 5) (p : BitVec 3) (at0 : Place) (k : Nat) (ws : List Word),
   let ea := s.ctx.g a.toNat
   let w (i : Nat) : Word := ws.getD i 0#64
   let kinds (c : Word) (x : EngineKind) : Prop := (c = 0#64 ∧ x = .cpy) ∨ (c = 1#64 ∧ x = .cpyx) ∨ (c = 2#64 ∧ x = .cpym)
   let read := s.ctx.pushing = none ∧ ea.toNat % 64 = 0 ∧ s.reach s.agent (.thread s.cur false) true false false ea = (.place at0, s1) ∧
     s1.mayPerform s1.cur s1.ctx.nextSeq at0 64 false = true ∧ s1.readPoisoned at0 64 = false ∧
     ws = (List.range 8).map fun i => BitVec.ofNat 64 (readPlace s1 at0 (8 * i) 8)
   let kept := s.ctx.pushing = some (s.ctx.pc, ws) ∧ s1 = s
   let readable := (read ∨ kept) ∧ descriptorOk (w 4) (w 5) (w 7) = true ∧ (descriptorCmd s1 q.toNat ws).check = none
   let engine (x : State) : List EngineCmd := (x.cluster s.cur.cluster).engine
   let taken (flag : Option (BitVec 3 × Bool)) (t : State) : Prop := Answers none flag s t ∧ SameBytes s t ∧
     ∃ e, engine t = engine s1 ++ [e] ∧ e.slot = k ∧ e.owner = s.cur ∧ e.state = .queued ∧ kinds (w 4) e.kind ∧ e.dst = w 0 ∧
       e.src = w 1 ∧ e.shape = w 2 ∧ e.strides = w 3 ∧ e.bar = w 6 ∧ e.set = w 7 ∧ e.via = some (q.toNat, field (w 5) 63 32) ∧
       e.fe = bit (w 5) 31 ∧ e.sh = bit (w 5) 30 ∧ e.kernel = s.ctx.kernel
   let mine := s.copiesVia q.toNat
   let first (e : EngineCmd) : Prop := e ∈ mine ∧ ∀ x ∈ mine, x ≠ e → e.id < x.id
   let popped (e : EngineCmd) (flag : Option (BitVec 3 × Bool)) (t : State) : Prop :=
     (∀ r, e.result = some r → Answers (some (d, r)) flag s t) ∧ engine t = (engine s).filter (fun x => x.slot != e.slot) ∧ SameBytes s t
   bindKind (s.ctx.binding q.toNat) = 1 →
   (readable → s1.freeEngineSlot s.cur.cluster = some k →
     Completes (.qpush q a) s (taken none) ∧ Completes (.qpusht q a p) s (taken (some (p, true)))) ∧
   (readable → s1.freeEngineSlot s.cur.cluster = none →
     Completes (.qpush q a) s (Held { s1 with ctx := { s1.ctx with pushing := some (s.ctx.pc, ws) } }) ∧
     Completes (.qpusht q a p) s (WroteP p false s1)) ∧
   (mine = [] → Completes (.qpop d q) s (Wrote d 0#64 1 s) ∧ Completes (.qpopt d q p) s (Answers (some (d, 0#64)) (some (p, true)) s)) ∧
   (∀ e, first e → e.result.isSome → Completes (.qpop d q) s (popped e none) ∧ Completes (.qpopt d q p) s (popped e (some (p, true)))) ∧
   (∀ e, first e → e.result = none → Completes (.qpop d q) s (Held s) ∧ Completes (.qpopt d q p) s (WroteP p false s))) ∧
  (∀ (s : State) (q : BitVec 4) (a d : BitVec 5) (p : BitVec 3) (c : Nat) (rx : BitVec 28),
   let b := s.ctx.binding q.toNat
   let u : ThreadRef := ⟨c, bindTarget b / 4 % 8, bindTarget b % 4⟩
   let l := s.mailbox u rx
   let own := s.mailbox s.cur b
   let head (m : Nat) (t : State) : Nat := Memory.readNat (m + 128) 8 t.mem
   let tail (m : Nat) (t : State) : Nat := Memory.readNat (m + 136) 8 t.mem
   let count (m : Nat) : Nat := (tail m s + 2 ^ 64 - head m s) % 2 ^ 64
   let slot (m n : Nat) : Nat := m + 8 * (n % 16)
   let backed := s.flush s.cur (if c = s.cur.cluster then 1 else 3)
   let keeps (x y : Nat) (t : State) : Prop :=
     ∀ z, (z < x ∨ x + 8 ≤ z) → (z < y ∨ y + 8 ≤ z) → Memory.read z t.mem = Memory.read z s.mem
   s.MemOk → c < 8448 → s.cur.cluster < 8448 →
   (bindKind b = 3 → s.ctx.loads = [] → s.ctx.stores = [] → s.physicalOf (bindTarget b / 32) = some c →
     s.clusterAnswers s.agent c = true → s.scratchOpen s.agent c = true → (s.thread u).phase ≠ .free →
     ((s.thread u).mailBinding = some rx → count l < 16 → Completes (.qpusht q a p) s fun t =>
       Answers none (some (p, true)) s t ∧ Memory.readNat (slot l (tail l s)) 8 t.mem = (s.ctx.g a.toNat).toNat ∧
       tail l t = (tail l s + 1) % 2 ^ 64 ∧ keeps (slot l (tail l s)) (l + 136) t) ∧
     ((s.thread u).mailBinding = some rx → 16 ≤ count l → Completes (.qpusht q a p) s (WroteP p false backed)) ∧
     ((s.thread u).mailBinding = none → Completes (.qpusht q a p) s (WroteP p false backed))) ∧
   (bindKind b = 2 →
     (1 ≤ count own → count own ≤ 16 → Completes (.qpopt d q p) s fun t =>
       Answers (some (d, BitVec.ofNat 64 (Memory.readNat (slot own (head own s)) 8 s.mem))) (some (p, true)) s t ∧
       head own t = (head own s + 1) % 2 ^ 64 ∧ SameBytesOutside (own + 128) 8 s t) ∧
     (count own = 0 ∨ 16 < count own → Completes (.qpopt d q p) s (WroteP p false s))))

/-- TQPUSH of 64 readable bytes to a mapped queue with room on chip appends them as its newest record; with records spilled, in flight or
32 on chip it writes them to the ring's slot at TAIL; and it answers false for a full queue. TQPOP to 64 writable bytes takes the oldest
on-chip record, advances HEAD, and owes the record's store and with it its predicate; it answers
false with nothing changed when the queue is unmapped or has none on chip, and waits while sixteen stores are outstanding (13_queue R339,
R358; 04_context R120). With at most 24 records on chip, spilled ones and no fetch, a fetch of the oldest spilled ones, at most 8, starts
(13_queue R339). What the home agents do with queue q (13_queue R339, R341, R344, R349), where what they access takes it: the head of
a die's waiting list takes a free slot with its oldest records in flight; arrived records go on chip in order; a quantum is renewed when
no queue waits and else ends with the queue UNMAPPED, its HEAD and TAIL in its entry, on the waiting list if it has work; a valid record
of a dispatch queue becomes a QUEUED kernel; and a TAIL of the host is accepted within the ring's size and else the queue is OVERRUN, over
CXL at the host's write and over PCIe at the next poll. Which free slot is taken, and that word 4 in memory shows the mapping at once, are
the model's choices (log entry 106). -/
def Obligations.TaskQueues : Prop :=
  (∀ x : QueueSlot,
   let spilled := x.tail - x.head - x.records.length - x.flight
   x.refill = { x with flight := if x.records.length ≤ 24 ∧ 0 < spilled ∧ x.flight = 0 then min 8 spilled else x.flight }) ∧
  (∀ (s s1 : State) (q : BitVec 4) (a : BitVec 5) (p : BitVec 3) (m : Place) (k : Nat) (x : QueueSlot),
   let b := s.ctx.binding q.toNat
   let r := bindTarget b % 65536
   let bytes := (List.range 64).map (readPlaceByte s1 m)
   bindKind b = 4 →
   (s1.queueUsable r = true → bindTarget b / 65536 = 0 → s.ctx.loads = [] → s.ctx.stores = [] → Reaches (s.ctx.g a.toNat) 64 false m (s.flush s.cur 4) s1 →
     s1.mayPerform s1.cur s1.ctx.nextSeq m 64 false = true → s1.readPoisoned m 64 = false →
     (s1.queueSlot r = some (k, x) → x.tail - x.head < s1.queueSize r → x.tail = x.head + x.records.length → x.flight = 0 →
       x.records.length < 32 → Completes (.tqpush q a p) s fun t => Answers none (some (p, true)) s t ∧ SameBytes s t ∧
         t.queueSlot r = some (k, { x with records := x.records ++ [bytes], tail := x.tail + 1 })) ∧
     (∀ at0, s1.queueSlot r = some (k, x) → x.tail - x.head ≠ s1.queueSize r → 0 < x.spilled ∨ 0 < x.flight ∨ 32 ≤ x.records.length →
       s1.pushReady r = true → s1.ringPlace r x.tail true = some at0 → s1.MemOk → at0.loc + 64 ≤ 2 ^ 60 →
       s1.behind .failed at0.loc = false → Completes (.tqpush q a p) s fun t => Answers none (some (p, true)) s t ∧
         (∀ j < 64, Memory.read (at0.loc + j) t.mem = bytes.getD j 0#8) ∧ SameBytesOutside at0.loc 64 s t ∧
         t.queueSlot r = some (k, { x with tail := x.tail + 1 })) ∧
     (s1.queueTail r - s1.queueHead r = s1.queueSize r → s1.pushReady r = true → Completes (.tqpush q a p) s (WroteP p false s1))) ∧
   (s1.queueUsable r = true → bindTarget b / 65536 = 1 → s.cntst s.cur < 16 → Reaches (s.ctx.g a.toNat) 64 true m s s1 →
     (∀ v rest, s1.queueSlot r = some (k, x) → x.records = v :: rest → bit (s1.queueWord r 4) 22 = false →
       Completes (.tqpop q a p) s fun t => Answers none none s t ∧ SameBytes s t ∧ t.queueHead r = x.head + 1 ∧
         t.queueSlot r =
           some (k, ({ x with records := rest, head := x.head + 1, removed := x.removed + 1 } : QueueSlot).refill) ∧ t.ctx.stores = s.ctx.stores ++
           [{ seq := s.ctx.nextSeq, place := m, bytes := 64, value := leNat v, pred := some p.toNat }]) ∧
     (s1.queueSlot r = none ∨ (s1.queueSlot r = some (k, x) ∧ x.records = []) → s1.hostReady r = true →
       Completes (.tqpop q a p) s (WroteP p false s1))) ∧
   (bindTarget b / 65536 = 1 → 16 ≤ s.cntst s.cur → Completes (.tqpop q a p) s (Held s))) ∧
  (∀ (s : State) (q die k : Nat) (x : QueueSlot) (tail : BitVec 64),
   let at4 := s.queueWord q 4
   let home := s.queueDie q
   let mapped := s.queueSlot q = some (k, x)
   let others := s.waitingList home
   let alone := s.dies.Pairwise (fun e f => e.1 < f.1) ∧ field at4 20 16 = home ∧
     ∀ e ∈ s.dies, ∀ y ∈ e.2.slots, y.2.queue = q → e.1 = home ∧ s.queueSlot q = some y
   let host := bit at4 22
   let ctlb := s.controlBlock q
   let last := s.queueTail q
   let fits (n : Nat) : Prop := last ≤ n ∧ n - s.queueHead q ≤ s.queueSize q
   let state (t : State) : Nat := field (t.queueWord q 4) 24 23
   s.MemOk → s.pkg.qtbase.toNat + 64 * q + 64 ≤ 2 ^ 60 →
   (∀ rest, s.waitingList die = q :: rest → (s.die die).slots.length < 64 → s.queueUsable q = true → s.queueSlot q = none →
     home = die → s.entryReady q = true → poisoned s (s.entryLoc q) 64 = false → Completes (.queueMap die) s fun t => (t.die die).waiting = rest ∧ state t = 2 ∧
       ∃ j y, Table.find j (s.die die).slots = none ∧ Table.find j (t.die die).slots = some y ∧ y =
         { queue := q, flight := min 32 (s.queueTail q - s.queueHead q), quantum := s.now, head := s.queueHead q, tail := s.queueTail q
           ended := (s.queueWord q 6).toNat, word4 := t.queueWord q 4 }) ∧
   (∀ rs, mapped → 0 < x.flight → rs.length = x.flight → (∀ i < x.flight, s.ringRead q (x.head + x.records.length + i) = rs[i]?) →
     (∀ i < x.flight, s.ringReady q (x.head + x.records.length + i) false = true ∧
       ∀ at0, s.ringPlace q (x.head + x.records.length + i) false = some at0 → poisoned s at0.loc 64 = false) → Completes (.queueFetchArrival q) s fun t => SameBytes s t ∧
       t.queueSlot q = some (k, ({ x with records := x.records ++ rs, flight := 0 } : QueueSlot).refill)) ∧
   (mapped → x.quantum + 4096 ≤ s.now → others = [] → Completes (.queueQuantumEnd q) s fun t =>
     t.queueSlot q = some (k, { x with quantum := s.now }) ∧ SameBytes s t) ∧
   (mapped → alone → x.quantum + 4096 ≤ s.now → others ≠ [] → x.flight = 0 → x.records = [] → host = false → s.unmapReady q x = true →
     Completes (.queueQuantumEnd q) s fun t => Table.find k (t.die home).slots = none ∧ state t = 1 ∧
       t.queueWord q 2 = BitVec.ofNat 64 x.head ∧ t.queueWord q 3 = BitVec.ofNat 64 x.tail ∧
       (x.head < x.tail → q ∈ (t.die home).waiting)) ∧
   (∀ v rest e, mapped → x.records = v :: rest → bit at4 21 = true → host = false → s.queueUsable q = true → s.freeEntry = some e →
     (∀ c, x.lastTake = some c → c + 16 ≤ s.now) →
     let ws := (List.range 8).map fun i => BitVec.ofNat 64 (leWord v (8 * i) 8)
     let p : Packet := { words := ws, streams := [] }
     p.ok false = true → p.word 5 = 0#64 → p.word 6 = 0#64 → Completes (.taskRecordTake q) s fun t =>
       t.queueHead q = x.head + 1 ∧ ∃ y, t.kernel e = some y ∧ y.state = .queued ∧ y.serial = s.pkg.nextSerial ∧
         y.asid = field at4 15 0 ∧ y.part = field at4 36 31 ∧ y.fromQueue = some (q, x.head) ∧ ∀ i < 8, y.word i = p.word i) ∧
   (s.pkg.hostMode.isCxl = false → Completes (.hostQueueControlSnoop q tail) s fun t =>
     Memory.readNat ctlb 8 t.mem = tail.toNat ∧ SameBytesOutside ctlb 8 s t ∧ t.dies = s.dies) ∧
   (s.snoops = .seen → host = true → s.queueUsable q = true →
     (mapped → fits tail.toNat → Completes (.hostQueueControlSnoop q tail) s fun t =>
       Memory.readNat ctlb 8 t.mem = tail.toNat ∧ t.queueSlot q = some (k, ({ x with tail := tail.toNat } : QueueSlot).refill)) ∧
     (alone → ¬fits tail.toNat → Completes (.hostQueueControlSnoop q tail) s fun t => state t = 3)) ∧
   (s.pkg.hostMode.isCxl = false → s.sealed = true → s.hostReady q = true → s.behind .failed (Loc.host 0) = false → host = true →
     s.queueUsable q = true → Table.get 0 q s.pkg.hostPolls + 4096 ≤ s.now → mapped →
     fits (Memory.readNat ctlb 8 s.mem) → Completes (.hostQueuePciePoll q) s fun t => Table.get 0 q t.pkg.hostPolls = s.now ∧
       t.queueSlot q = some (k, ({ x with tail := Memory.readNat ctlb 8 s.mem } : QueueSlot).refill)))

/-- CPY, CPYX, CPYM and DEC take the lowest free of the cluster's 16 command slots with their operands captured, DEC also a place in its
engine's queue of 8, and wait while there is none; a wrong window or option is ILLEGAL with both words, a misaligned FE destination or
status array MISALIGNED (for DEC the model's choice, log entry 41). DECST answers the engine's frames and jobs (10_buffer R258-R260, R269, R273). PUB of pairs of a scratchpad that
its thread may use, with the thread's earlier accesses of both paths performed and no shadow copy of it on the way to a pair: with no
FAILED bit set it swaps the pairs; else it clears those bits and raises COPYFAULT with them; a bad address or count raises ACCESS with the
address (10_buffer R267; for an address outside the windows 0xFC and 0xFD the model's choice, log entry 87). -/
def Obligations.EngineCommands : Prop :=
  (∀ (s : State) (d a h t g x1 : BitVec 5) (e w : BitVec 1) (n : BitVec 2) (i : Instr) (kind : EngineKind) (set : Word) (k : Nat),
   ((i = .cpy d a h t e w g n ∧ kind = .cpy ∧ set = 0#64) ∨ (i = .cpyx d a h t e w g n ∧ kind = .cpyx ∧ set = 0#64) ∨
    (i = .cpym d a h t e w g n x1 ∧ kind = .cpym ∧ set = s.ctx.g x1.toNat)) →
   let dst := s.ctx.g d.toNat
   let shape := s.ctx.g h.toNat
   let strides := s.ctx.g t.toNat
   let window := field dst 63 56
   let wrong := (e = 1#1 ∧ (window < 0xFB ∨ 0xFE < window)) ∨ (w = 1#1 ∧ window ≠ 0xFD ∧ window ≠ 0xFC) ∨ (kind = .cpym ∧ window ≠ 0xFC)
   let uneven := e = 1#1 ∧ (dst.toNat % 16 ≠ 0 ∨ field shape 31 0 % 16 ≠ 0 ∨ (kind ≠ .cpyx ∧ field strides 31 0 % 16 ≠ 0))
   let engine (x : State) : List EngineCmd := (x.cluster s.cur.cluster).engine
   let die := s.cur.cluster / 352
   let queue (x : State) : DecodeEngine := if e = 1#1 then (x.die die).engine1 else (x.die die).engine0
   let accepted (c : EngineCmd → Prop) (u : State) : Prop := Advanced 2 s u ∧ (∀ r, u.ctx.g r = s.ctx.g r) ∧ SameBytes s u ∧
     ∃ x, engine u = engine s ++ [x] ∧ x.slot = k ∧ x.state = .queued ∧ x.owner = s.cur ∧ x.kernel = s.ctx.kernel ∧
       x.asid = s.ctx.asid.toNat ∧ x.id = s.ctx.nextSeq ∧ c x
   (∀ j < k, ∃ y ∈ engine s, y.slot = j) → (∀ y ∈ engine s, y.slot ≠ k) →
   (¬wrong → ¬uneven → k < 16 → Completes i s (accepted fun x => x.kind = kind ∧ x.dst = dst ∧ x.src = s.ctx.g a.toNat ∧ x.shape = shape ∧
     x.strides = strides ∧ x.bar = s.ctx.g g.toNat ∧ x.set = set ∧ x.fe = (e == 1#1) ∧ x.sh = (w == 1#1) ∧ x.tile = (n == 1#2) ∧
     x.via = none)) ∧
   (¬wrong → ¬uneven → 16 ≤ k → Completes i s (Held s)) ∧
   (wrong → s.ctx.trapFatal = false → ∀ a0 b0, encode i = some (a0, some b0) →
     Completes i s (Trapped 0x01 s.ctx.pc (BitVec.ofNat 64 (a0 + b0 * 2 ^ 32)) s)) ∧
   (¬wrong → uneven → s.ctx.trapFatal = false → Completes i s (Trapped 0x03 s.ctx.pc dst s)) ∧
   (dst.toNat % 8 = 0 → k < 16 → (queue s).jobs.length < 8 → Completes (.dec d a n e) s fun u =>
     accepted (fun x => x.kind = .dec ∧ x.dst = dst ∧ x.src = s.ctx.g a.toNat ∧ x.engine = e.toNat) u ∧
     (queue u).jobs = (queue s).jobs ++ [(s.cur.cluster, k)]) ∧
   (dst.toNat % 8 = 0 → 16 ≤ k ∨ 8 ≤ (queue s).jobs.length → Completes (.dec d a n e) s (Held s)) ∧
   (dst.toNat % 8 ≠ 0 → s.ctx.trapFatal = false → Completes (.dec d a n e) s (Trapped 0x03 s.ctx.pc dst s)) ∧
   (bit (s.ctx.g a.toNat) 0 = (e == 1#1) → ∃ v, Completes (.decst d a) s (Wrote d v 2 s) ∧
     ((queue s).jobs.length < 16 → field v 63 32 = (queue s).total % 2 ^ 32 ∧ field v 7 4 = (queue s).jobs.length ∧
       ((queue s).jobs = [] → field v 31 8 = 0 ∧ field v 3 0 = 0)))) ∧
  (∀ (s : State) (d h : BitVec 5) (c : BitVec 3) (l : Nat),
   let ea := s.ctx.g d.toNat
   let n := field (s.ctx.g h.toNat) 4 0
   let first := field ea 18 15
   let fault := Completes (.pub d h c) s (Trapped 0x05 s.ctx.pc ea s)
   let window := field ea 63 56 = 0xFD ∨ field ea 63 56 = 0xFC
   let cl := (l - 2 ^ 62) / 2 ^ 20
   let pair (j : Nat) : Prop := first ≤ j ∧ j < first + n
   let failed := s.cluster cl |>.failedPairs
   let ready := n ≠ 0 ∧ first + n ≤ 16 ∧ window ∧ s.windowOf s.agent ea = .loc l ∧ 2 ^ 62 ≤ l ∧ l < 2 ^ 63 ∧ s.ctx.loads = [] ∧
     s.ctx.stores = [] ∧ (∀ v ∈ (s.core (coreKey s.cur)).loadQ ++ (s.core (coreKey s.cur)).storeQ, v.slot ≠ s.cur.slot) ∧
     s.recordMoves s.cur = [] ∧ (∀ e ∈ (s.cluster s.cur.cluster).engine, e.owner = s.cur → e.sh = true → e.state = .complete ∨ e.kind = .dec)
   (ready → (∀ j, pair j → failed.getLsbD j = false) → Completes (.pub d h c) s fun t => Advanced 2 s t ∧ SameBytes s t ∧
     (∀ r, t.ctx.g r = s.ctx.g r) ∧
     ∀ j < 16, (pair j → (t.cluster cl).swap.getLsbD j = !(s.cluster cl).swap.getLsbD j) ∧
       (¬pair j → (t.cluster cl).swap.getLsbD j = (s.cluster cl).swap.getLsbD j)) ∧
   (ready → (∃ j, pair j ∧ failed.getLsbD j = true) → s.ctx.trapFatal = false → Completes (.pub d h c) s fun t => ∃ v : Word,
     t.ctx.cause = 0x0C#64 ∧ t.ctx.epc = s.ctx.pc ∧ t.ctx.tval = v ∧ t.ctx.pc = s.ctx.tvec ∧
     (∀ j, bit v j = (decide (j < n) && failed.getLsbD (first + j))) ∧
     (∀ j < 16, (t.cluster cl).failedPairs.getLsbD j = (failed.getLsbD j && !(decide (first ≤ j) && decide (j < first + n)))) ∧
     (t.cluster cl).swap = (s.cluster cl).swap) ∧
   (s.ctx.trapFatal = false → n = 0 ∨ 16 < first + n ∨ ¬window ∨ s.windowOf s.agent ea = .deny → fault))

/-- The work of a cluster's engines on command e in slot k (10_buffer R258-R266, R269-R272; 14_barrier R367; 13_queue R335): the next copy
starts; a beat between two storages moves its bytes to each destination, from the row's source, for CPYX by the row's index, to the other
region of the pair with SH, and with FE its granules become FULL; a CPY's beat whose source is denied sets the failure mask; a copy that
has moved arrives on its barrier, and completes: its slot is free, its failure is recorded for WAIT, or its result waits for the pop; a
decode job starts with its descriptor, and a frame that cannot be read leaves status 6 in its record. That the command keeps the bytes it
overwrites, from which a later beat over them may take its value, is the model's choice (log entry 18). -/
def Obligations.EngineWork : Prop := ∀ (s : State) (cl k : Nat) (e : EngineCmd) (src dst : Nat),
  let n := e.beatLen
  let row := e.src + BitVec.ofNat 64 e.row * sext (field e.strides 63 32) 32 + BitVec.ofNat 64 e.part
  let index := e.strides + BitVec.ofNat 64 (4 * e.row)
  let agent : Agent := { who := e.owner, asid := e.asid, sys := e.sys, draft := s.versionOf e.kernel }
  let running := s.engineCmd cl k = some e ∧ e.slot = k ∧ (s.cluster cl).switchedOut = none ∧ e.state = .running ∧ e.kind ≠ .dec ∧
    e.faultAt = none
  let fresh := running ∧ e.copied = false ∧ e.read = none ∧ e.pending = [] ∧ 0 < n
  let beat := fresh ∧ e.kind = .cpy ∧ e.sh = false ∧ e.fe = false ∧ s.windowOf agent e.beatDst = .loc dst ∧
    dst + n ≤ 2 ^ 64 ∧ s.reachable cl dst n = true
  let readable (va : Word) (l m : Nat) : Prop := s.windowOf agent va = .loc l ∧ l + m ≤ 2 ^ 64 ∧ s.reachable cl l m = true ∧
    m ≤ 256 - va.toNat % 256 ∧ s.beyondMark e.kernel va.toNat m = false ∧ s.readPoisoned { loc := l } m = false
  let calm := ∀ j x, (s.thread e.owner).kernel = some j → s.kernel j = some x → x.state ≠ .draining
  s.MemOk →
  (s.nextCopy cl = some e → (s.cluster cl).switchedOut = none → Completes (.copyStart cl) s fun t => SameBytes s t ∧
    (t.cluster cl).engine = (s.cluster cl).engine.map fun x => if x.slot = e.slot then { x with state := .running } else x) ∧
  (∀ j ix ea from0, fresh → e.before = [] → e.dests.contains j = true → s.destAddress e.beatDst (e.kind == .cpym) j = some ea →
    s.windowOf agent ea = .loc dst →
    (e.kind ≠ .cpyx ∧ from0 = row) ∨ (e.kind = .cpyx ∧ readable index ix 4 ∧
      from0 = e.src + BitVec.ofNat 64 (Memory.readNat ix 4 s.mem + e.part)) →
    readable from0 src n →
    let into := shadowLoc e.sh dst
    let before := (List.range n).map fun i => (into + i, Memory.read (into + i) s.mem)
    let rest := e.dests.filter fun i => i != j
    into + n ≤ 2 ^ 64 → s.reachable cl into n = true → (e.fe = true → (s.storageAt into).waits = []) →
    Completes (.copyBeatArrival cl k j) s fun t =>
      t.engineCmd cl k = some (if rest = [] then { e.advance with before := before } else
        { e with read := some (some ((List.range n).map fun i => Memory.read (src + i) s.mem)), pending := rest, before := before }) ∧
      (∀ i < n, Memory.read (into + i) t.mem = Memory.read (src + i) s.mem) ∧ SameBytesOutside into n s t ∧
      (e.fe = true → ∀ g, into / 16 ≤ g → g * 16 < into + n → t.feFull g = true)) ∧
  (beat → s.windowOf agent row = .deny → Completes (.copyBeatArrival cl k 0) s fun t => SameBytes s t ∧
    t.engineCmd cl k = some { e.advance with mask := setBit e.mask 0 true }) ∧
  (∀ s1 p w, running → e.copied = true → e.bar ≠ 0#64 → e.arrived = false → e.bar.toNat % 8 = 0 →
    s.engineReach cl e true e.bar = (.place p, s1) → p.draft = none → p.loc + 8 ≤ 2 ^ 64 → s1.reachable cl p.loc 8 = true →
    s1.readPoisoned p 8 = false → s1.behind .failed p.loc = false → (arriveWord (readPlace s1 p 0 8)).1 = some w →
    Completes (.engineBarrierArrival cl k) s fun t =>
      t.engineCmd cl k = some { e with arrived := true } ∧ Memory.readNat p.loc 8 t.mem = w % 2 ^ 64 ∧ SameBytesOutside p.loc 8 s t) ∧
  (running → e.copied = true → e.bar = 0#64 ∨ e.arrived = true → calm →
    (e.via = none → e.mask = 0#64 → Completes (.copyComplete cl k) s fun t => t.engineCmd cl k = none ∧ SameBytes s t ∧
      (t.thread e.owner).failed = (s.thread e.owner).failed) ∧
    (e.via = none → e.mask ≠ 0#64 → e.reported = false → (s.thread e.owner).phase ≠ .retired →
      Completes (.copyComplete cl k) s fun t => t.engineCmd cl k = none ∧ SameBytes s t ∧
        { id := e.id, tile := e.tile, mask := e.mask } ∈ (t.thread e.owner).failed) ∧
    (∀ r tag, e.via = some (r, tag) → tag < 2 ^ 32 → Completes (.copyComplete cl k) s fun t => SameBytes s t ∧ ∃ x v,
      t.engineCmd cl k = some x ∧ x.state = .complete ∧ x.result = some v ∧ field v 63 32 = tag ∧ bit v 31 = true ∧
        bit v 30 = (e.mask != 0#64))) ∧
  (∀ die u b s1, s.headJob die u = some (cl, e) → e.job.started = false → s.engineOrdered e = true →
    s.engineRead cl e 2 e.src 64 = .data (some b) s1 →
    let j : DecodeJob :=
      { e.job with started := true, key := s.fresh, desc := (List.range 8).map fun i => BitVec.ofNat 64 (leWord b (8 * i) 8) }
    j.ok = true → Completes (.decJobStart die u) s fun t => SameBytes s t ∧
      t.engineCmd cl e.slot = some { e with state := .running, job := j }) ∧
  (∀ die u, s.headJob die u = some (cl, e) → e.job.started = true → e.job.word 7 = 0#64 → e.faultAt = none → e.failNext = false →
    e.job.frame = none → e.job.broken = true ∨ e.job.word 1 = 0#64 →
    s.windowOf agent (e.dst + BitVec.ofNat 64 (8 * e.job.done)) = .loc dst → dst + 8 ≤ 2 ^ 64 → s.reachable cl dst 8 = true →
    e.job.done + 1 < field (e.job.word 2) 63 32 → Completes (.decFrameComplete die u .readFault) s fun t =>
      Memory.readNat dst 8 t.mem = 6 * 2 ^ 32 ∧ SameBytesOutside dst 8 s t ∧
      ((t.die die).engine u).total = ((s.die die).engine u).total + 1 ∧
      ∃ x, t.engineCmd cl e.slot = some x ∧ x.job.done = e.job.done + 1 ∧ x.job.faulted = true)

/-! ### Pages, memory and translation -/

/-- The PAGE major (15_page R393-R396): TLBINV and TLBINVA, once the thread's earlier accesses and those made through the entries are
performed, leave no entry of the page or the address space in any TLB and every other entry in its place, and before wait; PGPROBE answers
a leaf, or 2^63 + kind x 2^16, and fills nothing; and MIGRATE answers 1 for a malformed descriptor, 2 for a page that may not migrate, 4
for near to near, 3 for a full engine, and else 0, with the migration queued, its leaf MIGRATING and its status word 0. Without system
privilege each raises PRIVILEGE. -/
def Obligations.PageInstructions : Prop := ∀ (s s1 : State) (d a b : BitVec 5) (p : Place),
  let va := s.ctx.g a.toNat
  let x := s.ctx.g b.toNat
  let asid := field x 15 0
  let page (e : TlbEntry) : Bool := field va 63 55 == 0 && e.covers asid va.toNat
  let space (e : TlbEntry) : Bool := bit x 16 || e.asid == asid
  let free (f : TlbEntry → Bool) : Prop :=
    ∀ e ∈ s.tlbEntries f, s.rangeBusy (leafRange e.leaf e.large).1 (leafRange e.leaf e.large).2 = false
  let emptied (f : TlbEntry → Bool) (t : State) : Prop := Advanced 1 s t ∧ SameBytes s t ∧ (∀ r, t.ctx.g r = s.ctx.g r) ∧
    t.tlbEntries f = [] ∧ t.tlbEntries (fun e => !f e) = s.tlbEntries fun e => !f e
  let released := s.ctx.loads = [] ∧ s.ctx.stores = []
  let w (i : Nat) : Word := BitVec.ofNat 64 (readPlace s1 p (8 * i) 8)
  let malformed := field (w 0) 63 55 ≠ 0 ∨ (w 0).toNat % 65536 ≠ 0 ∨ field (w 1) 63 16 ≠ 0 ∨ s1.frameOk (w 2).toNat = false
  let leaf := s1.migratable (field (w 1) 15 0) (w 0).toNat
  let answers (v : Word) : Prop := Completes (.migrate d a) s (Wrote d v 1 s1)
  let probes (v : Word) : Prop := Completes (.pgprobe d a b) s (Wrote d v 1 s)
  (s.ctx.sys = false → s.ctx.trapFatal = false → ∀ i word,
    (i = .tlbinv a b ∨ i = .tlbinva b ∨ i = .pgprobe d a b ∨ i = .migrate d a) → encode i = some (word, none) →
    Completes i s (Trapped 0x02 s.ctx.pc (BitVec.ofNat 64 word) s)) ∧
  (s.ctx.sys = true →
    (released → free page → Completes (.tlbinv a b) s (emptied page)) ∧
    (released → free space → Completes (.tlbinva b) s (emptied space)) ∧
    (¬released ∨ ¬free page → Completes (.tlbinv a b) s (Held s)) ∧
    (¬released ∨ ¬free space → Completes (.tlbinva b) s (Held s)) ∧
    (field va 63 55 ≠ 0 → probes 0x8000000000050000#64) ∧
    (field va 63 55 = 0 → s.pkg.boot = .sealed ∨ asid ≠ 0 →
      (∀ e ∈ (s.die (s.cur.cluster / 352)).tlb, e.covers asid va.toNat = false) →
      (∀ at0 l large, s.walk asid va.toNat = .ok (at0, l, large) → probes (if large then setBit l 2 true else l)) ∧
      (∀ k, s.walk asid va.toNat = .error k → probes (BitVec.ofNat 64 (2 ^ 63 + k * 2 ^ 16)))) ∧
    (va.toNat % 32 = 0 → ¬released → Completes (.migrate d a) s (Held s)) ∧
    (va.toNat % 32 = 0 → released → (s.flush s.cur 4).reach s.agent (.thread s.cur false) true false false va = (.place p, s1) →
      s1.mayPerform s1.cur s1.ctx.nextSeq p 32 false = true → s1.readPoisoned p 32 = false →
      (malformed → answers 1#64) ∧ (¬malformed → leaf = none → answers 2#64) ∧
      (∀ at0 l, ¬malformed → leaf = some (at0, l) →
        let old := field l 51 16 * 65536
        let new := (w 2).toNat
        let f := migrationEngine old new
        (physNear old = true → physNear new = true → answers 4#64) ∧
        (physNear old = false ∨ physNear new = false → 16 ≤ (s1.migrationsOf f).length → answers 3#64) ∧
        (physNear old = false ∨ physNear new = false → (s1.migrationsOf f).length < 16 → s.MemOk → p.loc + 32 ≤ 2 ^ 64 →
          at0 + 8 ≤ p.loc + 24 ∨ p.loc + 32 ≤ at0 → at0 + 8 ≤ 2 ^ 64 → (∀ k, s1.linkState k ≠ .failed) → s1.bankReady at0 = true →
          s1.bankReady p.loc = true →
          Completes (.migrate d a) s fun t => Advanced 1 s t ∧ (d ≠ 0#5 → t.ctx.g d.toNat = 0#64) ∧
            (∀ r, r ≠ d.toNat → t.ctx.g r = s.ctx.g r) ∧ Memory.readNat (p.loc + 24) 8 t.mem = 0 ∧
            Memory.readNat at0 8 t.mem = (setBit l 11 true).toNat ∧
            (∀ z, z < p.loc + 24 ∨ p.loc + 32 ≤ z → z < at0 ∨ at0 + 8 ≤ z → Memory.read z t.mem = Memory.read z s.mem) ∧
            ∃ m, t.migrationsOf f = s1.migrationsOf f ++ [m] ∧ m.asid = field (w 1) 15 0 ∧ m.va = (w 0).toNat ∧ m.old = old ∧
              m.new = new ∧ m.leafAt = at0 ∧ m.leaf = l ∧ m.entered = false ∧ m.step = 0))))

/-- A migration (15_page R378, R385-R388): its engine starts it with no TLB entry of the page left, copies 256 bytes a step, and ends it
with the destination's frame and tier in the leaf and MIGRATING clear; the Timetable starts one for a READY kernel's next FAR page with the
frame ring's next frame, whose HEAD advances, and MIGRATING in the leaf. Banks, errors and folding (15_page R389, R391, R392; 12_kernel
R317): an open row whose idle timer has run out with no request for it queued precharges, and only a precharged bank with no request queued
is refreshed; an uncorrectable memory error poisons its line and puts its resource under test, as a corrected one does, and an error during
a test counts; a test that passes returns the resource to service, one that fails retires it; and the oldest committed line of a granule is
folded into memory. -/
def Obligations.MigrationsAndMemoryService : Prop :=
  (∀ (s : State), s.MemOk →
   (∀ (f : Nat) (m : Migration) (rest : List Migration), s.migrationsOf f = m :: rest → s.engineOpen f m = true →
     (m.entered = false → s.rangeBusy m.old 65536 = false → s.pkg.drafts = [] →
       Completes (.migrationEntry f) s fun t => t.migrationsOf f = { m with entered := true } :: rest ∧ SameBytes s t ∧
         t.tlbEntries m.covered = []) ∧
     (m.entered = true → m.step < 256 → s.rangeBusy (m.old + 256 * m.step) 256 = false → m.new + 256 * m.step + 256 ≤ 2 ^ 64 →
       (∀ i < 4, s.siteReady (homeSite m.old) (m.old + 256 * m.step + 64 * i) = true ∧
         s.siteReady (homeSite m.new) (m.new + 256 * m.step + 64 * i) = true ∧ poisoned s (m.old + 256 * m.step + 64 * i) 64 = false) → s.behind .failed (m.new + 256 * m.step) = false →
       Completes (.migrationStep f) s fun t => t.migrationsOf f = { m with step := m.step + 1 } :: rest ∧
         (∀ j < 256, Memory.read (m.new + 256 * m.step + j) t.mem = Memory.read (m.old + 256 * m.step + j) s.mem) ∧
         SameBytesOutside (m.new + 256 * m.step) 256 s t) ∧
     (m.entered = true → 256 ≤ m.step → s.rangeBusy m.old 65536 = false → s.rangeBusy m.new 65536 = false → s.pkg.ring = none →
       m.leafAt + 8 ≤ 2 ^ 64 → s.bankReady m.leafAt = true → s.behind .failed m.leafAt = false → m.status = none → m.new < 2 ^ 52 →
       Completes (.migrationComplete f) s fun t =>
         t.migrationsOf f = rest ∧ SameBytesOutside m.leafAt 8 s t ∧ t.tlbEntries m.covered = [] ∧
         let leaf := BitVec.ofNat 64 (Memory.readNat m.leafAt 8 t.mem)
         field leaf 51 16 = m.new / 65536 ∧ field leaf 9 8 = (if m.new < 0x14000000000 then 0 else 1) ∧ bit leaf 11 = false ∧
         ∀ k < 64, k < 8 ∨ k = 10 ∨ (12 ≤ k ∧ k < 16) ∨ 52 ≤ k → bit leaf k = bit m.leaf k)) ∧
   (∀ k asid va at0 leaf new, s.farPage k = some (asid, va, at0, leaf) → s.nextFrame = some new → s.frameOk new = true →
     physNear new = true →
     let g := migrationEngine (field leaf 51 16 * 65536) new
     let fr := s.pkg.frbase.toNat
     (s.migrationsOf g).length < 16 → s.frameRing.1 < 2 ^ 64 - 1 → fr + 8 ≤ 2 ^ 60 → at0 + 8 ≤ 2 ^ 60 → at0 + 8 ≤ fr ∨ fr + 8 ≤ at0 →
     (∀ l, s.linkState l ≠ .failed) → poisoned s fr 64 = false →
     poisoned s (fr + 64 + 8 * (s.frameRing.1 % s.frameRing.2.2)) 8 = false →
     Completes (.residencyMigrationStart k) s fun t => t.frameRing.1 = s.frameRing.1 + 1 ∧
       Memory.readNat at0 8 t.mem = (setBit leaf 11 true).toNat ∧
       (∀ z, z < fr ∨ fr + 8 ≤ z → z < at0 ∨ at0 + 8 ≤ z → Memory.read z t.mem = Memory.read z s.mem) ∧
       ∃ n, t.migrationsOf g = s.migrationsOf g ++ [n] ∧ n.asid = asid ∧ n.va = va ∧
         n.new = new ∧ n.old = field leaf 51 16 * 65536 ∧ n.status = none)) ∧
  (∀ (s : State) (ch b a : Nat) (r : Resource) (g : Nat) (x : DraftLine),
   let only (t : State) : Prop := t = { s with pkg := { s.pkg with banks := t.pkg.banks } }
   let inBank (l : Nat) : Bool := Loc.isPhys l && bankKey l == ch * 65536 + b
   (∀ row since idle, s.bank ch b = .openRow row since idle → since + 2 * idle ≤ s.now →
     (s.queuedAt fun l => inBank l && Config.rowOf l == row) = false →
     Completes (.bankIdleTimerExpiry ch b) s fun t => t.bank ch b = .precharged ∧ only t) ∧
   (s.bank ch b = .precharged → s.queuedAt inBank = false →
     Completes (.bankRefresh ch b) s fun t => t.bank ch b = .refreshing s.now ∧ only t) ∧
   (∀ row since idle, s.bank ch b = .openRow row since idle → Completes (.bankRefresh ch b) s fun t => t = s) ∧
   (s.testState r = .inService → Completes (.correctedError r) s fun t => t.testState r = .testing 0 ∧ SameBytes s t) ∧
   (∀ n, s.testState r = .testing n →
     (Completes (.correctedError r) s fun t => t.testState r = .testing (n + 1) ∧ SameBytes s t) ∧
     (s.pkg.ring = none → Completes (.selfTestComplete r true) s fun t => t.testState r = .inService ∧ SameBytes s t) ∧
     (r = .dram a → s.pkg.ring = none → Completes (.selfTestComplete r false) s fun t =>
       t.testState r = .retired ∧ SameBytes s t)) ∧
   (s.testState (.dram a) = .inService → a < s.draftBase → s.pkg.ring = none → Completes (.uncorrectableError (.dram a)) s fun t =>
     a / 64 ∈ t.poison ∧ t.testState (.dram a) = .testing 0 ∧ SameBytes s t) ∧
   (s.MemOk → x ∈ s.pkg.drafts → x.granule = g → g * 256 + 256 ≤ 2 ^ 64 → x.bytes.Pairwise (fun y z => y.1 ≠ z.1) →
     (∀ y ∈ x.bytes, y.1 < 256) → (∃ c, x.commit = some c ∧ ∀ y ∈ s.pkg.drafts, y ≠ x → y.granule = g → ∀ e, y.commit = some e → c < e) →
     Completes (.draftFold g) s fun t => t.pkg.drafts = (s.pkg.drafts.filter fun y => y != x) ∧
       (∀ y ∈ x.bytes, Memory.read (g * 256 + y.1) t.mem = y.2) ∧
       (∀ l, (∀ y ∈ x.bytes, l ≠ g * 256 + y.1) → Memory.read l t.mem = Memory.read l s.mem)))

/-- The fetch unit of a cluster (06_group R164-R166): of the groups that request, first the one whose oldest request has waited 64 cycles,
else the one at the lowest block address. A member whose line is in the instruction cache has its block at once, one whose line is not
there starts a fill, and one whose address is denied has the fault in place of the words; the fill's arrival puts the line in the cache
and the block in the buffer of each of its threads that requests it. A walk that finds its leaf fills its die's TLB and returns the PARKED
threads that waited to READY; one that fails parks the thread, whose fault record opens under the die's next number, not posted while the
fault queue is full, and is held while the fault unit has its 256; as the servicer moves HEAD on, the record is written to the queue and
TAIL follows; and when the servicer resolves it, the record closes: RESOLVE = 1 walks again for the thread, or, where its ASID-table entry
is not valid, readies it for its ACCESS; any other value delivers PAGEFAULT, for a fetch in place of its words (15_page R372, R380-R383,
04_context R99). -/
def Obligations.FetchingAndTranslation : Prop :=
  (∀ (s s1 : State) (cl k b a : Nat) (t : ThreadRef),
   let since (r : ThreadRef × Nat × Nat) : Nat := (s.thread r.1).requestedAt s.now
   let old (r : ThreadRef × Nat × Nat) : Prop := since r + 64 ≤ s.now
   let reached (r : Reach) : Prop := s.reach (s.agentOf t) (.thread t true) false false true (BitVec.ofNat 64 b) = (r, s1)
   let newest (x : FetchBlock) (u : ThreadRef) (v : State) : Prop := ∃ r, (v.thread u).fetch = x :: r ∧ r.length ≤ 1
   (∀ l g, s.nextGroup l = some g → ∃ r ∈ l, r.2 = g ∧ ((∀ q ∈ l, ¬old q) → ∀ q ∈ l, r.2.1 ≤ q.2.1) ∧
     ((∃ q ∈ l, old q) → old r ∧ ∀ q ∈ l, old q → since r ≤ since q)) ∧
   (s.fetchRequests cl = [(t, b, a)] → s.underTest (ofInstrCache cl) = false →
     (∀ p bytes, reached (.place p) → cachedLine (s1.cluster cl).icache (p.loc / 64) = some bytes →
       Completes (.fetchGrant cl) s fun v => newest { base := b, words := blockWords bytes p.loc } t v ∧ SameBytes s v) ∧
     (∀ p, reached (.place p) → cachedLine (s1.cluster cl).icache (p.loc / 64) = none → s1.lineLost cl (p.loc / 64) = false →
       Completes (.fetchGrant cl) s fun v =>
         (v.cluster cl).fills = (s1.cluster cl).fills ++ [{ base := b, line := p.loc / 64, threads := [t] }] ∧ SameBytes s v) ∧
     (reached .deny → Completes (.fetchGrant cl) s fun v => newest (deniedBlock b) t v ∧ SameBytes s v)) ∧
   (∀ f, (s.cluster cl).fills[k]? = some f → s.fillDue cl k = true → s.lineLost cl f.line = false → f.threads.Nodup →
     (∀ u ∈ f.threads, (s.thread u).wantsBlock = some f.base) →
     let bytes := (cachedLine (s.cluster cl).icache f.line).getD (s.lineBytes f.line)
     Completes (.instructionLineFill cl k) s fun v => (v.cluster cl).fills = eraseNth k (s.cluster cl).fills ∧
       cachedLine (v.cluster cl).icache f.line = some bytes ∧ SameBytes s v ∧
       ∀ u ∈ f.threads, newest { base := f.base, words := blockWords bytes f.base } u v)) ∧
  (∀ (s : State) (d k : Nat) (u : ThreadRef),
   (∀ w at0 leaf large, (s.die d).walks[k]? = some w → s.walkDue d k = true →
     s.walk w.asid (w.page * 65536) = .ok (at0, leaf, large) →
     Completes (.walkComplete d k) s fun t => (t.die d).walks = eraseNth k (s.die d).walks ∧ SameBytes s t ∧
       (t.die d).tlb = (leafEntry w.asid (w.page * 65536) leaf large :: (s.die d).tlb).take 8192 ∧
       ∀ x ∈ w.waiters, ∀ f, x.who = .thread u f → (s.thread u).phase = .parked → (t.thread u).phase = .ready) ∧
   (∀ w kind x, (s.die d).walks[k]? = some w → s.walkDue d k = true → s.asidValid w.asid = true →
     s.walk w.asid (w.page * 65536) = .error kind → w.waiters = [x] → x.who = .thread u false → x.va.toNat / 65536 = w.page →
     (s.thread u).checking = none → (s.thread u).phase = .ready ∨ (s.thread u).phase = .waiting → (s.die d).faults.length < 256 →
     (∀ v ∈ (s.die d).walks, v.held = none ∨ v = w) → ((s.die d).faults.any fun f => f.covers w.asid kind w.page) = false →
     (s.faultQueue d).1 ≤ (s.die d).faultTail - (s.deviceWord ((s.faultQueue d).2 + 8)).toNat → s.pkg.ring = none → Completes (.walkComplete d k) s fun t =>
       (t.thread u).phase = .parked ∧ (t.thread u).parkedAt = some (x.va, false) ∧ (t.die d).walks = eraseNth k (s.die d).walks ∧
       SameBytes s t ∧ ∃ f, (t.die d).faults = (s.die d).faults ++ [f] ∧ f.asid = w.asid ∧ f.kind = kind ∧ f.va = x.va ∧
         f.waiters = [.thread u false] ∧ f.seq = (s.die d).nextFault ∧ f.posted = none) ∧
   (∀ w kind, (s.die d).walks[k]? = some w → s.walkDue d k = true → s.asidValid w.asid = true →
     s.walk w.asid (w.page * 65536) = .error kind → 256 ≤ (s.die d).faults.length →
     ((s.die d).faults.any fun f => f.covers w.asid kind w.page) = false → Completes (.walkComplete d k) s fun t =>
       (t.die d).walks[k]? = some { w with held := some s.now } ∧ (t.die d).faults = (s.die d).faults ∧ SameBytes s t) ∧
   (∀ r, s.MemOk → ((s.die d).faults.filter fun f => f.posted.isNone) = [r] → s.faultRoom d = true →
     let c := (s.faultQueue d).2
     let j := (s.die d).faultTail
     let a := s.faultSlot d j
     c + 64 ≤ 2 ^ 60 → a + 64 ≤ 2 ^ 60 → j + 1 < 2 ^ 64 → (∀ l, s.linkState l ≠ .failed) → poisoned s c 64 = false →
       Completes (.faultQueueHeadAdvance d) s fun t =>
       (t.die d).faultTail = j + 1 ∧ Memory.readNat c 8 t.mem = j + 1 ∧ Memory.readNat a 8 t.mem = r.va.toNat ∧
       Memory.readNat (a + 8) 8 t.mem = r.word1.toNat ∧ Memory.readNat (a + 16) 8 t.mem = r.handle.toNat ∧
       Memory.readNat (a + 24) 8 t.mem = 0 ∧ Memory.readNat (a + 32) 8 t.mem = (BitVec.ofNat 64 r.seq).toNat ∧
       (∃ f ∈ (t.die d).faults, f.seq = r.seq ∧ f.posted = some j) ∧
       ∀ l, (l < c ∨ c + 8 ≤ l) → (l < a ∨ a + 64 ≤ l) → Memory.read l t.mem = Memory.read l s.mem) ∧
   (∀ f va ft, (s.die d).faults[k]? = some f → f.waiters = [.thread u ft] → (s.thread u).phase = .parked →
     (s.thread u).parkedAt = some (va, ft) → (∀ j, f.posted = some j → poisoned s (s.faultSlot d j) 32 = false) →
     let asid := (s.thread u).asid.toNat
     let mine := (s.die (dieOf u)).walks
     (s.resolveOf d f = 1 → s.asidValid asid = true → (mine.any fun w => w.asid == asid && w.page == va.toNat / 65536) = false →
       Completes (.faultResolve d k) s fun t => (t.thread u).phase = .parked ∧ (t.die d).faults = eraseNth k (s.die d).faults ∧
         SameBytes s t ∧ (t.die (dieOf u)).walks = mine ++ [{ asid := asid, page := va.toNat / 65536, waiters :=
           [{ who := .thread u ft, va := va, write := (s.thread u).parkedWrite, micro := (s.thread u).parkedMicro }] }]) ∧
     (s.resolveOf d f = 1 → s.asidValid asid = false → s.asidHeld asid = false → Completes (.faultResolve d k) s fun t =>
       (t.thread u).phase = .ready ∧ (t.die d).faults = eraseNth k (s.die d).faults ∧ SameBytes s t) ∧
     (1 < s.resolveOf d f → ft = false → s.cutSeq u = none → Completes (.faultResolve d k) s fun t =>
       (t.thread u).phase = .ready ∧ (t.thread u).parkFail = true ∧ (t.thread u).parkedAt = some (va, false) ∧
       (t.die d).faults = eraseNth k (s.die d).faults ∧ SameBytes s t) ∧
     (1 < s.resolveOf d f → ft = true → Completes (.faultResolve d k) s fun t =>
       (t.thread u).phase = .ready ∧ (t.die d).faults = eraseNth k (s.die d).faults ∧ SameBytes s t ∧
       ∀ n < 4, bufferWord (t.thread u).fetch (va.toNat / 16 * 16 + 4 * n) =
         some (.fault (.pageFault (BitVec.ofNat 64 (va.toNat / 16 * 16 + 4 * n)))))))

/-! ### Vectors -/

/-- VCFG, once the thread's vector and tile work is complete, declares 4, 8, 16, 32 or 64 registers, clears the vector state and answers
VLMAX, and waits before; SETVL sets the type and the length, the requested elements rounded up to a block and bounded by a register's, and
answers it; a type that no register holds is ILLEGAL with that type (07_vector R175-R180). -/
def Obligations.VectorConfiguration : Prop := ∀ (s : State) (d a f : BitVec 5) (n : BitVec 3) (b r : BitVec 2) (x : BitVec 1),
  let size := if b.toNat = 0 then 1 else 2 ^ (3 + b.toNat)
  let elements := s.ctx.vlmax * 8 / fmtWidth f.toNat / size * size
  let type := x ++ r ++ b ++ f
  let vtype := (1#1 ++ type).setWidth 64
  let req := s.ctx.g a.toNat
  let vl := BitVec.ofNat 64 (min ((req.toNat + size - 1) / size * size) elements)
  let bad := (17 ≤ f.toNat ∧ f.toNat ≤ 22 ∧ size < 32) ∨ (24 ≤ f.toNat ∧ size = 1) ∨ elements = 0
  let idle := (∀ v ∈ (s.core (coreKey s.cur)).commands, v.slot ≠ s.cur.slot) ∧ s.tileCommands s.cur = 0
  (idle → Completes (.vcfg d n) s fun t => Advanced 1 s t ∧ OnlyThread s t ∧
    (d ≠ 0#5 → t.ctx.g d.toNat = BitVec.ofNat 64 (s.ctx.share / (4 * 2 ^ n.toNat))) ∧ (∀ k, k ≠ d.toNat → t.ctx.g k = s.ctx.g k) ∧
    t.ctx = { s.ctx with
      vnreg := 4 * 2 ^ n.toNat, vl := 0#64, vtype := 0#64, vreq := 0#64, vstart := 0#64, vregs := Vector.replicate 64 0
      masks := Vector.replicate 8 0, regs := t.ctx.regs, pc := t.ctx.pc, instret := t.ctx.instret, counts := t.ctx.counts, phase := .ready
      execExempt := false }) ∧
  (¬idle → Completes (.vcfg d n) s (Held s)) ∧
  (¬bad → Completes (.setvl d a f b r x) s fun t => Advanced 1 s t ∧ OnlyThread s t ∧
    (d ≠ 0#5 → t.ctx.g d.toNat = vl) ∧ (∀ k, k ≠ d.toNat → t.ctx.g k = s.ctx.g k) ∧
    t.ctx = { s.ctx with
      vl := vl, vtype := vtype, vreq := req, regs := t.ctx.regs, pc := t.ctx.pc, instret := t.ctx.instret, counts := t.ctx.counts
      phase := .ready, execExempt := false }) ∧
  (bad → s.ctx.trapFatal = false → Completes (.setvl d a f b r x) s (Trapped 0x01 s.ctx.pc vtype s))

/-- Every vector arithmetic (VSADD, VSSUB, VSADDU and VSSUBU among it), mask, permutation, reduction and conversion instruction, and each
long form, is accepted with its registers,
scalars, type and length captured when a type is set that its operation accepts and its core's arithmetic queue has an entry; it waits for
an entry, and is ILLEGAL with VTYPE on a type or register it does not accept (07_vector R177, R182; 08_vector_ops R201-R221). -/
def Obligations.VectorIssue : Prop :=
  ∀ (s : State) (d a b : BitVec 6) (x y f g : BitVec 5) (m p q d3 l : BitVec 3) (k : BitVec 2) (j : BitVec 10) (z0 : BitVec 11)
    (o : BitVec 1) (i : Instr) (n : Nat) (c : VCmd),
  let form (words : Nat) (op : VOp) (vd va vb mk : Nat) (x1 x2 : Word) : Prop :=
    n = words ∧ c = { s.capture op vd va vb mk (wordsValue i).toNat with x1 := x1, x2 := x2 }
  let three (op : VOp) : Prop := form 1 op d.toNat a.toNat b.toNat m.toNat 0#64 0#64
  ((i = .vsadd d a b m ∧ three (.int .sadd)) ∨
   (i = .vadd d a b m ∧ three (.int .add)) ∨ (i = .vsub d a b m ∧ three (.int .sub)) ∨ (i = .vmul d a b m ∧ three (.int .mul)) ∨
   (i = .vmulh d a b m ∧ three (.int .mulh)) ∨ (i = .vmin d a b m ∧ three (.int .min)) ∨ (i = .vmax d a b m ∧ three (.int .max)) ∨
   (i = .vminu d a b m ∧ three (.int .minu)) ∨ (i = .vmaxu d a b m ∧ three (.int .maxu)) ∨ (i = .vand d a b m ∧ three (.int .and)) ∨
   (i = .vor d a b m ∧ three (.int .or)) ∨ (i = .vxor d a b m ∧ three (.int .xor)) ∨ (i = .vsll d a b m ∧ three (.int .sll)) ∨
   (i = .vsrl d a b m ∧ three (.int .srl)) ∨ (i = .vsra d a b m ∧ three (.int .sra)) ∨
   (i = .vssub d a b m ∧ three (.int .ssub)) ∨ (i = .vsaddu d a b m ∧ three (.int .saddu)) ∨
   (i = .vssubu d a b m ∧ three (.int .ssubu)) ∨ (i = .vmacc d a b m ∧ three (.int .macc)) ∨ (i = .vdot4 d a b m ∧ three (.dot4)) ∨
   (i = .vfadd d a b m ∧ three (.fp .add)) ∨ (i = .vfsub d a b m ∧ three (.fp .sub)) ∨ (i = .vfmul d a b m ∧ three (.fp .mul)) ∨
   (i = .vfma d a b m ∧ three (.fp .fma)) ∨ (i = .vfms d a b m ∧ three (.fp .fms)) ∨ (i = .vfnma d a b m ∧ three (.fp .fnma)) ∨
   (i = .vfdiv d a b m ∧ three (.fp .div)) ∨ (i = .vfmin d a b m ∧ three (.fp .min)) ∨ (i = .vfmax d a b m ∧ three (.fp .max)) ∨
   (i = .vfsgnj d a b m ∧ three (.fp .sgnj)) ∨ (i = .vfsgnjn d a b m ∧ three (.fp .sgnjn)) ∨ (i = .vmerge d a b m ∧ three (.merge)) ∨
   (i = .vgath d a b m ∧ three (.gath)) ∨ (i = .vredsum d a b m ∧ three (.red .sum)) ∨ (i = .vredmin d a b m ∧ three (.red .min)) ∨
   (i = .vredmax d a b m ∧ three (.red .max)) ∨ (i = .vredand d a b m ∧ three (.red .and)) ∨ (i = .vredor d a b m ∧ three (.red .or)) ∨
   (i = .vfredsum d a b m ∧ three (.red .fsum)) ∨ (i = .vfredmax d a b m ∧ three (.red .fmax)) ∨
   (i = .vfredmin d a b m ∧ three (.red .fmin)) ∨ (i = .vfsqrt d a m ∧ form 1 (.fp .sqrt) d.toNat a.toNat 0 m.toNat 0#64 0#64) ∨
   (i = .vmv d a m ∧ form 1 (.mv) d.toNat a.toNat 0 m.toNat 0#64 0#64) ∨
   (i = .vcomp d a m ∧ form 1 (.comp) d.toNat a.toNat 0 m.toNat 0#64 0#64) ∨
   (i = .vrot d a m ∧ form 1 (.rot) d.toNat a.toNat 0 m.toNat 0#64 0#64) ∨
   (i = .vcmp p d3 a b m ∧ form 1 (.cmp p.toNat) d3.toNat a.toNat b.toNat m.toNat 0#64 0#64) ∨
   (i = .vfeq p d3 a b m ∧ form 1 (.feq p.toNat) d3.toNat a.toNat b.toNat m.toNat 0#64 0#64) ∨
   (i = .mand d3 p q ∧ form 1 (.maskLogic 0) d3.toNat p.toNat q.toNat 0 0#64 0#64) ∨
   (i = .mor d3 p q ∧ form 1 (.maskLogic 1) d3.toNat p.toNat q.toNat 0 0#64 0#64) ∨
   (i = .mxor d3 p q ∧ form 1 (.maskLogic 2) d3.toNat p.toNat q.toNat 0 0#64 0#64) ∨
   (i = .mandn d3 p q ∧ form 1 (.maskLogic 3) d3.toNat p.toNat q.toNat 0 0#64 0#64) ∨
   (i = .mpopc x p m ∧ form 1 .mpopc x.toNat p.toNat 0 m.toNat 0#64 0#64) ∨
   (i = .mfirst x p m ∧ form 1 .mfirst x.toNat p.toNat 0 m.toNat 0#64 0#64) ∨
   (i = .mset d3 p k m ∧ form 1 .mset d3.toNat p.toNat k.toNat m.toNat 0#64 0#64) ∨
   (i = .vmvs d x m ∧ form 1 .mvs d.toNat 0 0 m.toNat (s.ctx.g x.toNat) 0#64) ∨
   (i = .vext x a y ∧ form 1 .ext x.toNat a.toNat 0 0 0#64 (s.ctx.g y.toNat)) ∨
   (i = .vins d x y ∧ form 1 .ins d.toNat 0 0 0 (s.ctx.g x.toNat) (s.ctx.g y.toNat)) ∨
   (i = .vslup d a x m ∧ form 1 .slup d.toNat a.toNat 0 m.toNat 0#64 (s.ctx.g x.toNat)) ∨
   (i = .vsldn d a x m ∧ form 1 .sldn d.toNat a.toNat 0 m.toNat 0#64 (s.ctx.g x.toNat)) ∨
   (i = .vslupImm d a x m j ∧ form 2 .slup d.toNat a.toNat 0 m.toNat 0#64 (s.ctx.g x.toNat + j.setWidth 64)) ∨
   (i = .vsldnImm d a x m j ∧ form 2 .sldn d.toNat a.toNat 0 m.toNat 0#64 (s.ctx.g x.toNat + j.setWidth 64)) ∨
   (i = .viota d p m ∧ form 1 .iota d.toNat p.toNat 0 m.toNat 0#64 0#64) ∨
   (i = .vcvt d a f m ∧ form 1 .cvt d.toNat a.toNat f.toNat m.toNat 0#64 0#64) ∨
   (i = .vqnt d a f ∧ form 1 .qnt d.toNat a.toNat f.toNat 0 0#64 0#64) ∨
   (i = .vdqnt d a f m ∧ form 1 .dqnt d.toNat a.toNat f.toNat m.toNat 0#64 0#64) ∨
   (i = .vplx d a p m ∧ form 1 .plx d.toNat a.toNat p.toNat m.toNat 0#64 0#64) ∨
   (i = .vpli d a p m ∧ form 1 .pli d.toNat a.toNat p.toNat m.toNat 0#64 0#64) ∨
   (i = .lvLongForm d a b m f l k z0 o g ∧ n = 2 ∧ c = { s.capture (longFormOp l.toNat f.toNat d.toNat).1 (longFormOp l.toNat f.toNat d.toNat).2 a.toNat b.toNat
      m.toNat (wordsValue i).toNat with rsz := k.toNat, ridx := z0.toNat, scalar := if o = 1#1 then some (s.ctx.g g.toNat) else none })) →
  (bit s.ctx.vtype 10 = true → c.accepted s.ctx = true → queueEntries (s.core (coreKey s.cur)).arithQ < 16 → Completes i s (Queued n c s)) ∧
  (bit s.ctx.vtype 10 = true → c.accepted s.ctx = true → 16 ≤ queueEntries (s.core (coreKey s.cur)).arithQ → Completes i s (Held s)) ∧
  (bit s.ctx.vtype 10 = false ∨ c.accepted s.ctx = false → s.ctx.trapFatal = false →
    Completes i s (Trapped 0x01 s.ctx.pc s.ctx.vtype s))

/-- Every vector load and store and every tile move is accepted for its checks, with its base, stride or index and masks captured, when it
accepts the type and registers, a tile is bound to the name, and the queue, the counters and its mask and index registers allow it: the
thread waits for the checks with no register or byte changed; else it waits to issue, or traps (07_vector R186-R197; 09_tile R243, R244).
-/
def Obligations.VectorMemoryIssue : Prop :=
  ∀ (s : State) (d z : BitVec 6) (a x : BitVec 5) (m f r e : BitVec 3) (t : BitVec 4) (i : Instr) (c : VCmd),
  let word := (wordsValue i).toNat
  let memory (op : VOp) (va nf : Nat) (x2 : Word) : Prop :=
    c = { s.capture op d.toNat va 0 m.toNat word with x1 := s.ctx.g a.toNat, x2 := x2, nf := nf }
  let move (op : VOp) (va : Nat) (x2 : Word) : Prop :=
    c = { s.capture op t.toNat va 0 0 word with
      x1 := s.ctx.g a.toNat, x2 := x2, mr := r.toNat, mc := e.toNat, sources := [s.ctx.v va], scalar := some s.ctx.tctl }
  let stride := s.ctx.g x.toNat
  ((i = .vld d a m ∧ memory (.load .unit) 0 0 0#64) ∨ (i = .vlds d a x m ∧ memory (.load .strided) 0 0 stride) ∨
   (i = .vldx d a z m ∧ memory (.load .indexed) z.toNat 0 0#64) ∨ (i = .vlseg d a m f ∧ memory (.load .segment) 0 (f.toNat + 1) 0#64) ∨
   (i = .vldff d a m ∧ memory (.load .faultFirst) 0 0 0#64) ∨ (i = .vldp d a x m ∧ memory (.load .plane) 0 0 stride) ∨
   (i = .vst d a m ∧ memory (.store .unit) 0 0 0#64) ∨ (i = .vsts d a x m ∧ memory (.store .strided) 0 0 stride) ∨
   (i = .vstx d a z m ∧ memory (.store .indexed) z.toNat 0 0#64) ∨ (i = .vsseg d a m f ∧ memory (.store .segment) 0 (f.toNat + 1) 0#64) ∨
   (i = .vstp d a x m ∧ memory (.store .plane) 0 0 stride) ∨ (i = .tst t a x r e ∧ move (.tst false) 0 stride) ∨
   (i = .tstx t a z r e ∧ move (.tst true) z.toNat 0#64) ∨ (i = .tld t a x r e ∧ move .tld 0 stride)) →
  let good := bit s.ctx.vtype 10 = true ∧ c.memoryAccepted s.ctx = true
  let bound := c.op.isTileMove = true → s.ctx.tile c.vd ≠ .unbound
  let room := s.queueFull c.op = false ∧ s.countRoom c.op = true ∧ s.checkBlocked c = false
  (good → bound → room → Completes i s fun u =>
    u = { s with ctx := { s.ctx with phase := .waiting, reissue := false, checking := some { c with limit := c.total } } }) ∧
  (good → bound → ¬room → Completes i s (Held s)) ∧
  (good → ¬bound → s.ctx.trapFatal = false →
    Completes i s (Trapped 0x0B s.ctx.pc (BitVec.ofNat 64 (0x1000 + c.vd * 0x100)) s)) ∧
  (¬good → s.ctx.trapFatal = false → Completes i s (Trapped 0x01 s.ctx.pc s.ctx.vtype s))

/-- The integer operations on an element (08_vector_ops R200, R209): an active element of w bits takes the operation's result on w-bit
values, signed where the operation or, for VMULH, the format says; a padding element takes 0; a masked-off one, every other element of the
destination and every other register stand. The second operand is the element of vb, that of its replicated segment or a g register's low
bits (R206). The same of V-FP, VMV, VMVS, VCVT, VDQNT, VPLX and VPLI on an element of their destination's width, whose conditions accrue in
VFLAGS (R204, R211, R214, R218, R219, R221); of VMERGE, which has no masked-off element; and of VCMP, VFEQ and the logic of mask registers
on a bit of a mask register, the last for every element (R212). The whole-operand results on elements of w bits, once their instruction has
captured its sources (08_vector_ops R205, R210, R212-R216): MPOPC counts and MFIRST finds the set bits among the selected elements, MSET
sets bits by the first of them, VEXT and VINS move one element, VSLUP, VSLDN and VGATH move elements, VCOMP packs the selected ones, VIOTA
counts the bits below, the integer reductions fold the selected elements into element 0, and VDOT4 sums four products; an active element
takes the value, a padding one 0, and a masked-off one stands. -/
def Obligations.VectorResults : Prop :=
  (∀ (c : VCmd) (t : Thread) (i w : Nat) (o : VIntOp),
   let slot (r j : Nat) (u : Thread) : BitVec w := BitVec.ofNat w (u.vElem r w j)
   let x := slot c.va i t
   let seg := if c.rsz = 1 then 1 else if c.rsz = 2 then 4 else 16
   let y := match c.scalar with
     | some g => g.setWidth w
     | none => BitVec.ofNat w (t.v c.vb / 2 ^ (w * if c.rsz = 0 then i else seg * c.ridx + i % seg))
   let z := slot c.vd i t
   let u := c.perform t i
   let top : Int := (2 ^ (w - 1) : Nat)
   let limit (lo hi n : Int) : Int := max lo (min hi n)
   let result : BitVec w := match o with
     | .add => x + y
     | .sub => x - y
     | .mul => x * y
     | .mulh => BitVec.ofInt w ((if c.fmt < 4 then x.toInt * y.toInt else ((x.toNat * y.toNat : Nat) : Int)) / ((2 ^ w : Nat) : Int))
     | .min => if x.sle y then x else y
     | .max => if x.sle y then y else x
     | .minu => if x.ule y then x else y
     | .maxu => if x.ule y then y else x
     | .and => x &&& y
     | .or => x ||| y
     | .xor => x ^^^ y
     | .sll => x <<< (y.toNat % w)
     | .srl => x >>> (y.toNat % w)
     | .sra => x.sshiftRight (y.toNat % w)
     | .sadd => BitVec.ofInt w (limit (-top) (top - 1) (x.toInt + y.toInt))
     | .ssub => BitVec.ofInt w (limit (-top) (top - 1) (x.toInt - y.toInt))
     | .saddu => BitVec.ofInt w (limit 0 ((2 ^ w : Nat) - 1) ((x.toNat : Int) + y.toNat))
     | .ssubu => BitVec.ofInt w (limit 0 ((2 ^ w : Nat) - 1) ((x.toNat : Int) - y.toNat))
     | .macc => z + x * y
   c.op = .int o → c.width = w → 0 < w → c.vd < 64 → w * i + w ≤ 8 * t.vlmax →
   (i < c.vreq → t.maskBit c.msk i = true → slot c.vd i u = result ∧ u.vflags = t.vflags) ∧
   (c.vreq ≤ i → slot c.vd i u = 0#w) ∧
   (i < c.vreq → t.maskBit c.msk i = false → u = t) ∧
   (∀ j, j ≠ i → w * j + w ≤ 8 * t.vlmax → slot c.vd j u = slot c.vd j t) ∧
   (∀ r, r ≠ c.vd → u.v r = t.v r) ∧ u = { t with vregs := u.vregs, vflags := u.vflags }) ∧
  (∀ (c : VCmd) (t : Thread) (i w : Nat) (r : Nat × Conds),
   let x := t.vElem c.va c.width i
   let seg := if c.rsz = 1 then 1 else if c.rsz = 2 then 4 else 16
   let y := match c.scalar with
     | some g => g.toNat % 2 ^ c.width
     | none => t.v c.vb / 2 ^ (c.width * if c.rsz = 0 then i else seg * c.ridx + i % seg) % 2 ^ c.width
   let z := t.vElem c.vd c.width i
   let k := vectorFloat c.fmt
   let top := 2 ^ (k.width - 1)
   let pos := c.vd * t.vbits + w * i
   let u := c.perform t i
   let fp (o : VFpOp) (v : Nat × Conds) : Prop := c.op = .fp o ∧ r = v
   let computes : Prop :=
     fp .add (floatAdd k c.rm c.sat x y) ∨ fp .sub (floatSub k c.rm c.sat x y) ∨ fp .mul (floatMul k c.rm c.sat x y) ∨
     fp .fma (floatFma k c.rm c.sat false false x y z) ∨ fp .fms (floatFma k c.rm c.sat false true x y z) ∨
     fp .fnma (floatFma k c.rm c.sat true false x y z) ∨ fp .div (floatDiv k c.rm c.sat x y) ∨ fp .sqrt (floatSqrt k c.rm c.sat x) ∨
     fp .min (floatMinMax k false x y) ∨ fp .max (floatMinMax k true x y) ∨ fp .sgnj (x % top + y / top % 2 * top, 0#7) ∨
     fp .sgnjn (x % top + (1 - y / top % 2) * top, 0#7) ∨ (c.op = .mv ∧ r = (x, 0#7)) ∨
     (c.op = .mvs ∧ r = (c.x1.toNat % 2 ^ c.width, 0#7)) ∨ (c.op = .cvt ∧ r = convert c.fmt c.vb c.rm c.sat x) ∨
     (c.op = .dqnt ∧ r = dequantise c.fmt c.vb c.rm c.sat x (t.vElem (c.va + 1) 8 (i / 32))) ∨
     (c.op = .plx ∧ r = (if (t.vElem c.va 8 i).testBit (7 - c.vb) then 1 else 0, 0#7)) ∨
     (c.op = .pli ∧ c.vb < 8 ∧ r.1 < 256 ∧ r.2 = 0#7 ∧
       ∀ b < 8, r.1.testBit b = if b = 7 - c.vb then (t.vElem c.va 1 i).testBit 0 else (t.vElem c.vd 8 i).testBit b)
   let stands : Prop := ∀ p n, n ≤ t.vbits → p + n ≤ 64 * t.vbits → p + n ≤ pos ∨ pos + w ≤ p → u.bitsAt p n = t.bitsAt p n
   w = c.destWidth → 0 < w → w ≤ t.vbits → pos + w ≤ 64 * t.vbits →
   (computes →
     (i < c.vreq → t.maskBit c.msk i = true → u.vElem c.vd w i = r.1 % 2 ^ w ∧ u.vflags = t.vflags ||| r.2.setWidth 64) ∧
     (c.vreq ≤ i → u.vElem c.vd w i = 0 ∧ u.vflags = t.vflags) ∧ (i < c.vreq → t.maskBit c.msk i = false → u = t) ∧
     stands ∧ u = { t with vregs := u.vregs, vflags := u.vflags }) ∧
   (c.op = .merge → stands ∧ u = { t with vregs := u.vregs } ∧
     u.vElem c.vd w i = if c.vreq ≤ i then 0 else if t.maskBit c.msk i then y else x)) ∧
  (∀ (c : VCmd) (t : Thread) (i : Nat) (v : Bool × Conds),
   let x := t.vElem c.va c.width i
   let seg := if c.rsz = 1 then 1 else if c.rsz = 2 then 4 else 16
   let y := match c.scalar with
     | some g => g.toNat % 2 ^ c.width
     | none => t.v c.vb / 2 ^ (c.width * if c.rsz = 0 then i else seg * c.ridx + i % seg) % 2 ^ c.width
   let a := BitVec.ofNat c.width x
   let b := BitVec.ofNat c.width y
   let f := decodeFloat (vectorFloat c.fmt) x
   let g := decodeFloat (vectorFloat c.fmt) y
   let nan := f.isNan || g.isNan
   let quiet : Conds := if f.isSignalling || g.isSignalling then condNV else 0#7
   let loud : Conds := if nan then condNV else 0#7
   let p := t.maskBit c.va i
   let q := t.maskBit c.vb i
   let u := c.perform t i
   let stands : Prop := (∀ m j, m ≠ c.vd ∨ j ≠ i → u.maskBit m j = t.maskBit m j) ∧ u = { t with masks := u.masks, vflags := u.vflags }
   let cmp (n : Nat) (d : Bool) : Prop := c.op = .cmp n ∧ v = (d, 0#7)
   let feq (n : Nat) (d : Bool) (e : Conds) : Prop := c.op = .feq n ∧ v = (d, e)
   let logic (n : Nat) (d : Bool) : Prop := c.op = .maskLogic n ∧ v = (d, 0#7)
   0 < c.vd → c.vd < 8 →
   (cmp 0 (a == b) ∨ cmp 1 (a != b) ∨ cmp 2 (a.slt b) ∨ cmp 3 (b.sle a) ∨ cmp 4 (a.ult b) ∨ cmp 5 (b.ule a) ∨
     feq 0 (!nan && decide (f.cmp g = 0)) quiet ∨ feq 1 (!nan && decide (f.cmp g < 0)) loud ∨
     feq 2 (!nan && decide (f.cmp g ≤ 0)) loud ∨ feq 3 nan quiet →
     (i < c.vreq → t.maskBit c.msk i = true → u.maskBit c.vd i = v.1 ∧ u.vflags = t.vflags ||| v.2.setWidth 64) ∧
     (c.vreq ≤ i → u.maskBit c.vd i = false ∧ u.vflags = t.vflags) ∧ (i < c.vreq → t.maskBit c.msk i = false → u = t) ∧ stands) ∧
   (logic 0 (p && q) ∨ logic 1 (p || q) ∨ logic 2 (p ^^ q) ∨ logic 3 (p && !q) →
     u.maskBit c.vd i = v.1 ∧ u.vflags = t.vflags ∧ stands)) ∧
  (∀ (c : VCmd) (t : Thread) (va vb mk ma w : Nat),
   let u := c.complete t
   let at0 (r j : Nat) (x : Thread) : Nat := x.vElem r w j
   let src (j : Nat) : Nat := va / 2 ^ (w * j) % 2 ^ w
   let idx (j : Nat) : Nat := vb / 2 ^ (w * j) % 2 ^ w
   let selected (j : Nat) : Prop := j < c.vl ∧ j < c.vreq ∧ mk.testBit j = true
   let counted (n : Nat) : Nat := ((List.range n).filter fun j => ma.testBit j).length
   let fits := 0 < w ∧ c.vd < 64 ∧ w * c.vl ≤ 8 * t.vlmax
   let elements (f : Nat → Nat) (writes : Nat → Prop) : Prop := fits → ∀ j < c.vl,
     (writes j → c.vreq ≤ j → at0 c.vd j u = 0) ∧ (writes j → selected j → at0 c.vd j u = f j % 2 ^ w) ∧
     (¬writes j ∨ (j < c.vreq ∧ mk.testBit j = false) → at0 c.vd j u = at0 c.vd j t)
   c.sources = [va, vb, mk, ma] → c.width = w → c.vlmax = t.vlmax → c.rsz = 0 → c.scalar = none → c.limit = c.vl →
   (c.op = .mpopc → ∃ l : List Nat, l.Nodup ∧ (∀ j, j ∈ l ↔ selected j ∧ ma.testBit j = true) ∧
     u = t.setG c.vd (BitVec.ofNat 64 l.length)) ∧
   (c.op = .mfirst → (∀ j, selected j → ma.testBit j = true → (∀ h < j, selected h → ma.testBit h = false) →
       u = t.setG c.vd (BitVec.ofNat 64 j)) ∧
     ((∀ j, selected j → ma.testBit j = false) → u = t.setG c.vd 0xFFFFFFFFFFFFFFFF#64)) ∧
   (c.op = .ext → c.x2.toNat < 8 * c.vlmax / w → w ≤ 64 →
     (c.fmt < 4 → u = t.setG c.vd ((BitVec.ofNat w (src c.x2.toNat)).signExtend 64)) ∧
     (4 ≤ c.fmt → c.fmt < 24 → u = t.setG c.vd (BitVec.ofNat 64 (src c.x2.toNat)))) ∧
   (c.op = .ext → 8 * c.vlmax / w ≤ c.x2.toNat → u = t.setG c.vd 0#64) ∧
   (c.op = .ins → 0 < w → c.vd < 64 → c.x2.toNat < 8 * c.vlmax / w → at0 c.vd c.x2.toNat u = c.x1.toNat % 2 ^ w ∧
     ∀ j, j ≠ c.x2.toNat → w * j + w ≤ 8 * t.vlmax → at0 c.vd j u = at0 c.vd j t) ∧
   (c.op = .slup → elements (fun j => src (j - c.x2.toNat)) fun j => c.x2.toNat ≤ j) ∧
   (c.op = .sldn → elements (fun j => if j + c.x2.toNat < c.vl then src (j + c.x2.toNat) else 0) fun _ => True) ∧
   (c.op = .gath → elements (fun j => if idx j < c.vl then src (idx j) else 0) fun _ => True) ∧
   (c.op = .iota → elements (fun j => counted (min j c.vreq)) fun _ => True) ∧
   (c.op = .mset → 0 < c.vd → c.vd < 8 → ∀ f, (∀ j, selected j → ma.testBit j = true → f ≤ j) →
     (selected f ∧ ma.testBit f = true) ∨ (f = c.vl ∧ ∀ j, selected j → ma.testBit j = false) →
     (∀ j < c.vl, (c.vreq ≤ j → u.maskBit c.vd j = false) ∧
       (selected j → u.maskBit c.vd j =
         if c.vb = 0 then decide (j < f) else if c.vb = 1 then decide (j ≤ f) else if c.vb = 2 then j == f else true) ∧
       (j < c.vreq → mk.testBit j = false → u.maskBit c.vd j = t.maskBit c.vd j)) ∧
     (∀ m j, m ≠ c.vd ∨ c.vl ≤ j → u.maskBit m j = t.maskBit m j) ∧ u = { t with masks := u.masks }) ∧
   (∀ l : List Nat, l.Pairwise (· < ·) → (∀ j, j ∈ l ↔ selected j) →
     (c.op = .comp → fits → ∀ j < c.vl, at0 c.vd j u = if j < l.length then src (l.getD j 0) else at0 c.vd j t) ∧
     (∀ o f, c.op = .red o →
       (o = .sum ∧ f = (fun a b => (a + b) % 2 ^ w)) ∨ (o = .and ∧ f = (fun a b => a &&& b)) ∨ (o = .or ∧ f = (fun a b => a ||| b)) ∨
       (o = .min ∧ f = fun a b => if c.fmt < 4 then (if (BitVec.ofNat w a).sle (BitVec.ofNat w b) then a else b) else min a b) ∨
       (o = .max ∧ f = fun a b => if c.fmt < 4 then (if (BitVec.ofNat w a).sle (BitVec.ofNat w b) then b else a) else max a b) →
       0 < w → c.vd < 64 → w ≤ 8 * t.vlmax → at0 c.vd 0 u = l.foldl (fun a j => f a (src j)) (idx 0))) ∧
   (c.op = .dot4 → w = 8 → 32 ≤ t.vbits → c.vd * t.vbits + 8 * c.vl ≤ 64 * t.vbits → ∀ j < c.vl / 4,
     let num (m : Nat) : Int := if c.fmt < 4 then (BitVec.ofNat 8 m).toInt else m
     let sum := (List.range 4).foldl (fun a h => if 4 * j + h < c.vreq then a + num (src (4 * j + h)) * num (idx (4 * j + h)) else a) 0
     (c.vreq ≤ 4 * j → u.vElem c.vd 32 j = 0) ∧
     (4 * j < c.vreq → mk.testBit j = true → u.vElem c.vd 32 j = (BitVec.ofInt 32 sum).toNat) ∧
     (4 * j < c.vreq → mk.testBit j = false → u.vElem c.vd 32 j = t.vElem c.vd 32 j)))

/-- The work of a cluster's vector unit on command c of core k (07_vector R182-R185, R196-R199; 08_vector_ops R205-R208; 12_kernel R321):
an instruction whose checks pass enters its queue and retires, and one whose checks fail at its first element with MISALIGNED or ACCESS
traps; a lone eligible head's next chunk takes a lane group, which its thread pays for; a chunk in flight performs its elements in order;
a whole-operand instruction writes as it completes; and a stalled one goes on once its watermark has passed it. -/
def Obligations.VectorExecution : Prop := ∀ (s s1 : State) (cl core j q n : Nat) (u : ThreadRef) (c c1 : VCmd),
  let k := cl * 8 + core
  let t0 := s.thread u
  let same (e : VCmd) : Prop := e.slot = c.slot ∧ e.seq = c.seq
  let at0 := (s.core k).commands[j]? = some c
  let calm := ∀ e x, t0.kernel = some e → s.kernel e = some x → x.state ≠ .draining
  (t0.phase = .waiting → t0.owedTrap = none → t0.checking = some c → s.walking u false = false → s.mayEnter u c = true →
    (s.checkUnits u c c.units = .pass c1 s1 → bit t0.status 4 = false → Completes (.vectorChecksEnd u) s fun t =>
      (t.core (coreKey u)).queue c1.op.queue = (s1.core (coreKey u)).queue c1.op.queue ++ [{ c1 with
        seq := t0.nextSeq, vseq := t0.vecSeq, instret := t0.instret, sampled := t0.samples && !c1.cut }] ∧
      (t.thread u).pc = t0.pc + 4#64 ∧ (t.thread u).instret = t0.instret + 1#64 ∧ (t.thread u).phase = .ready ∧
      (t.thread u).checking = none ∧ (t.thread u).vstart = 0#64 ∧ (t.thread u).regs = t0.regs ∧ (t.thread u).vregs = t0.vregs ∧
      SameBytes s t) ∧
    (∀ i cause va, s.checkUnits u c c.units = .fail i cause va c1 s1 → cause = 3 ∨ cause = 5 → i ≤ c1.vstart →
      c1.op ≠ .load .faultFirst → s.cutSeq u = none → t0.trapFatal = false → Completes (.vectorChecksEnd u) s fun t =>
      (t.thread u).cause = BitVec.ofNat 64 cause ∧ (t.thread u).epc = t0.pc ∧ (t.thread u).tval = va ∧ (t.thread u).pc = t0.tvec ∧
      (t.thread u).hvstart = BitVec.ofNat 64 i ∧ (t.thread u).checking = none ∧ (t.thread u).phase = .ready ∧
      (t.thread u).regs = t0.regs ∧ (t.thread u).vregs = t0.vregs ∧ SameBytes s t)) ∧
  (∀ a b, s.heads cl = [(k, q, c)] → u = slotRef k c.slot → s.eligible k c = true → c.started = true → c.op.whole = false →
    c.op.isTileMove = false →
    c.chunk t0 = some (a, b) → b = c.limit → c.flight = [] → c ∈ (s.core k).queue c.op.queue →
    (∀ e ∈ (s.core k).queue c.op.queue, same e → e = c) →
    Completes (.laneGroupBind cl) s fun t => SameBytes s t ∧ (t.thread u).vpass = t0.vpass + 360360 / max 1 t0.vshare.toNat ∧
      ∃ e ∈ (t.core k).queue c.op.queue, same e ∧ e.next = b ∧ e.flight = [(a, b, 0)] ∧ e.left = true) ∧
  (∀ a b g, at0 → j < 64 → u = slotRef k c.slot → c.op.queue = 1 → c.op.whole = false → c.flight = [(a, b, g)] →
    s.writeFree k c a b = true → s.underTest (ofVectorFile k) = false → c.sampled = false →
    (∀ e ∈ (s.core k).queue c.op.queue, same e → e = c) → calm →
    Completes (.vectorChunkResult cl core j) s fun t =>
      (t.thread u).vregs = (c.performRange t0 a b).vregs ∧ (t.thread u).masks = (c.performRange t0 a b).masks ∧
      (t.thread u).vflags = (c.performRange t0 a b).vflags ∧ (t.thread u).regs = t0.regs ∧ SameBytes s t) ∧
  (at0 → u = slotRef k c.slot → c.op.whole = true → c.started = true → c.left = true → s.stoppedAt u = false →
    s.writeFree k c 0 c.limit = true → s.underTest (ofVectorFile k) = false → c.sampled = false → calm →
    Completes (.wholeOperandComplete cl core j) s fun t =>
      (t.thread u).regs = (c.complete t0).regs ∧ (t.thread u).vregs = (c.complete t0).vregs ∧
      (t.thread u).masks = (c.complete t0).masks ∧ (t.thread u).vflags = (c.complete t0).vflags ∧
      (∀ e ∈ (t.core k).queue c.op.queue, ¬same e) ∧ SameBytes s t) ∧
  (at0 → c.stalled = true → c.chunk (s.thread (slotRef k c.slot)) = some (q, n) → s.chunkBeyond k c q n = false →
    Completes (.watermarkStallEnd cl core j) s fun t => SameBytes s t ∧
      ∀ e ∈ (t.core k).queue c.op.queue, same e → e.stalled = false)

/-- An element of 8 to 64 bits between a vector register and a storage or memory (07_vector R187, R188), by a unit-stride, fault-first,
strided or indexed load or store: the element in flight that a load performs takes the bytes at base + i x w / 8, at base + i x stride or at
base plus its index, little-endian, and every other element and register stands; a store that is not a draft writes the element's bytes
there and no other byte. -/
def Obligations.VectorTransfers : Prop := ∀ (s : State) (cl core j i g w : Nat) (p : Place) (c : VCmd) (f : VMemForm),
  let k := cl * 8 + core
  let u := slotRef k c.slot
  let t0 := s.thread u
  let ea := c.x1 + match f with
    | .strided => BitVec.ofNat 64 i * c.x2
    | .indexed => BitVec.ofNat 64 (t0.vElem c.va 32 i)
    | _ => BitVec.ofNat 64 (w * i / 8)
  f = .unit ∨ f = .faultFirst ∨ f = .strided ∨ f = .indexed → (s.core k).commands[j]? = some c → j < 64 → c.flight = [(i, i + 1, g)] → s.writeFree k c i (i + 1) = true → c.sampled = false →
  (∀ e ∈ (s.core k).queue c.op.queue, e.slot = c.slot → e.seq = c.seq → e = c) →
  (∀ e x, t0.kernel = some e → s.kernel e = some x → x.state ≠ .draining) → c.width = w →
  (w = 8 ∨ w = 16 ∨ w = 32 ∨ w = 64) → i < c.vreq → t0.maskBit c.msk i = true → s.cmdPlace u c ea = some p →
  s.unitReady u c i = true → s.underTest (ofVectorFile k) = false → c.vd < 64 →
  w * i + w ≤ 8 * t0.vlmax → s.MemOk →
  (c.op = .load f → (∀ e ∈ s.earlierCmds k c.slot c.seq, e.op.queue ≠ 0) →
    s.readPoisoned p (w / 8) = false → Completes (.vectorChunkResult cl core j) s fun t =>
    (t.thread u).vElem c.vd w i = readPlace s p 0 (w / 8) ∧ (t.thread u).regs = t0.regs ∧ SameBytes s t ∧
    (∀ r, r ≠ c.vd → (t.thread u).v r = t0.v r) ∧
    ∀ h, h ≠ i → w * h + w ≤ 8 * t0.vlmax → (t.thread u).vElem c.vd w h = t0.vElem c.vd w h) ∧
  (c.op = .store f → (∀ e ∈ s.earlierCmds k c.slot c.seq, e.op.queue ≠ 2) → p.draft = none → p.loc + 8 ≤ 2 ^ 64 →
    s.behind .failed p.loc = false → Completes (.vectorChunkResult cl core j) s fun t =>
    Memory.readNat p.loc (w / 8) t.mem = t0.vElem c.vd w i ∧ SameBytesOutside p.loc (w / 8) s t ∧ (t.thread u).vregs = t0.vregs ∧
    (t.thread u).regs = t0.regs)

/-! ### Tiles -/

/-- The tile instructions at issue (09_tile R231, R232, R236-R246): on a bound name, with a type and registers they accept and room in
their core's queue of 8, they are accepted with what they captured; an update takes its resume point from TSTARTROW and clears it. They
wait for room; an unbound name raises TILEFAULT of kind 1 and a type or register that is not accepted ILLEGAL. TSAVE and TREST check their
2,048 bytes as one place. TALLOC binds an unbound name to the lowest slot that is FREE, else to the lowest HELD one, for which no name
waits, and answers whether the name is bound; a slot that was FREE is LIVE for the context with an empty tile. It binds none where the
slots left are promised to kernels that are being placed and to saved names. TFREE, once the name's instructions are complete, frees the
slot that the context owns and unbinds the name (09_tile R225-R228, R245). The model's choices: what is promised (log entry 100), that a
slot on which a name waits is passed over (log entry 57), and that TFREE leaves a HELD slot of another context on which its name waits
(log entry 90). -/
def Obligations.TileInstructions : Prop :=
  (∀ (s s1 : State) (t r : BitVec 4) (a b v w : BitVec 6) (x : BitVec 5) (m e k : BitVec 3) (i : Instr) (n : Nat) (c : TCmd) (p : Place),
   let name := t.toNat
   let bound := s.ctx.tile name ≠ .unbound
   let full := 8 ≤ (s.core (coreKey s.cur)).tileQ.length
   let tie := fctlTie s.ctx.fctl
   let resume := bit s.ctx.tstartrow 15
   let row := s.ctx.tstartrow
   let unbound := Completes i s (Trapped 0x0B s.ctx.pc (BitVec.ofNat 64 (0x1000 + name * 0x100)) s)
   let update (words : Nat) (op : TOp) (mdep vsa vsb : Nat) : Prop :=
     n = words ∧ c = { s.captureTile op name a.toNat b.toNat m.toNat e.toNat with mdep := mdep, vsa := vsa, vsb := vsb }
   let good := bit s.ctx.vtype 10 = true ∧ (c.op.path c.fmt).isSome = true ∧ c.inFile s.ctx = true
   let line (op : TOp) : Prop := c = { s.captureTile op name a.toNat 0 m.toNat 0 with slice := r.toNat }
   let ea := s.ctx.g x.toNat
   let record (op : TOp) : Prop := c = { s.captureTile op name 0 0 0 0 with pieces := s1.recordPieces (op == .tsave) ea p, ea := ea }
   ((i = .mopa t a b m e ∧ update 1 .mopa 0 0 0) ∨ (i = .mops t a b m e ∧ update 1 .mops 0 0 0) ∨
       (i = .mopan t a b m e ∧ update 1 .mopan 0 0 0) ∨ (i = .mma16 t a b m e k ∧ update 2 .mma16 k.toNat 0 0) ∨
       (i = .mma16s t a b m e k v w ∧ update 2 .mma16s k.toNat v.toNat w.toNat) →
     (good → bound → ¬full → Completes i s (TileQueued n { c with
       tie := tie, update := if resume then field row 3 0 else 0, slice := if resume then field row 5 4 else 0 }
       (if resume then 0#64 else row) s)) ∧
     (good → bound → full → Completes i s (Held s)) ∧ (good → ¬bound → s.ctx.trapFatal = false → unbound) ∧
     (¬good → s.ctx.trapFatal = false → Completes i s (Trapped 0x01 s.ctx.pc s.ctx.vtype s))) ∧
   ((i = .mprom t ∧ c = { s.captureTile .mprom name 0 0 0 0 with tie := tie }) ∨ (i = .mzero t ∧ c = s.captureTile .mzero name 0 0 0 0) →
     (bound → ¬full → Completes i s (TileQueued 1 c row s)) ∧ (bound → full → Completes i s (Held s)) ∧
     (¬bound → s.ctx.trapFatal = false → unbound)) ∧
   ((i = .trdv t a r m ∧ line .trdv) ∨ (i = .trdc t a r m ∧ line .trdc) ∨ (i = .twrv t a r m ∧ line .twrv) ∨
       (i = .twrc t a r m ∧ line .twrc) →
     (groupFits s.ctx a.toNat 1 = true → bound → ¬full → Completes i s (TileQueued 1 c row s)) ∧
     (groupFits s.ctx a.toNat 1 = true → bound → full → Completes i s (Held s)) ∧
     (groupFits s.ctx a.toNat 1 = true → ¬bound → s.ctx.trapFatal = false → unbound) ∧
     (groupFits s.ctx a.toNat 1 = false → s.ctx.trapFatal = false → Completes i s (Trapped 0x01 s.ctx.pc s.ctx.vtype s))) ∧
   ((i = .tsave t x ∧ record .tsave) ∨ (i = .trest t x ∧ record .trest) → bound → s.ctx.trapFatal = false →
     (ea.toNat % 2048 ≠ 0 → Completes i s (Trapped 0x03 s.ctx.pc ea s)) ∧
     (ea.toNat % 2048 = 0 → full → Completes i s (Held s)) ∧
     (ea.toNat % 2048 = 0 → ¬full → s.reach s.agent (.thread s.cur false) false (c.op == .tsave) false ea = (.place p, s1) →
       Completes i s (TileQueued 1 c row s1)) ∧
     (ea.toNat % 2048 = 0 → ¬full → s.reach s.agent (.thread s.cur false) false (c.op == .tsave) false ea = (.deny, s1) →
       Completes i s (Trapped 0x05 s.ctx.pc ea s1)))) ∧
  (∀ (s : State) (t : BitVec 4) (p : BitVec 3) (k : Nat),
   let name := t.toNat
   let slot (j : Nat) (u : State) : TileSlot := (u.cluster s.cur.cluster).slot j
   let usable (st : SlotState) (j : Nat) : Prop := j < 64 ∧ (slot j s).state = st ∧ s.awaited s.cur.cluster j = false
   let lowest (st : SlotState) : Prop := usable st k ∧ ∀ j < k, ¬usable st j
   let none' (st : SlotState) : Prop := ∀ j, ¬usable st j
   let room := s.owedTiles s.cur.cluster < s.bindable s.cur.cluster
   let names (n : TileName) (u : State) : Prop := u.ctx.tile name = n ∧ ∀ j, j ≠ name → u.ctx.tile j = s.ctx.tile j
   let alloc (P : State → Prop) : Prop := Completes (.talloc t p) s fun u => Answers none (some (p, true)) s u ∧ SameBytes s u ∧ P u
   (s.ctx.tile name ≠ .unbound → alloc fun u => names (s.ctx.tile name) u ∧ u.clusters = s.clusters) ∧
   (s.ctx.tile name = .unbound → room → lowest .free → alloc fun u => names (.inSlot k) u ∧
     slot k u = { state := .live, owner := s.cur, kernel := s.ctx.kernel, name := name, tile := {} } ∧ ∀ j, j ≠ k → slot j u = slot j s) ∧
   (s.ctx.tile name = .unbound → room → none' .free → lowest .held → alloc fun u => names (.inSlot k) u ∧ u.clusters = s.clusters) ∧
   (s.ctx.tile name = .unbound → ¬room ∨ (none' .free ∧ none' .held) → Completes (.talloc t p) s (WroteP p false s)) ∧
   (s.tileInUse name = true → Completes (.tfree t) s (Held s)) ∧
   (s.tileInUse name = false → Completes (.tfree t) s fun u => Answers none none s u ∧ names .unbound u ∧ SameBytes s u ∧
     (∀ j < 64, s.ctx.tile name = .inSlot j → slot j u = (if (slot j s).state ≠ .free ∧ (slot j s).owner = s.cur ∧
       (slot j s).kernel = s.ctx.kernel then {} else slot j s)) ∧
     ∀ j, s.ctx.tile name ≠ .inSlot j → slot j u = slot j s))

/-- One update and a promotion (02_numbers R49-R55; 09_tile R236, R237, R241): MOPA and MOPAN of I8 add to the 24-bit partial of each unmasked
cell the product of its row's and its column's element, MOPS takes it away, and the step is counted; on the wide path the product, its sign
inverted for MOPS, is added to the cell in F32, and on the NP24 path to the partial in NP24, rounding to nearest even. A promotion of an
INT24 run adds each partial that the run reached to its wide cell, saturating or wrapping at 32 bits, and one of an NP24 run its partial
under the run's scales in F32, or a quiet NaN for a scale of 255; each ends the run. The record of a tile restores it. -/
def Obligations.TileArithmetic : Prop := ∀ (c : TCmd) (x : Tile) (a b mr mc : Nat) (i j : Nat),
  let partialAt (y : Tile) : BitVec 24 := BitVec.ofNat 24 (elem y.partialPlane 24 (16 * i + j))
  let wide (y : Tile) : BitVec 32 := BitVec.ofNat 32 (y.cell i j)
  let row : BitVec 8 := BitVec.ofNat 8 (a / 2 ^ (8 * i))
  let col : BitVec 8 := BitVec.ofNat 8 (b / 2 ^ (8 * j))
  let r := (c.run_ 64 x).tile
  let sum := (wide x).toInt + (partialAt x).toInt
  let p := (x.promote c.sat).1
  let picked := (mr.testBit i && mc.testBit j) = true
  let one := c.update = 0 ∧ c.slice = 0 ∧ c.sources = [a, b] ∧ c.masks.getD 0 0 = mr ∧ c.masks.getD 1 0 = mc ∧
    (c.masks.getD 2 0).testBit 0 = true ∧ (c.op = .mopa ∨ c.op = .mops ∨ c.op = .mopan)
  let opens (k : RunKind) := x.kind = .none ∨ (x.kind = k ∧ x.rowScale = unitScales ∧ x.colScale = unitScales)
  let w := fmtWidth c.fmt
  let product := (FVal.mul (operandValue c.fmt (elem a w i)) (operandValue c.fmt (elem b w j))).1
  let signed := if c.op = .mops then product.neg else product
  let rounded (f : FloatFmt) (old : Nat) (v : FVal) : Nat := (floatResult f 0 false (FVal.add 0 (decodeFloat f old) v)).1
  i < 16 → j < 16 →
  (one → c.fmt = 0 → opens .int24 → x.counter + 1 ≠ c.run →
    let step := row.signExtend 24 * col.signExtend 24
    partialAt r = (if ¬picked then partialAt x else if c.op = .mops then partialAt x - step else partialAt x + step) ∧
    wide r = wide x ∧ r.counter = x.counter + 1 ∧ r.kind = .int24 ∧ (c.run_ 64 x).trap = none ∧ (c.run_ 64 x).rest = none) ∧
  (one → c.tie = false → c.op.path c.fmt = some .wide → x.kind = .none →
    wide r = (if picked then BitVec.ofNat 32 (rounded fmtF32 (x.cell i j) signed) else wide x) ∧ partialAt r = partialAt x ∧
    r.counter = x.counter ∧ r.kind = .none ∧ (c.run_ 64 x).trap = none) ∧
  (one → c.tie = false → c.op.path c.fmt = some (.part .np24) → opens .np24 → x.counter + 1 ≠ c.run →
    partialAt r = (if picked then BitVec.ofNat 24 (rounded fmtNP24 (elem x.partialPlane 24 (16 * i + j)) signed) else partialAt x) ∧
    wide r = wide x ∧ r.counter = x.counter + 1 ∧ r.kind = .np24 ∧ (c.run_ 64 x).trap = none) ∧
  (x.kind = .int24 → x.counter ≠ 0 → p.counter = 0 ∧ p.kind = .none ∧ partialAt p = 0#24 ∧
    (x.reach.testBit (16 * i + j) = false → wide p = wide x) ∧
    (x.reach.testBit (16 * i + j) = true → wide p = if c.sat then BitVec.ofInt 32 (max (-2 ^ 31) (min (2 ^ 31 - 1) sum))
      else BitVec.ofInt 32 sum)) ∧
  (x.kind = .np24 → x.counter ≠ 0 → x.reach.testBit (16 * i + j) = true →
    let scale (plane k : Nat) : Nat := elem plane 8 k
    p.counter = 0 ∧ p.kind = .none ∧ partialAt p = 0#24 ∧
    wide p = if scale x.rowScale i = 255 ∨ scale x.colScale j = 255 then 0x7FC00000#32
      else BitVec.ofNat 32 (rounded fmtF32 (x.cell i j) ((decodeFloat fmtNP24 (elem x.partialPlane 24 (16 * i + j))).scale
        ((scale x.rowScale i : Int) + scale x.colScale j - 254)))) ∧
  (x.wide < 2 ^ 8192 → x.partialPlane < 2 ^ 6144 → x.rowScale < 2 ^ 128 → x.colScale < 2 ^ 128 → x.counter ≤ 16 → x.reach < 2 ^ 256 →
    (x.kind = .none → x.reach = 0) → Tile.ofRecord x.record = x)

/-- The matrix unit of a cluster (09_tile R233-R235, R239-R242, R246): a lone eligible head leaves its queue and holds the unit with its
sources as they stand; and its completion, with no run in progress, frees the unit and does what the command says: an update leaves the
tile of its steps, MZERO an empty one, TRDV and TRDC put a row or column under the mask into the register and TWRV and TWRC the register's
elements into it, MPROM changes nothing, TSAVE writes the record and TREST sets the tile from one. That a started command's queue entry is
free at once is the model's choice (log entry 96). -/
def Obligations.TileExecution : Prop := ∀ (s : State) (cl k n l : Nat) (c : TCmd),
  let u := slotRef (cl * 8 + k) c.slot
  let at_ (i : Nat) : Place := { loc := l + 256 * i }
  let t0 := s.thread u
  let x := s.tileOf u c.ta
  let tile (t : State) : Tile := t.tileOf u c.ta
  let only (t : State) : Prop := (t.cluster cl).matrix = none ∧ SameBytes s t ∧ (t.thread u).regs = t0.regs
  let ready := (s.cluster cl).matrix = some (k, c) ∧ k < 8 ∧ s.tileCompletes cl = true ∧ t0.phase ≠ .retired ∧ c.tie = false ∧
    t0.tile c.ta = .inSlot n ∧ n < 64 ∧ ∀ e y, t0.kernel = some e → s.kernel e = some y → y.state ≠ .draining
  let idle := x.counter = 0
  let mask (j : Nat) : Bool := (c.masks.getD 0 0).testBit j
  let reg (t : State) (j : Nat) : Nat := elem ((t.thread u).v c.va) 32 j
  let src (j : Nat) : Nat := elem (c.sources.getD 0 0) 32 j
  let line (f : Nat → Nat) (g : Nat → Nat) (h : Nat → Nat) : Prop := ∀ j < 16, f j = if mask j then g j else h j
  (s.tileHeads cl = [(cl * 8 + k, c)] → k < 8 → (s.cluster cl).matrix = none → s.tileEligible (cl * 8 + k) c = true → c.started = false →
    (t0.tile c.ta = .saved → s.recordLost u c.ta = false) →
    Completes (.matrixUnitStart cl) s fun t => SameBytes s t ∧ (t.core (cl * 8 + k)).tileQ = (s.core (cl * 8 + k)).tileQ.drop 1 ∧
      (t.cluster cl).matrix = some (k, { c with
        started := true, sources := c.readSources t0, masks := [t0.maskBits c.mr, t0.maskBits c.mc, t0.maskBits c.mdep] })) ∧
  (ready → c.op.count = 16 ∨ c.op = .mopa ∨ c.op = .mops ∨ c.op = .mopan → (c.run_ 64 x).trap = none →
    Completes (.tileCommandComplete cl) s fun t => only t ∧ tile t = (c.run_ 64 x).tile ∧ (t.thread u).vregs = t0.vregs) ∧
  (ready → c.op = .mzero → Completes (.tileCommandComplete cl) s fun t => only t ∧ tile t = {} ∧ (t.thread u).vregs = t0.vregs) ∧
  (ready → idle → c.op = .mprom → Completes (.tileCommandComplete cl) s fun t => only t ∧ tile t = x ∧ (t.thread u).vregs = t0.vregs) ∧
  (ready → idle → c.slice < 16 → c.va < 64 →
    (c.op = .trdv → Completes (.tileCommandComplete cl) s fun t => only t ∧ tile t = x ∧
      line (reg t) (fun j => x.cell c.slice j) (reg s)) ∧
    (c.op = .trdc → Completes (.tileCommandComplete cl) s fun t => only t ∧ tile t = x ∧
      line (reg t) (fun j => x.cell j c.slice) (reg s)) ∧
    (c.op = .twrv → Completes (.tileCommandComplete cl) s fun t => only t ∧ (t.thread u).vregs = t0.vregs ∧
      line (fun j => (tile t).cell c.slice j) src (fun j => x.cell c.slice j) ∧
      ∀ h < 16, ∀ j < 16, h ≠ c.slice → (tile t).cell h j = x.cell h j) ∧
    (c.op = .twrc → Completes (.tileCommandComplete cl) s fun t => only t ∧ (t.thread u).vregs = t0.vregs ∧
      line (fun j => (tile t).cell j c.slice) src (fun j => x.cell j c.slice) ∧
      ∀ h < 16, ∀ j < 16, h ≠ c.slice → (tile t).cell j h = x.cell j h)) ∧
  (ready → idle → s.MemOk → c.slice = 0 → 2 ^ 62 ≤ l → l + 2048 ≤ 2 ^ 64 → c.pieces = (List.range 8).map at_ →
    (c.op = .tsave → Completes (.tileCommandComplete cl) s fun t => (t.cluster cl).matrix = none ∧ tile t = x ∧
      (∀ j < 2048, Memory.read (l + j) t.mem = BitVec.ofNat 8 (x.record / 256 ^ j)) ∧ SameBytesOutside l 2048 s t) ∧
    (c.op = .trest → (∀ i < 8, s.readPoisoned (at_ i) 256 = false) → Completes (.tileCommandComplete cl) s fun t => only t ∧
      tile t = Tile.ofRecord (Memory.readNat l 2048 s.mem)))

/-! ### The Timetable and the gang switch -/

/-- A launch that has been QUEUED for 16 cycles goes on to HELD, to ARMED while its task control block's count is above zero, or to READY
under the next ready sequence number, with the packet's address and the handle in words 4 and 5 of the control block, whose state in word 0
moves as the table of 13_queue R351 allows and else stands; a HELD kernel that the debugger releases goes on likewise, unless it still waits
for its parent's commit (12_kernel R304, R322, R325; 13_queue R348, R350; 17_watch R433). That an address before the seal counts as DIRECT
(log entry 35) and that the debugger's release waits for the parent's commit (log entry 72) are the model's choices. -/
def Obligations.FromQueued : Prop := ∀ (s : State) (k : Nat) (x : Kernel),
  let readied (t : State) : Prop := t.pkg.readySeq = s.pkg.readySeq + 1 ∧
    ∃ y, t.kernel k = some y ∧ y.state = .ready ∧ y.readySeq = s.pkg.readySeq ∧ y.readyAt = s.now
  let entered (st : KState) (t : State) : Prop := ∃ y, t.kernel k = some y ∧ y.state = st ∧ y.phaseAt = s.now
  let a := (x.word 6).toNat
  s.kernel k = some x →
  (x.state = .queued → x.acceptedAt + 16 ≤ s.now → x.launcher = none →
    (x.word 6 = 0#64 → x.heldBack = true → Completes (.launchQueued k) s fun t => entered .held t ∧ SameBytes s t) ∧
    (x.word 6 = 0#64 → x.heldBack = false → Completes (.launchQueued k) s fun t => readied t ∧ SameBytes s t) ∧
    (s.MemOk → s.pkg.boot = .rollCall → s.pkg.drafts = [] → x.asid = 0 → x.word 6 ≠ 0#64 → a % 64 = 0 → a < 0x14000000000 →
      (∀ i < 64, s.behind .failed (a + i) = false) → poisoned s a 64 = false →
      let w0 := Memory.readNat a 8 s.mem
      let blockIs (w5 v0 : Nat) (t : State) : Prop := Memory.readNat (a + 32) 8 t.mem = (x.packetAt.getD 0#64).toNat ∧
        Memory.readNat (a + 40) 8 t.mem = w5 ∧ Memory.readNat a 8 t.mem = v0 ∧ SameBytesOutside a 48 s t ∧
        ∀ i < 24, Memory.read (a + 8 + i) t.mem = Memory.read (a + 8 + i) s.mem
      (x.heldBack = false → Memory.readNat (a + 8) 8 s.mem ≠ 0 → Completes (.launchQueued k) s fun t =>
        entered .armed t ∧ blockIs (handleOf k x).toNat (if w0 % 8 = 0 then 1 else w0) t) ∧
      (x.heldBack = false → Memory.readNat (a + 8) 8 s.mem = 0 → Completes (.launchQueued k) s fun t =>
        readied t ∧ blockIs (handleOf k x).toNat (if w0 % 8 ∈ [0, 1, 3, 4] then 2 else w0) t))) ∧
  (x.state = .held →
    let waits := x.parent.isSome = true ∧ bit (x.word 2) 1 = false
    (waits → Completes (.debuggerKernelRelease k) s fun t => t.kernel k = some { x with holdDebug := false } ∧ SameBytes s t) ∧
    (¬waits → s.tcbOf x = none → Completes (.debuggerKernelRelease k) s fun t => readied t ∧ SameBytes s t) ∧
    (∀ p, ¬waits → s.tcbOf x = some p → s.blockWordAt p 1 = 0#64 → Completes (.debuggerKernelRelease k) s readied) ∧
    (∀ p, ¬waits → s.tcbOf x = some p → s.blockWordAt p 1 ≠ 0#64 → Completes (.debuggerKernelRelease k) s (entered .armed)))

/-- The dispatch scoreboard (13_queue R347, R348; 12_kernel R304, R306; 06_group R159): what a partition dispatches is a READY kernel of
its own while it is resident and enabled, with every input page resident, 16 cycles after the partition's last dispatch, on cores that are
free; the kernel is then PLACING on them under the next dispatch sequence number and its plan's tag. With nothing to dispatch, the walk of
a page that a residency check misses starts. The end of a core-level preparation (10_buffer R250, 04_context R97, 06_group R160, 12_kernel
R302): the kernel is RUNNING, every granule of its cores' local stores is zero and EMPTY, and its thread i is READY at the packet's entry
with its arguments in g4 to g9. -/
def Obligations.DispatchAndPlacement : Prop :=
  (∀ (s : State) (p k : Nat) (d : DispatchPlan) (x : Kernel),
   (s.nextDispatch p = some (k, d) →
     s.pkg.boot = .sealed ∧ (s.partition p).resident = true ∧ (s.partition p).stopped = [] ∧ s.partEnabled p = true ∧
     (∀ c, (s.partition p).lastDispatch = some c → c + 16 ≤ s.now) ∧
     (∃ y, (k, y) ∈ s.kernels ∧ y.state = .ready ∧ y.part = p ∧ ∀ va ∈ y.inputPages, s.pageResident y.asid va = true) ∧
     ∀ c ∈ d.cores, s.coreFree c = true) ∧
   (s.nextDispatch p = some (k, d) → s.kernel k = some x → x.word 6 = 0#64 → Completes (.dispatch p) s fun t =>
     SameBytes s t ∧ t.pkg.dispatchSeq = s.pkg.dispatchSeq + 1 ∧ (t.partition x.part).lastDispatch = some s.now ∧
     t.pkg.freeTags = (if d.fresh then s.pkg.freeTags.drop 1 else s.pkg.freeTags) ∧
     t.kernel k = some { x with
       state := .placing, phaseAt := s.now, placedAt := s.now, tag := d.tag, dispatchSeq := s.pkg.dispatchSeq, cores := d.cores
       strips := x.stripsFor d.cores }) ∧
   (∀ va, s.nextDispatch p = none → s.residencyWalk p = some (k, x, va) →
     let page := (BitVec.ofNat 64 va).toNat / 65536
     (∀ w ∈ (s.die (kernelDie k)).walks, ¬(w.asid = x.asid ∧ w.page = page)) →
     Completes (.dispatch p) s fun t => SameBytes s t ∧ t.kernels = s.kernels ∧ (t.die (kernelDie k)).walks =
       (s.die (kernelDie k)).walks ++
         [{ asid := x.asid, page := page, waiters := [{ who := .timetable k, va := BitVec.ofNat 64 va }] }])) ∧
  (∀ (s : State) (k : Nat) (x : Kernel),
   s.kernel k = some x → x.state = .placing → s.prepareDue k = true → x.wholeClusters = false → x.word 6 = 0#64 → s.MemOk →
   x.cores.Nodup → (∀ c ∈ x.cores, c < 67584 ∧ (s.core c).localStore.waits = []) →
   let own (l : Nat) : Prop := ∃ c ∈ x.cores, Loc.localStore c 0 ≤ l ∧ l < Loc.localStore c 0 + 0x30000
   Completes (.placementPrepared k) s fun t =>
     t.kernel k = some { x with state := .running, phaseAt := s.now } ∧
     (∀ l, own l → Memory.read l t.mem = 0#8 ∧ t.feFull (l / 16) = false) ∧
     (∀ l, ¬own l → Memory.read l t.mem = Memory.read l s.mem) ∧
     ∀ i u, x.threads[i]? = some u →
       let y := t.thread u
       y.phase = .ready ∧ y.pc = x.word 0 ∧ y.kernel = some k ∧ y.asid = BitVec.ofNat 16 x.asid ∧ y.g 4 = x.word 4 ∧ y.g 5 = x.word 1 ∧
       y.g 6 = BitVec.ofNat 64 i ∧ y.g 7 = BitVec.ofNat 64 x.threads.length ∧ y.g 8 = x.word 7 ∧ y.g 9 = handleOf k x)

/-- A commit (12_kernel R315, R316, R320): its start gives every kernel of the cohort COMMITTING and the next commit sequence number and
takes the sequencer; its end makes every uncommitted line of the cohort's version a committed one of that number, the kernels COMMITTED,
and the sequencer free. Kernels without task control blocks, queues or parents, with no event ring set. The commit of a lone kernel writes
its commit sequence number into word 7 of its task control block, which is COMMITTED where it was DONE, and leaves the successors to be
walked (13_queue R351; before the seal an address counts as DIRECT, the model's choice, log entry 35); it moves ENDED of the queue that the
kernel came from (13_queue R349), and makes its HELD children READY (12_kernel R322). A step of a successor walk passes over an entry 0,
takes one from the count of a task control block that it names, as TDEP does, and goes on with the next entry until the list ends (13_queue
R352). -/
def Obligations.Commits : Prop :=
  (∀ (s : State) (k : Nat) (x : Kernel),
   let members := s.cohort k x
   s.kernel k = some x → (s.kernels.map fun q => q.1).Nodup → s.pkg.ring = none →
   (∀ q ∈ s.kernels, q.2.word 6 = 0#64 ∧ q.2.fromQueue = none ∧ q.2.parent = none) →
   (s.commitDue k = true → Completes (.commitStart k) s fun t =>
     SameBytes s t ∧ t.pkg.sequencer = some k ∧ t.pkg.commitSeq = s.pkg.commitSeq + 1 ∧ t.pkg.drafts = s.pkg.drafts ∧
     ∀ q ∈ members, t.kernel q.1 = some { q.2 with state := .committing, csn := s.pkg.commitSeq, phaseAt := s.now }) ∧
   (s.commitEndDue = true → s.pkg.sequencer = some k → Completes .commitPhase2End s fun t =>
     SameBytes s t ∧ t.pkg.sequencer = none ∧
     (∀ q ∈ members, ∃ y, t.kernel q.1 = some y ∧ y.state = .committed ∧ y.tag = none ∧ y.csn = q.2.csn) ∧
     t.pkg.drafts = s.pkg.drafts.map fun d =>
       if x.tag = some d.tag ∧ d.commit = none then { d with commit := some x.csn } else d)) ∧
  (∀ (s : State) (k q i : Nat) (x y : Kernel) (z : QueueSlot),
   let a := (x.word 6).toNat
   let word (j : Nat) (t : State) : Nat := Memory.readNat (a + 8 * j) 8 t.mem
   s.kernel k = some x → (s.kernels.map fun q => q.1).Nodup → s.pkg.ring = none → s.commitEndDue = true → s.pkg.sequencer = some k →
   x.tag = none →
   (s.MemOk → s.pkg.boot = .rollCall → s.pkg.drafts = [] → x.asid = 0 → x.word 6 ≠ 0#64 → a % 64 = 0 → a < 0x14000000000 →
     (∀ i < 64, s.behind .failed (a + i) = false) → x.fromQueue = none → (∀ e ∈ s.kernels, e.2.parent ≠ some k) →
     Completes .commitPhase2End s fun t =>
       word 7 t = x.csn % 2 ^ 64 ∧ word 0 t = (if word 0 s % 8 = 4 then 5 else word 0 s) ∧
       (∀ b, b < a ∨ (a + 8 ≤ b ∧ b < a + 56) ∨ a + 64 ≤ b → Memory.read b t.mem = Memory.read b s.mem) ∧
       ∃ e, t.kernel k = some e ∧ e.state = .committed ∧ e.walkNext = if word 3 s = 0 then none else some 0) ∧
   (x.word 6 = 0#64 → (∃ n, x.fromQueue = some (q, n)) → (∀ e ∈ s.kernels, e.1 ≠ k → ∀ m, e.2.fromQueue ≠ some (q, m)) →
     s.queueSlot q = some (i, z) → Completes .commitPhase2End s fun t => t.queueSlot q = some (i, { z with ended := z.head })) ∧
   (x.word 6 = 0#64 → s.kernel i = some y → y.parent = some k → y.state = .held → y.holdDebug = false → y.word 6 = 0#64 →
     Completes .commitPhase2End s fun t =>
       ∃ e, t.kernel i = some e ∧ e.state = .ready ∧ e.parent = none ∧ e.readySeq = s.pkg.readySeq)) ∧
  (∀ (s : State) (k i : Nat) (x : Kernel) (p q r : Place) (w : Nat),
   let n := min (s.blockWordAt p 3).toNat 4096
   let entry := s.blockWordAt q 0
   let goesOn (t : State) : Prop := ∃ y, t.kernel k = some y ∧ y.walkNext = if i + 1 < n then some (i + 1) else none
   let old := readPlace s { r with draft := none } 0 16
   s.kernel k = some x → x.walkNext = some i → s.tcbOf x = some p → s.walkStepDue k = true →
   (n ≤ i → Completes (.successorWalkStep k) s fun t => t.kernel k = some { x with walkNext := none } ∧ SameBytes s t) ∧
   (i < n → s.devicePlace x.asid false (s.blockWordAt p 2 + BitVec.ofNat 64 (8 * i)) = some q → poisoned s q.loc 8 = false →
     (entry = 0#64 → Completes (.successorWalkStep k) s fun t => goesOn t ∧ SameBytes s t) ∧
     (entry ≠ 0#64 → s.tcbPlace x.asid entry = some r → (HomeOp.tdep.apply old).write = some w → old / 2 ^ 64 ≠ 1 → s.MemOk →
       poisoned s r.loc 64 = false → s.behind .failed r.loc = false → r.loc + 16 ≤ 2 ^ 64 → Completes (.successorWalkStep k) s fun t =>
         goesOn t ∧ Memory.readNat r.loc 16 t.mem = w % 2 ^ 128 ∧ SameBytesOutside r.loc 16 s t)))

/-- The end of an abort (12_kernel R304, R318, R319), draft overflow (R314) and the release of an entry (R301): the version's uncommitted
lines are gone, and the kernel is READY for its next attempt where its abort is retried, else ABORTED with its status; an overflowing
kernel without ESCALATE aborts with DRAFTOVERFLOW, one with it commits its lines at once and goes on without a version (that every kernel
of its cohort does so is the model's choice, log entry 71); and an entry whose kernel ended 2^24 cycles ago is free. Kernels without task
control blocks or queues, with no event ring set. The end of a kernel that is not cancelled leaves its status in word 6 of its task control
block, which is FAULTED where it had not ended (13_queue R351; from FREE too, the model's reading, log entry 104). -/
def Obligations.AbortsAndEntries : Prop :=
  (∀ (s : State) (k : Nat) (x : Kernel) (p : Place),
   let word (j : Nat) (t : State) : Nat := Memory.readNat (p.loc + 8 * j) 8 t.mem
   s.kernel k = some x → s.pkg.ring = none → s.pkg.drafts = [] → s.discardDue k = true → s.mayLeave x = true → x.retried = false →
   x.cancelled = false → x.tag = none → x.fromQueue = none → s.tcbOf x = some p → s.MemOk → p.loc + 64 ≤ 2 ^ 60 →
   (∀ i < 64, s.behind .failed (p.loc + i) = false) → Completes (.abortDiscardEnd k) s fun t =>
     (∃ y, t.kernel k = some y ∧ y.state = .aborted ∧ y.status = x.status) ∧ word 6 t = x.status % 2 ^ 64 ∧
     word 0 t = (if word 0 s % 8 < 5 then 6 else word 0 s) ∧
     ∀ a, a < p.loc ∨ (p.loc + 8 ≤ a ∧ a < p.loc + 48) ∨ p.loc + 56 ≤ a → Memory.read a t.mem = Memory.read a s.mem) ∧
  ∀ (s : State) (k : Nat) (x : Kernel),
  s.kernel k = some x → (s.kernels.map fun q => q.1).Nodup → s.pkg.ring = none →
  (∀ q ∈ s.kernels, q.2.word 6 = 0#64 ∧ q.2.fromQueue = none) →
  let left (d : DraftLine) : Bool := !(some d.tag == x.tag && d.commit.isNone)
  (s.discardDue k = true → s.mayLeave x = true → s.keptPerformed k x = true → x.retried = true → Completes (.abortDiscardEnd k) s fun t =>
    SameBytes s t ∧ t.pkg.drafts = s.pkg.drafts.filter left ∧ ∃ y, t.kernel k = some y ∧ y.state = .ready ∧ y.attempts = x.attempts + 1 ∧
      y.tag = none ∧ y.cores = [] ∧ y.strips = [] ∧ y.readySeq = s.pkg.readySeq ∧
      y.retries = if x.status = 0x40 then x.retries else x.retries + 1) ∧
  (s.discardDue k = true → s.mayLeave x = true → s.keptPerformed k x = true → x.retried = false → Completes (.abortDiscardEnd k) s fun t =>
    SameBytes s t ∧ t.pkg.drafts = s.pkg.drafts.filter left ∧ ∃ y, t.kernel k = some y ∧ y.state = .aborted ∧ y.status = x.status) ∧
  (s.escalationDue k = true → bit (x.word 2) 2 = false → x.parent = none → Completes (.draftEscalation k) s fun t =>
    SameBytes s t ∧ ∃ y, t.kernel k = some y ∧ y.state = .aborting ∧ y.status = 0x41) ∧
  (s.escalationDue k = true → bit (x.word 2) 2 = true → Completes (.draftEscalation k) s fun t =>
    SameBytes s t ∧ t.pkg.commitSeq = s.pkg.commitSeq + 1 ∧
    (t.pkg.drafts = s.pkg.drafts.map fun d =>
      if x.tag = some d.tag ∧ d.commit = none then { d with commit := some s.pkg.commitSeq } else d) ∧
    ∀ q ∈ s.cohort k x, t.kernel q.1 = some { q.2 with escalated := true, tag := none, overflow := [] }) ∧
  (s.releaseDue k = true → Completes (.kernelEntryRelease k) s fun t =>
    t.kernel k = some { x with released := true } ∧ t = { s with kernels := t.kernels })

/-- The Timetable's decisions about partitions (13_queue R345, R346; 05_traps R142): a STATE that it owes an entry is written (when it does
so is the model's choice, log entry 101); a waiting partition whose clusters are free becomes
RESIDENT, or begins to resume when it was switched out; an idle partition in its way is released, with state 3, at once; and one whose
slice has elapsed is given a bell, after PTIME and its lead, with the waiting one as its successor. -/
def Obligations.PartitionDecisions : Prop := ∀ (s : State) (p r : Nat),
  let stateAt (q : Nat) : Nat := s.pkg.ptbase.toNat + 32 * q + 16
  let resident (t : State) : Prop := (t.partition p).resident = true ∧ (t.partition p).switched = false ∧ (t.partition p).since = s.now ∧
    Memory.readNat (stateAt p) 8 t.mem = 1
  s.switchDue p = true → s.MemOk → s.pkg.ptbase.toNat + 2048 ≤ 2 ^ 60 → (∀ q < 64, s.behind .failed (stateAt q) = false) →
  (∀ v, s.stateOwed p = some v → Completes (.partitionSwitchDecision p) s fun t =>
    (t.partition p).resident = false ∧ Memory.readNat (stateAt p) 8 t.mem = v ∧ SameBytesOutside (stateAt p) 8 s t) ∧
  (s.stateOwed p = none → s.blockers p = [] → (s.partition p).switched = false → Completes (.partitionSwitchDecision p) s fun t =>
    resident t ∧ SameBytesOutside (stateAt p) 8 s t) ∧
  (s.stateOwed p = none → s.blockers p = [] → (s.partition p).switched = true → Completes (.partitionSwitchDecision p) s fun t =>
    (t.partition p).toRestore = s.unitsToRestore p ∧ (t.partition p).resident = false ∧ SameBytes s t) ∧
  (s.stateOwed p = none → s.blockers p = [r] → s.partIdle r = false → Completes (.partitionSwitchDecision p) s fun t =>
    (t.partition r).bell = some ((s.ptime (s.agentDie r) + 2 * s.skewBound + 190 * 65536) % 2 ^ 64) ∧ (t.partition r).successor = some p ∧
    (t.partition r).resident = (s.partition r).resident ∧ SameBytes s t) ∧
  (s.stateOwed p = none → s.blockers p = [r] → s.partIdle r = true → (s.partition r).inTransit = false →
    (s.pkg.partitions.map fun q => q.1).Pairwise (· < ·) → r < 64 → (s.partition p).switched = false →
    Completes (.partitionSwitchDecision p) s fun t =>
      resident t ∧ (t.partition r).resident = false ∧ Memory.readNat (stateAt r) 8 t.mem = 3 ∧
      ∀ a, (a < stateAt p ∨ stateAt p + 8 ≤ a) → (a < stateAt r ∨ stateAt r + 8 ≤ a) → Memory.read a t.mem = Memory.read a s.mem)

/-- The bell, the save and restore units, the resume bell and a kill (05_traps R143-R150): at the bell every live thread of the
clusters whose dies' PTIME has reached it is SWITCHED with its state recorded; with the partition's last cluster its units are to be saved,
state 2 in the partition table; a thread's save unit keeps its context and frees its slot, and its restore unit puts that context back; the
last restore unit sets the resume bell; there every SWITCHED thread is back in its recorded state; and a kill retires every thread of a
cluster it reaches. Clusters with an idle matrix unit and no engine commands. -/
def Obligations.GangSwitch : Prop := ∀ (s : State) (p c : Nat) (u : ThreadRef) (x : Thread),
  let cls := s.partClusters p
  let stateAt : Nat := s.pkg.ptbase.toNat + 32 * p + 16
  let reached := s.bellClusters p
  let out := (s.partition p).stopped ++ reached
  (s.bellDue p = true → reached.Nodup → (∀ c ∈ reached, (s.cluster c).matrix = none ∧ (s.cluster c).engine = []) →
    s.MemOk → stateAt + 8 ≤ 2 ^ 60 → s.behind .failed stateAt = false → Completes (.bell p) s fun t =>
      (∀ c ∈ reached, ∀ v ∈ s.liveThreads c, (t.thread v).phase = .switched ∧ (t.thread v).bellPrior = (s.thread v).phase ∧
        (t.thread v).pc = (s.thread v).pc ∧ (t.thread v).regs = (s.thread v).regs) ∧
      ((∃ c ∈ cls, c ∉ out) → (t.partition p).stopped = out ∧ (t.partition p).resident = (s.partition p).resident ∧
        (t.partition p).bell = (s.partition p).bell ∧ SameBytes s t) ∧
      ((∀ c ∈ cls, c ∈ out) → (t.partition p).resident = false ∧ (t.partition p).switched = true ∧ (t.partition p).bell = none ∧
        (t.partition p).stopped = [] ∧ (t.partition p).toSave = out.flatMap s.unitsToSave ∧ Memory.readNat stateAt 8 t.mem = 2 ∧
        SameBytesOutside stateAt 8 s t)) ∧
  (s.saveDue p (.thread u) = true → (s.partition p).spoiled.contains (.thread u) = false → Completes (.saveUnitComplete p (.thread u)) s fun t =>
    (t.partition p).savedThreads = (s.partition p).savedThreads ++ [(u, s.thread u)] ∧ (t.thread u).phase = .free ∧
    (t.partition p).toSave = ((s.partition p).toSave.filter fun v => v != .thread u) ∧ SameBytes s t) ∧
  ((s.partition p).savedThreads.find? (fun q => q.1 == u) = some (u, x) → s.restoreDue p (.thread u) = true →
    (s.partition p).spoiled.contains (.thread u) = false →
    let rest := (s.partition p).toRestore.filter fun v => v != .thread u
    Completes (.restoreUnitComplete p (.thread u)) s fun t => t.thread u = x ∧ (t.partition p).toRestore = rest ∧ SameBytes s t ∧
      (t.partition p).resumeBell = if rest = [] then some (s.ptime (s.agentDie p)) else none) ∧
  (s.resumeDue p = true → (s.kernels.map fun q => q.1).Nodup → (∀ q ∈ s.kernels, q.2.part = p → q.2.state ≠ .draining) →
    Completes (.resumeBell p) s fun t =>
    (t.partition p).resident = true ∧ (t.partition p).switched = false ∧ (t.partition p).resumeBell = none ∧
    ∀ c ∈ cls, ∀ v ∈ clusterSlots c, (s.thread v).phase = .switched → (s.thread v).bellPrior = .ready →
      (t.thread v).phase = .ready ∧ (t.thread v).pc = (s.thread v).pc ∧ (t.thread v).regs = (s.thread v).regs) ∧
  (s.killReaches p c = true → s.liveOn p c = true → Completes (.killArrival p c) s fun t =>
    ∀ v ∈ clusterSlots c, (s.thread v).phase ≠ .free → (t.thread v).phase = .retired)

/-! ### Links, the outside world and the debugger -/

/-- A link that exists (01_module R14, 16_link R398) in a module that is powered and booted: a training attempt ends it UP, DEGRADED, or, at
the third failure in a row, FAILED; an idle one trains again; management resets a FAILED link to DOWN and starts one that is DOWN; and the
host link comes up in the mode that both ends support (R408). With no event ring set no byte of memory changes. An exchange of
package time (16_link R402-R405), whose messages pass when the links between the dies hold nothing back: the parent's t1 every 2,700
cycles, the child's t2 and t3, the parent's t4, and the offset ((t2 - t1) -
(t4 - t3)) / 2, which is the unit's last offset; a lead is worked off without a step of PTIME; an UNLOCKED unit is LOCKING, a LOCKING one
LOCKED after eight good exchanges in a row, and a LOCKED one with a bad exchange LOCKING; four exchanges missed in a row unlock a unit and
the units below it. -/
def Obligations.LinksAndPackageTime : Prop :=
  (∀ (s : State) (l : Link) (m : HostMode),
   let ends (i : Instr) (st : LinkState) : Prop := Completes i s fun t => t.linkState l = st ∧ SameBytes s t
   s.pkg.ring = none → linkReal l = true → s.pkg.boot = .rollCall ∨ s.pkg.boot = .sealed →
   (s.linkState l = .training →
     ends (.linkTrainingEnd l (.full m)) .up ∧ ends (.linkTrainingEnd l (.partialWidth m)) .degraded ∧
     (l = .host → Completes (.linkTrainingEnd l (.full m)) s fun t => t.pkg.hostMode = m) ∧
     ((s.linkInfo l).failedAttempts < 2 → Completes (.linkTrainingEnd l .failed) s fun t => t.linkState l = .training ∧
       (t.linkInfo l).failedAttempts = (s.linkInfo l).failedAttempts + 1 ∧ t.pkg.hostMode = s.pkg.hostMode ∧ SameBytes s t) ∧
     (2 ≤ (s.linkInfo l).failedAttempts → ends (.linkTrainingEnd l .failed) .failed)) ∧
   (s.linkState l = .up ∨ s.linkState l = .degraded → ends (.linkIdleTimeout l) .training) ∧
   (s.linkState l = .down → ends (.linkManagementReset l) .training) ∧
   (s.linkState l = .failed → ends (.linkManagementReset l) .down)) ∧
  (∀ (s : State) (d : Nat),
   let u := (s.die d).time
   let time (t : State) : TimeUnit := (t.die d).time
   (0 < d → d < 24 → u.t1 = none → u.exchangeAt + 2700 ≤ s.now → Completes (.syncExchangeTimer d) s fun t =>
     (time t).t1 = some (s.ptime (timeParent d)) ∧ (time t).exchangeAt = s.now ∧ SameBytes s t) ∧
   (s.syncDue d = true → Completes (.sync d) s fun t => (time t).t2 = some (s.ptime d) ∧ SameBytes s t) ∧
   (s.followUpDue d = true → Completes (.followUp d) s fun t => (time t).t3 = some (s.ptime d) ∧ SameBytes s t) ∧
   (s.delayRequestDue d = true → Completes (.delayRequest d) s fun t => (time t).t4 = some (s.ptime (timeParent d)) ∧ SameBytes s t) ∧
   (∀ t1 t2 t3 t4, u.t1 = some t1 → u.t2 = some t2 → u.t3 = some t3 → u.t4 = some t4 → s.dieOpen (timeParent d) d = true →
     let o := (timeDiff t2 t1 - timeDiff t4 t3).tdiv 2
     let good := o.natAbs ≤ 4096 ∧ (s.die (timeParent d)).time.lock = .locked
     Completes (.delayResponse d) s fun t =>
       (time t).lastOffset = o.natAbs ∧ (time t).t1 = none ∧ (time t).t4 = none ∧ (time t).missed = 0 ∧
       (-5400 ≤ o → t.ptime d = s.ptime d) ∧ (good → (time t).good = u.good + 1) ∧ (¬good → (time t).good = 0) ∧
       (u.lock = .unlocked → (time t).lock = .locking) ∧
       (u.lock = .locking → good → 7 ≤ u.good → (time t).lock = .locked) ∧
       (u.lock = .locking → ¬good ∨ u.good < 7 → (time t).lock = .locking) ∧
       (u.lock = .locked → good → (time t).lock = .locked) ∧ (u.lock = .locked → ¬good → (time t).lock = .locking)) ∧
   (0 < d → d < 24 →
     (u.missed < 3 → Completes (.syncExchangeMissed d) s fun t => (time t).missed = u.missed + 1 ∧ (time t).good = 0 ∧
       (time t).lock = if u.lock = .locked then .locking else u.lock) ∧
     (3 ≤ u.missed → Completes (.syncExchangeMissed d) s fun t => (time t).lock = .unlocked ∧
       (u.lock ≠ .unlocked → ∀ e, 0 < e → e < 24 → timeParent e = d → (t.die e).time.lock = .unlocked))))

/-- Accesses from outside (16_link R409, R410, R414; 14_barrier R371): over CXL the host's write to device memory that its decoders reach
stores its bytes and its read answers the committed ones, marked where they are uncorrectable; its write to its own memory changes those
bytes, unless its snoop stands before a link that holds traffic; a peer's request to a module that runs is served the same way within its window, where an atomic answers the old value and stores
the new one, and any other request is answered with an error. -/
def Obligations.OutsideAccesses : Prop := ∀ (s : State) (ep a : Nat) (data : List Byte),
  let n := data.length
  let holds (l : Nat) (t : State) : Prop := (∀ i b, data[i]? = some b → Memory.read (l + i) t.mem = b) ∧ SameBytesOutside l n s t
  let bad := s.readPoisoned { loc := a } n
  let answered (t : State) : Prop := (bad = false → SameBytes s t) ∧ ∃ bytes, t.pkg.reports = s.pkg.reports ++ [.readData bytes bad] ∧
    bytes.length = n ∧ ∀ i < n, bytes[i]? = some (committedByte s (a + i))
  s.MemOk → 0 < n →
  (s.pkg.hostMode.isCxl = true → s.decoderReaches a n = true → s.outsideReady [.host, .ioDie 0] 0 a n = true →
    (s.behind .failed a = false → Completes (.hostMemoryRequest true a data) s (holds a)) ∧
    Completes (.hostMemoryRequest false a data) s answered) ∧
  (a + n ≤ 2 ^ 60 → s.snoops = .unseen ∨ (s.snoops = .seen ∧ s.tailsAt (2 ^ 60 + a) n = [] ∧ ∀ base size, s.pkg.ring = some (base, size) →
      base + 16 ≤ a ∨ a + n ≤ base + 8) → Completes (.hostLineSnoop a data) s (holds (2 ^ 60 + a))) ∧
  (s.snoops = .held → Completes (.hostLineSnoop a data) s fun t => t = s) ∧
  (a + n ≤ 2 ^ 60 → s.peerReady ep a n = true →
    (s.behind .failed a = false → s.peerMay ep a n true false = true → Completes (.peerRequest ep (.write a data)) s (holds a)) ∧
    (s.peerMay ep a n false true = true → Completes (.peerRequest ep (.read a n)) s answered)) ∧
  (s.running = true → s.peerMay ep a n true false = false → Completes (.peerRequest ep (.write a data)) s fun t =>
    SameBytes s t ∧ t.pkg.reports = s.pkg.reports ++ [.peerError]) ∧
  (s.running = true → s.peerMay ep a n false true = false → Completes (.peerRequest ep (.read a n)) s fun t =>
    SameBytes s t ∧ t.pkg.reports = s.pkg.reports ++ [.peerError]) ∧
  (∀ (x c : Word), s.peerMay ep a 8 true true = true → a % 8 = 0 → a + 8 ≤ 2 ^ 60 → s.peerReady ep a 8 = true → s.pkg.drafts = [] →
    s.readPoisoned { loc := a } 8 = false → Completes (.peerRequest ep (.atomic 0#5 a true x c)) s fun t =>
      Memory.readNat a 8 t.mem = (Memory.readNat a 8 s.mem + x.toNat) % 2 ^ 64 ∧ SameBytesOutside a 8 s t ∧
      t.pkg.reports = s.pkg.reports ++ [.peerAnswer (BitVec.ofNat 64 (Memory.readNat a 8 s.mem))])

/-- The event ring (16_link R415-R418): its setup gives a base and 2^k records, an empty control block and the count of what was lost
before; what a die whose way to the host is open has lost is counted in the control block with EVQ_OVERFLOW; a move of HEAD frees its
records, and a pending event whose way to the host is open follows into the next one, with TAIL after it.
-/
def Obligations.EventRing : Prop := ∀ (s : State) (base k : Nat) (h : BitVec 64) (d : Nat) (e : Event),
  s.MemOk →
  (base % 64 = 0 → 6 ≤ k → k ≤ 24 → base + 32 ≤ 2 ^ 60 → s.pkg.boot ≠ .off → s.pkg.ring = none → s.pkg.lost < 2 ^ 64 →
    (∀ i < 24, (s.die i).pending = [] ∧ (s.die i).lossy = false) → Completes (.eventRingSetup base k) s fun t =>
      t.pkg.ring = some (base, 2 ^ k) ∧ t.pkg.ringHead = 0 ∧ t.pkg.ringTail = 0 ∧ SameBytesOutside (2 ^ 60 + base) 32 s t ∧
      Memory.readNat (2 ^ 60 + base) 8 t.mem = 0 ∧ Memory.readNat (2 ^ 60 + base + 8) 8 t.mem = 0 ∧
      Memory.readNat (2 ^ 60 + base + 16) 8 t.mem = (if s.pkg.lost = 0 then 0 else 1) ∧
      Memory.readNat (2 ^ 60 + base + 24) 8 t.mem = s.pkg.lost) ∧
  (∀ size, s.pkg.ring = some (base, size) → 0 < size → base + 64 + 32 * size ≤ 2 ^ 60 → s.pkg.lost ≠ 0 → s.lostCount < 2 ^ 64 → d < 24 →
    s.hostCut d = false → (∀ i < 24, (s.die i).pending = [] ∧ (s.die i).lossy = false) → Completes (.eventRingHeadMove h) s fun t =>
      t.pkg.lost = 0 ∧ t.pkg.ringHead = h.toNat ∧ Memory.readNat (2 ^ 60 + base + 16) 8 t.mem = 1 ∧
      Memory.readNat (2 ^ 60 + base + 24) 8 t.mem = s.lostCount) ∧
  (∀ size, s.pkg.ring = some (base, size) → 0 < size → base + 64 + 32 * size ≤ 2 ^ 60 → s.pkg.lost = 0 →
    ((∀ i < 24, (s.die i).pending = [] ∧ (s.die i).lossy = false) → Completes (.eventRingHeadMove h) s fun t =>
      t.pkg.ringHead = h.toNat ∧ Memory.readNat (2 ^ 60 + base + 8) 8 t.mem = h.toNat ∧ SameBytesOutside (2 ^ 60 + base + 8) 8 s t) ∧
    (d < 24 → (∀ i < 24, (s.die i).lossy = false ∧ (i ≠ d → (s.die i).pending = [])) → (s.die d).pending = [e] →
      s.hostCut d = false → s.pkg.ringTail - h.toNat < size → s.pkg.ringTail + 1 < 2 ^ 64 →
      e.ptime < 2 ^ 64 → e.die < 2 ^ 16 → e.code < 2 ^ 16 →
      let r := 2 ^ 60 + base + 64 + 32 * (s.pkg.ringTail % size)
      Completes (.eventRingHeadMove h) s fun t => t.pkg.ringTail = s.pkg.ringTail + 1 ∧ (t.die d).pending = [] ∧
        Memory.readNat (2 ^ 60 + base) 8 t.mem = s.pkg.ringTail + 1 ∧ Memory.readNat r 8 t.mem = e.ptime ∧
        Memory.readNat (r + 8) 8 t.mem = e.seq % 2 ^ 32 * 2 ^ 32 + e.die * 2 ^ 16 + e.code ∧
        Memory.readNat (r + 16) 8 t.mem = e.a.toNat ∧ Memory.readNat (r + 24) 8 t.mem = e.b.toNat))

/-- Power and attestation (01_module R33, 16_link R419-R421): power off leaves nothing of the module's memory, its kernels and its
threads, and the memory of the host and of the peers as it is (what the module's memory then reads as is the model's choice, log entries 1
and 13); from OFF, boot starts the training of every link, or fails its verification
and says so with its cause, and the peers' windows are those of the bundle that lie in device memory (16_link R414); the end of the last training releases the Roll Call thread at PC 0 in address space 0 with system privilege on
the lowest enabled cluster of die 0; and a measurement register is reported under a signature. -/
def Obligations.PowerAndAttestation : Prop := ∀ (s : State) (i : Nat),
  let cleared (t : State) : Prop := (∀ l, Loc.isHost l = false → Loc.isPeer l = false → Memory.read l t.mem = Memory.initial l) ∧
    (s.MemOk → ∀ l, Loc.isHost l = true ∨ Loc.isPeer l = true → Memory.read l t.mem = Memory.read l s.mem)
  (Completes .powerOff s fun t => t.pkg.boot = .off ∧ cleared t ∧ t.kernels = [] ∧ t.others = [] ∧ t.ctx.phase = .free) ∧
  (s.pkg.boot = .off →
    (∀ p ws, Completes (.powerUp (.accepted p ws)) s fun t =>
      (∀ w, w ∈ t.pkg.peerWindows ↔ w ∈ ws ∧ w.1 < 1024 ∧ (w.2.base + w.2.length ≤ 0x14000000000 ∨
        (0x20000000000 ≤ w.2.base ∧ w.2.base < 0x40000000000 ∧ w.2.base + w.2.length ≤ 0x40000000000))) ∧ t.pkg.boot = .training ∧ t.pkg.draftPool = p.getD 8 ∧ t.ctx.phase = .free ∧
      t.kernels = [] ∧ (∀ l, linkReal l = true → t.linkState l = .training) ∧
      (∀ l, Loc.isHost l = false → Loc.isPeer l = false → Loc.isStorage l = false → Memory.read l t.mem = Memory.initial l) ∧
      (s.MemOk → ∀ l, Loc.isHost l = true ∨ Loc.isPeer l = true → Memory.read l t.mem = Memory.read l s.mem)) ∧
    (∀ cause, Completes (.powerUp (.rejected cause)) s fun t => t.pkg.boot = .bootFail ∧ t.ctx.phase = .free ∧
      t.pkg.reports = s.pkg.reports ++ [.bootFail cause (Config.digest 1)])) ∧
  (∀ (l : Link) (m : HostMode), s.pkg.boot = .training → linkReal l = true → s.linkState l = .training →
    (∀ p ∈ s.pkg.links, p.1 ≠ l → p.2.state ≠ .training) → Completes (.linkTrainingEnd l (.full m)) s fun t =>
      t.pkg.boot = .rollCall ∧ t.cur = ⟨s.firstCluster, 0, 0⟩ ∧ t.ctx.phase = .ready ∧ t.ctx.pc = 0#64 ∧ t.ctx.asid = 0#16 ∧
      t.ctx.sys = true) ∧
  (1 ≤ i → i ≤ 6 → s.pkg.boot = .rollCall ∨ s.pkg.boot = .sealed → Completes (.spdmMeasurement i) s fun t =>
    (∃ sig, t.pkg.reports = s.pkg.reports ++ [.measurement i (s.pkg.measurements.toArray.getD (i - 1) 0#256) sig]) ∧
    t = { s with pkg := t.pkg } ∧ t.pkg.measurements = s.pkg.measurements)

/-- The registers of the Roll Call (16_link R423) are written by a thread with system privilege before the seal (SEATBASE keeps its value
where the new one is not 64-byte aligned, 05_traps R152; that, and that a base takes every other value, are the model's deductions, log
entries 39 and 67) and are read-only after it, when a write is ILLEGAL. The seal (16_link R424): a
write of SEALED = 1 starts it where the Seating Plan passes its check, and posts event 8 where it does not; 20,000 cycles later the plan is
sealed and handle serials start at 1. With no event ring set. -/
def Obligations.RollCallAndSeal : Prop :=
  (∀ (s : State) (d a : BitVec 5) (c : BitVec 12),
   c = 0x10A#12 ∨ c = 0x10B#12 ∨ c = 0x10C#12 ∨ c = 0x10D#12 ∨ c = 0x10F#12 → s.ctx.sys = true →
   (s.pkg.boot ≠ .sealed → Completes (.csrw d a c) s fun t =>
     t.csrRead c.toNat = (if c = 0x10A#12 ∧ (s.ctx.g a.toNat).toNat % 64 ≠ 0 then s.csrRead c.toNat else s.ctx.g a.toNat) ∧
     Advanced 1 s t ∧ SameBytes s t ∧ (d ≠ 0#5 → t.ctx.g d.toNat = s.csrRead c.toNat) ∧
     ∀ k, k ≠ d.toNat → t.ctx.g k = s.ctx.g k) ∧
   (s.pkg.boot = .sealed → s.ctx.trapFatal = false → ∀ word, encode (.csrw d a c) = some (word, none) →
     Completes (.csrw d a c) s (Trapped 0x01 s.ctx.pc (BitVec.ofNat 64 word) s))) ∧
  (∀ (s : State), s.pkg.ring = none →
   (s.pkg.boot = .rollCall → s.pkg.sealing = none → s.seatOk = true → Completes .rcstateSeal s fun t =>
     t = { s with pkg := { s.pkg with sealing := some s.now } }) ∧
   (s.pkg.boot = .rollCall → s.pkg.sealing = none → s.seatOk = false → (s.die (dieOf s.cur)).pending.length < 64 →
     Completes .rcstateSeal s fun t => t.pkg = s.pkg ∧ SameBytes s t ∧
       ∃ e, (t.die (dieOf s.cur)).pending = (s.die (dieOf s.cur)).pending ++ [e] ∧ e.code = 8 ∧ e.a = s.pkg.seatbase) ∧
   (∀ c, s.pkg.boot = .rollCall → s.pkg.sealing = some c → c + 20000 ≤ s.now → Completes .sealComplete s fun t =>
     t.pkg.boot = .sealed ∧ t.pkg.sealing = none ∧ t.pkg.nextSerial = 1 ∧ SameBytes s t))

/-- Reductions over event counts (17_watch R429): a legal write of PCSEL clears DONE and starts one over the threads of the kernel in the
scope, with the event and the operation of that write; it gathers the selected count of each of them that still runs that kernel, one after another as its request reaches them, and leaves
their sum, their least or their greatest in PCREAD with DONE set. -/
def Obligations.Reductions : Prop := ∀ (s : State) (t : ThreadRef) (v : Word),
  let x := s.thread t
  let count (u : ThreadRef) : Word := (s.thread u).counts.toArray.getD x.reduceBy.1 0#64
  let ends (f : Thread → Prop) : Prop := Completes (.pcReductionComplete t) s fun u => f (u.thread t) ∧ bit (u.thread t).pcsel 63 = true ∧
    (u.thread t).reducing = none ∧ SameBytes s u
  (field v 12 11 ≤ 2 → field v 10 8 ≤ 4 → field v 7 0 ≤ 17 → Completes (.pcselWrite t v) s fun u =>
    (u.thread t).reducing = some (s.reduced t (field v 10 8), []) ∧ (u.thread t).reduceBy = (field v 7 0, field v 12 11) ∧ bit (u.thread t).pcsel 63 = false ∧ SameBytes s u ∧
    ∀ k < 63, bit (u.thread t).pcsel k = if k < 13 then bit v k else bit x.pcsel k) ∧
  (∀ ts cs, x.reducing = some (ts, cs) → x.phase ≠ .switched →
    let live := ts.filter fun u => (s.thread u).phase != .free && (s.thread u).kernel == x.kernel
    let all := cs ++ live.map count
    (∀ u w r, live = u :: w :: r → Completes (.pcReductionComplete t) s fun y =>
      y.thread t = { x with reducing := some (w :: r, cs ++ [count u]) } ∧ SameBytes s y) ∧
    (live.length ≤ 1 → x.reduceBy.2 = 0 → ends fun y => y.pcread = all.foldr (· + ·) 0#64) ∧
    (live.length ≤ 1 → x.reduceBy.2 = 1 → all ≠ [] → ends fun y => y.pcread ∈ all ∧ ∀ c ∈ all, y.pcread.toNat ≤ c.toNat) ∧
    (live.length ≤ 1 → x.reduceBy.2 = 2 → all ≠ [] → ends fun y => y.pcread ∈ all ∧ ∀ c ∈ all, c.toNat ≤ y.pcread.toNat))

/-- The debugger's commands (17_watch R432, R433; 04_context R99, R100; 05_traps R146): OWN and RELEASE, STEP and HOLDCHILD set and clear
their bits; a stop records the thread's state and a resume returns to it; and of a STOPPED thread, alone, frame words and CSRs are read
and written. What a write of the words 0, 32, 40 and 42 leaves (the instruction at the old PC is dropped; the recorded state is rewritten; VL
and VTYPE take legal values alone) is the model's choice (log entry 60). -/
def Obligations.Debugger : Prop := ∀ (s : State) (t : ThreadRef) (v : Word) (w : Nat) (on : Bool) (c : BitVec 12),
  let x := s.thread t
  let becomes (i : Instr) (y : Thread) : Prop := Completes i s fun u =>
    u.thread t = y ∧ SameBytes s u ∧ (x.phase ≠ .free → u.pkg = s.pkg)
  becomes (.debugOwn t) { x with dbgctl := setBit x.dbgctl 0 true } ∧
  becomes (.debugRelease t) { x with dbgctl := setBit x.dbgctl 0 false } ∧
  becomes (.debugStep t on) { x with status := setBit x.status 4 on } ∧
  becomes (.debugHoldchild t on) { x with dbgctl := setBit x.dbgctl 1 on } ∧
  (x.phase = .ready ∨ x.phase = .waiting ∨ x.phase = .yielded ∨ x.phase = .parked →
    becomes (.debugStop t) { x with phase := .stopped, stopPrior := x.phase }) ∧
  (x.phase = .stopped →
    becomes (.debugResume t) { x with phase := x.stopPrior, execExempt := true } ∧
    (Completes (.debugRead t (.frame w)) s fun u => u.pkg.reports = s.pkg.reports ++ [.debugValue t (s.frameWord t w)] ∧
      u = { s with pkg := u.pkg }) ∧
    (t = s.cur → Completes (.debugRead t (.csr c)) s fun u =>
      u.pkg.reports = s.pkg.reports ++ [.debugValue t (s.csrRead c.toNat)] ∧ u = { s with pkg := u.pkg }) ∧
    (1 ≤ w → w < 32 → Completes (.debugWrite t (.frame w) v) s fun u =>
      (u.thread t).g w = v ∧ (∀ r, r ≠ w → (u.thread t).g r = x.g r) ∧ SameBytes s u) ∧
    (Completes (.debugWrite t (.frame 0) v) s fun u => (u.thread t).pc = v &&& ~~~3#64 ∧ (u.thread t).regs = x.regs ∧
      (u.thread t).phase = .stopped ∧ (u.thread t).fetch = [] ∧ (u.thread t).checking = none ∧ (u.thread t).owedTrap = none ∧
      (u.thread t).inTable = false ∧ (u.thread t).pushing = none ∧ SameBytes s u) ∧
    (Completes (.debugWrite t (.frame 40) v) s fun u => field (u.thread t).vl 63 17 = field x.vl 63 17 ∧
      field (u.thread t).vl 16 0 = if field v 16 0 ≤ 32768 ∧ field v 16 0 % blockSize (field x.vtype 6 5) = 0 then field v 16 0
        else field x.vl 16 0) ∧
    (Completes (.debugWrite t (.frame 42) v) s fun u => field (u.thread t).vtype 63 11 = field x.vtype 63 11 ∧
      field (u.thread t).vtype 10 5 = field v 10 5 ∧
      field (u.thread t).vtype 4 0 = if field v 4 0 = 31 then field x.vtype 4 0 else field v 4 0) ∧
    (field v 11 8 = 1 ∨ field v 11 8 = 2 → Completes (.debugWrite t (.frame 32) v) s fun u => (u.thread t).phase = .stopped ∧
      (u.thread t).stopPrior = (if field v 11 8 = 1 then .ready else .waiting) ∧ (u.thread t).regs = x.regs ∧
      (∀ q, 0 < q → q < 8 → (u.thread t).p q = bit v q) ∧ SameBytes s u) ∧
    becomes (.debugWrite t (.frame 54) v) { x with instret := v } ∧
    becomes (.debugWrite t (.csr 5#12) v) { x with scratch := v }) ∧
  (x.phase ≠ .stopped → becomes (.debugRead t (.frame w)) x ∧ becomes (.debugWrite t (.frame w) v) x)

/-! ### The machine as a whole -/

/-- Right after reset (16_link R419, R422; 04_context R97): thread 0 of core 0 of die 0's lowest enabled cluster is READY at PC 0 in
address space 0 with SYS = 1 and no other bit of STATUS, every other thread slot is FREE, no kernel exists, the plan is not sealed, memory
is in its canonical form, and every other enabled cluster's presence granule is FULL and holds its die, row and column. That cluster 0 is
the lowest enabled one is the model's choice of the fuse map (log entry 5). -/
def Obligations.ResetState : Prop :=
  let s := State.reset
  s.MemOk ∧ s.cur = ⟨0, 0, 0⟩ ∧ s.ctx.phase = .ready ∧ s.ctx.pc = 0#64 ∧ s.ctx.asid = 0#16 ∧ s.ctx.status = 8#64 ∧
  (∀ r, s.ctx.g r = 0#64) ∧ (∀ p, p ≠ 0 → s.ctx.p p = false) ∧ s.ctx.loads = [] ∧ s.ctx.stores = [] ∧
  (∀ u, u ≠ s.cur → (s.thread u).phase = .free) ∧ s.kernels = [] ∧ s.sealed = false ∧ (s.die 0).time.lock = .locked ∧
  ∀ c, 0 < c → Config.enabled c = true → s.feFull (Loc.scratch c 0xFFFF0 / 16) = true ∧
    Memory.readNat (Loc.scratch c 0xFFFF0) 16 s.mem = c / 352 * 512 + c % 352 / 16 * 16 + c % 16

/-- "An assignment in pseudocode to g0, p0 or m0 has no effect. A read of g0 yields 0, a read of p0 yields true, and a read of m0 yields
all ones" (00_scope R12). -/
def Obligations.DiscardingRegisters : Prop := ∀ (t : Thread) (v : Word) (b : Bool) (r i : Nat),
  t.setG 0 v = t ∧ t.setP 0 b = t ∧ t.setM 0 r = t ∧ t.g 0 = 0#64 ∧ t.p 0 = true ∧ t.maskBit 0 i = true

/-- Words written out from the encoding examples of 03_encoding, 04_context, 05_traps, 12_kernel and 13_queue decode to the instructions
they stand for, and a word with an unassigned code or a nonzero reserved field decodes to none. -/
def Obligations.DecodedWords : Prop :=
  decodeWords 0x058D7021 0 = .ok (.sub 12#5 13#5 14#5 1#1) ∧
  decodeWords 0x20A58003 0 = .ok (.srai 5#5 5#5 3#6) ∧
  decodeWords 0x24C0FFFE 0 = .ok (.lui 6#5 0xFFFE#16) ∧
  decodeWords 0xF4A00000 0x12345678 = .ok (.liw 5#5 0x12345678#32) ∧
  decodeWords 0x3282C008 0 = .ok (.sd 20#5 2#5 8#13) ∧
  decodeWords 0x402C2802 0 = .ok (.pcmp 1#3 12#5 5#5 2#3) ∧
  decodeWords 0x3401DFFD 0 = .ok (.bp 1#3 0x1FFD#13) ∧
  decodeWords 0x04853041 0 = .error .reservedField ∧
  decodeWords 0x04853141 0 = .error .reservedField

/-- A step runs the decoded instruction: with no bell due, nothing on the agenda and the turn the running thread's, when its fetch buffer
holds the words of an instruction whose registers are all at hand, the step is that instruction's meaning, followed by what ends an issue
turn; one that is owed a register does not issue; and words that decode to nothing raise ILLEGAL
(04_context R108, 06_group R168, 03_encoding R78). What ends the turn changes no byte of memory, no kernel and no thread's registers or
PC; time passes. -/
def Obligations.StepRunsDecoded : Prop := ∀ (s : State) (w x : Nat) (i : Instr),
  s.agenda = [] → s.pkg.boot = .rollCall ∨ s.pkg.boot = .sealed → s.ctx.phase = .ready → s.dueBell = none → s.eventTurn = false →
  s.ctx.parkFail = false → s.held = false → s.ctx.execMatch = false → s.ctx.fetched = .words w x →
  (decodeWords w x = .ok i → s.interlocked i = false → step s = mapNext (State.finish s.ctx) (exec i s)) ∧
  (decodeWords w x = .ok i → s.interlocked i = true → step s = .next (s.block.finish s.ctx)) ∧
  (∀ e, decodeWords w x = .error e → step s = mapNext (State.finish s.ctx)
    (exec (.illegalWord (BitVec.ofNat 32 w) (if isLong w then some (BitVec.ofNat 32 x) else none)) s)) ∧
  (bit s.ctx.status 4 = false → ∀ t : State, SameBytes t (t.finish s.ctx) ∧ (t.finish s.ctx).kernels = t.kernels ∧
    t.now < (t.finish s.ctx).now ∧ ∀ u, ((t.finish s.ctx).thread u).regs = (t.thread u).regs ∧ ((t.finish s.ctx).thread u).pc = (t.thread u).pc)

/-- Decoding the encoding of a well-formed instruction gives that instruction back, whatever its fields hold (03_encoding R63-R78). -/
def Obligations.DecodeOfEncode : Prop := ∀ (i : Instr) (w x : Nat), i.wellFormed = true →
  (encode i = some (w, none) → decodeWords w x = .ok i) ∧ (encode i = some (w, some x) → decodeWords w x = .ok i)

/-- No two words stand for one instruction: a word, with its second word where it is long, that decodes to an instruction is that
instruction's encoding, and the instruction is well formed (03_encoding R78). -/
def Obligations.EncodeOfDecode : Prop := ∀ (i : Instr) (w x : Nat), w < 2 ^ 32 → x < 2 ^ 32 → decodeWords w x = .ok i →
  i.wellFormed = true ∧ encode i = some (w, if isLong w then some x else none)

/-- Every step keeps memory in its canonical form: locations ascend, and none is listed that holds what an unlisted one reads as. -/
def Obligations.StepKeepsMemory : Prop := ∀ (s t : State), s.MemOk → step s = .next t → t.MemOk
end

