-- ==== Sys2Proof/Laws/State.lean ====
section
/-! SUPPORT. One lemma per field for each plain update of the state and of a thread's context, so that no proof unfolds a record
update. -/

namespace Sys2Proof.Machine

open Sys2Proof

/-! ### The running thread's context -/

@[simp] theorem onCtx_ctx (s : State) (f : Thread → Thread) : (s.onCtx f).ctx = f s.ctx := rfl
@[simp] theorem onCtx_mem (s : State) (f : Thread → Thread) : (s.onCtx f).mem = s.mem := rfl
@[simp] theorem onCtx_cur (s : State) (f : Thread → Thread) : (s.onCtx f).cur = s.cur := rfl
@[simp] theorem onCtx_others (s : State) (f : Thread → Thread) : (s.onCtx f).others = s.others := rfl
@[simp] theorem onCtx_cores (s : State) (f : Thread → Thread) : (s.onCtx f).cores = s.cores := rfl
@[simp] theorem onCtx_clusters (s : State) (f : Thread → Thread) : (s.onCtx f).clusters = s.clusters := rfl
@[simp] theorem onCtx_dies (s : State) (f : Thread → Thread) : (s.onCtx f).dies = s.dies := rfl
@[simp] theorem onCtx_kernels (s : State) (f : Thread → Thread) : (s.onCtx f).kernels = s.kernels := rfl
@[simp] theorem onCtx_feFlips (s : State) (f : Thread → Thread) : (s.onCtx f).feFlips = s.feFlips := rfl
@[simp] theorem onCtx_poison (s : State) (f : Thread → Thread) : (s.onCtx f).poison = s.poison := rfl
@[simp] theorem onCtx_pkg (s : State) (f : Thread → Thread) : (s.onCtx f).pkg = s.pkg := rfl
@[simp] theorem onCtx_now (s : State) (f : Thread → Thread) : (s.onCtx f).now = s.now := rfl
@[simp] theorem onCtx_fresh (s : State) (f : Thread → Thread) : (s.onCtx f).fresh = s.fresh := rfl
@[simp] theorem onCtx_agenda (s : State) (f : Thread → Thread) : (s.onCtx f).agenda = s.agenda := rfl

/-! ### A package update -/

@[simp] theorem onPkg_pkg (s : State) (f : Package → Package) : (s.onPkg f).pkg = f s.pkg := rfl
@[simp] theorem onPkg_mem (s : State) (f : Package → Package) : (s.onPkg f).mem = s.mem := rfl
@[simp] theorem onPkg_ctx (s : State) (f : Package → Package) : (s.onPkg f).ctx = s.ctx := rfl
@[simp] theorem onPkg_cur (s : State) (f : Package → Package) : (s.onPkg f).cur = s.cur := rfl
@[simp] theorem onPkg_others (s : State) (f : Package → Package) : (s.onPkg f).others = s.others := rfl
@[simp] theorem onPkg_kernels (s : State) (f : Package → Package) : (s.onPkg f).kernels = s.kernels := rfl
@[simp] theorem onPkg_cores (s : State) (f : Package → Package) : (s.onPkg f).cores = s.cores := rfl
@[simp] theorem onPkg_clusters (s : State) (f : Package → Package) : (s.onPkg f).clusters = s.clusters := rfl
@[simp] theorem onPkg_dies (s : State) (f : Package → Package) : (s.onPkg f).dies = s.dies := rfl
@[simp] theorem onPkg_now (s : State) (f : Package → Package) : (s.onPkg f).now = s.now := rfl
@[simp] theorem onPkg_fresh (s : State) (f : Package → Package) : (s.onPkg f).fresh = s.fresh := rfl
@[simp] theorem onPkg_agenda (s : State) (f : Package → Package) : (s.onPkg f).agenda = s.agenda := rfl

/-! ### Updates of a core, a cluster and a die -/

@[simp] theorem onCore_mem (s : State) (k : Nat) (f : Core → Core) : (s.onCore k f).mem = s.mem := rfl
@[simp] theorem onCore_ctx (s : State) (k : Nat) (f : Core → Core) : (s.onCore k f).ctx = s.ctx := rfl
@[simp] theorem onCore_cur (s : State) (k : Nat) (f : Core → Core) : (s.onCore k f).cur = s.cur := rfl
@[simp] theorem onCore_others (s : State) (k : Nat) (f : Core → Core) : (s.onCore k f).others = s.others := rfl
@[simp] theorem onCore_kernels (s : State) (k : Nat) (f : Core → Core) : (s.onCore k f).kernels = s.kernels := rfl
@[simp] theorem onCore_clusters (s : State) (k : Nat) (f : Core → Core) : (s.onCore k f).clusters = s.clusters := rfl
@[simp] theorem onCore_dies (s : State) (k : Nat) (f : Core → Core) : (s.onCore k f).dies = s.dies := rfl
@[simp] theorem onCore_pkg (s : State) (k : Nat) (f : Core → Core) : (s.onCore k f).pkg = s.pkg := rfl
@[simp] theorem onCore_now (s : State) (k : Nat) (f : Core → Core) : (s.onCore k f).now = s.now := rfl
@[simp] theorem onCore_fresh (s : State) (k : Nat) (f : Core → Core) : (s.onCore k f).fresh = s.fresh := rfl
@[simp] theorem onCluster_mem (s : State) (k : Nat) (f : Cluster → Cluster) : (s.onCluster k f).mem = s.mem := rfl
@[simp] theorem onCluster_ctx (s : State) (k : Nat) (f : Cluster → Cluster) : (s.onCluster k f).ctx = s.ctx := rfl
@[simp] theorem onCluster_cur (s : State) (k : Nat) (f : Cluster → Cluster) : (s.onCluster k f).cur = s.cur := rfl
@[simp] theorem onCluster_others (s : State) (k : Nat) (f : Cluster → Cluster) : (s.onCluster k f).others = s.others := rfl
@[simp] theorem onCluster_kernels (s : State) (k : Nat) (f : Cluster → Cluster) : (s.onCluster k f).kernels = s.kernels := rfl
@[simp] theorem onCluster_cores (s : State) (k : Nat) (f : Cluster → Cluster) : (s.onCluster k f).cores = s.cores := rfl
@[simp] theorem onCluster_dies (s : State) (k : Nat) (f : Cluster → Cluster) : (s.onCluster k f).dies = s.dies := rfl
@[simp] theorem onCluster_pkg (s : State) (k : Nat) (f : Cluster → Cluster) : (s.onCluster k f).pkg = s.pkg := rfl
@[simp] theorem onCluster_now (s : State) (k : Nat) (f : Cluster → Cluster) : (s.onCluster k f).now = s.now := rfl
@[simp] theorem onCluster_fresh (s : State) (k : Nat) (f : Cluster → Cluster) : (s.onCluster k f).fresh = s.fresh := rfl
@[simp] theorem onDie_mem (s : State) (k : Nat) (f : Die → Die) : (s.onDie k f).mem = s.mem := rfl
@[simp] theorem onDie_ctx (s : State) (k : Nat) (f : Die → Die) : (s.onDie k f).ctx = s.ctx := rfl
@[simp] theorem onDie_cur (s : State) (k : Nat) (f : Die → Die) : (s.onDie k f).cur = s.cur := rfl
@[simp] theorem onDie_others (s : State) (k : Nat) (f : Die → Die) : (s.onDie k f).others = s.others := rfl
@[simp] theorem onDie_kernels (s : State) (k : Nat) (f : Die → Die) : (s.onDie k f).kernels = s.kernels := rfl
@[simp] theorem onDie_cores (s : State) (k : Nat) (f : Die → Die) : (s.onDie k f).cores = s.cores := rfl
@[simp] theorem onDie_clusters (s : State) (k : Nat) (f : Die → Die) : (s.onDie k f).clusters = s.clusters := rfl
@[simp] theorem onDie_pkg (s : State) (k : Nat) (f : Die → Die) : (s.onDie k f).pkg = s.pkg := rfl
@[simp] theorem onDie_now (s : State) (k : Nat) (f : Die → Die) : (s.onDie k f).now = s.now := rfl
@[simp] theorem onDie_fresh (s : State) (k : Nat) (f : Die → Die) : (s.onDie k f).fresh = s.fresh := rfl
@[simp] theorem mapDies_mem (s : State) (f : Die → Die) : (s.mapDies f).mem = s.mem := rfl
@[simp] theorem mapDies_ctx (s : State) (f : Die → Die) : (s.mapDies f).ctx = s.ctx := rfl
@[simp] theorem onPartition_mem (s : State) (p : Nat) (f : Partition → Partition) : (s.onPartition p f).mem = s.mem := rfl
@[simp] theorem onPartition_ctx (s : State) (p : Nat) (f : Partition → Partition) : (s.onPartition p f).ctx = s.ctx := rfl
@[simp] theorem onPartition_kernels (s : State) (p : Nat) (f : Partition → Partition) : (s.onPartition p f).kernels = s.kernels := rfl
@[simp] theorem draw_mem (s : State) : s.draw.mem = s.mem := rfl
@[simp] theorem draw_ctx (s : State) : s.draw.ctx = s.ctx := rfl

/-! ### Updates of a thread and of a kernel -/

@[simp] theorem setThread_mem (s : State) (t : ThreadRef) (x : Thread) : (s.setThread t x).mem = s.mem := by
  unfold State.setThread; split <;> rfl
@[simp] theorem setThread_pkg (s : State) (t : ThreadRef) (x : Thread) : (s.setThread t x).pkg = s.pkg := by
  unfold State.setThread; split <;> rfl
@[simp] theorem setThread_cur (s : State) (t : ThreadRef) (x : Thread) : (s.setThread t x).cur = s.cur := by
  unfold State.setThread; split <;> rfl
@[simp] theorem setThread_kernels (s : State) (t : ThreadRef) (x : Thread) : (s.setThread t x).kernels = s.kernels := by
  unfold State.setThread; split <;> rfl
@[simp] theorem setThread_cores (s : State) (t : ThreadRef) (x : Thread) : (s.setThread t x).cores = s.cores := by
  unfold State.setThread; split <;> rfl
@[simp] theorem setThread_clusters (s : State) (t : ThreadRef) (x : Thread) : (s.setThread t x).clusters = s.clusters := by
  unfold State.setThread; split <;> rfl
@[simp] theorem setThread_dies (s : State) (t : ThreadRef) (x : Thread) : (s.setThread t x).dies = s.dies := by
  unfold State.setThread; split <;> rfl
@[simp] theorem setThread_now (s : State) (t : ThreadRef) (x : Thread) : (s.setThread t x).now = s.now := by
  unfold State.setThread; split <;> rfl
@[simp] theorem setThread_fresh (s : State) (t : ThreadRef) (x : Thread) : (s.setThread t x).fresh = s.fresh := by
  unfold State.setThread; split <;> rfl
@[simp] theorem setThread_poison (s : State) (t : ThreadRef) (x : Thread) : (s.setThread t x).poison = s.poison := by
  unfold State.setThread; split <;> rfl
@[simp] theorem setThread_feFlips (s : State) (t : ThreadRef) (x : Thread) : (s.setThread t x).feFlips = s.feFlips := by
  unfold State.setThread; split <;> rfl
@[simp] theorem onThread_mem (s : State) (t : ThreadRef) (f : Thread → Thread) : (s.onThread t f).mem = s.mem := setThread_mem ..
@[simp] theorem onThread_pkg (s : State) (t : ThreadRef) (f : Thread → Thread) : (s.onThread t f).pkg = s.pkg := setThread_pkg ..
@[simp] theorem onThread_cur (s : State) (t : ThreadRef) (f : Thread → Thread) : (s.onThread t f).cur = s.cur := setThread_cur ..
@[simp] theorem onThread_kernels (s : State) (t : ThreadRef) (f : Thread → Thread) : (s.onThread t f).kernels = s.kernels :=
  setThread_kernels ..
@[simp] theorem onThread_cores (s : State) (t : ThreadRef) (f : Thread → Thread) : (s.onThread t f).cores = s.cores := setThread_cores ..
@[simp] theorem onThread_clusters (s : State) (t : ThreadRef) (f : Thread → Thread) : (s.onThread t f).clusters = s.clusters :=
  setThread_clusters ..
@[simp] theorem onThread_dies (s : State) (t : ThreadRef) (f : Thread → Thread) : (s.onThread t f).dies = s.dies := setThread_dies ..
@[simp] theorem onThread_now (s : State) (t : ThreadRef) (f : Thread → Thread) : (s.onThread t f).now = s.now := setThread_now ..
@[simp] theorem onThread_fresh (s : State) (t : ThreadRef) (f : Thread → Thread) : (s.onThread t f).fresh = s.fresh := setThread_fresh ..
@[simp] theorem onThread_poison (s : State) (t : ThreadRef) (f : Thread → Thread) : (s.onThread t f).poison = s.poison :=
  setThread_poison ..
@[simp] theorem onThread_feFlips (s : State) (t : ThreadRef) (f : Thread → Thread) : (s.onThread t f).feFlips = s.feFlips :=
  setThread_feFlips ..

/-- A change of the running thread by its name is a change of its context. -/
theorem onThread_running (s : State) (f : Thread → Thread) : s.onThread s.cur f = s.onCtx f := by
  simp [State.onThread, State.setThread, State.thread, State.onCtx]

/-- The running thread's context by its name. -/
@[simp] theorem thread_running (s : State) : s.thread s.cur = s.ctx := by simp [State.thread]

/-- Looking up a thread after its context has been stored gives that context. -/
theorem lookupThread_storeThread (t : ThreadRef) (x : Thread) (l : List (ThreadRef × Thread)) :
    lookupThread t (storeThread t x l) = x := by
  induction l with
  | nil => simp [storeThread, lookupThread]
  | cons p r ih =>
    obtain ⟨u, y⟩ := p
    unfold storeThread
    split
    · simp [lookupThread]
    · split
      · simp [lookupThread]
      · next h _ => simp [lookupThread, h, ih]

/-- The context of a thread right after it has been set. -/
@[simp] theorem thread_setThread (s : State) (t : ThreadRef) (x : Thread) : (s.setThread t x).thread t = x := by
  unfold State.setThread State.thread
  split
  · rfl
  · next h => simp [lookupThread_storeThread]

/-- The context of a thread right after it has been changed. -/
@[simp] theorem thread_onThread (s : State) (t : ThreadRef) (f : Thread → Thread) : (s.onThread t f).thread t = f (s.thread t) :=
  thread_setThread ..

@[simp] theorem onKernel_mem (s : State) (k : Nat) (f : Kernel → Kernel) : (s.onKernel k f).mem = s.mem := by
  unfold State.onKernel; split <;> rfl
@[simp] theorem onKernel_ctx (s : State) (k : Nat) (f : Kernel → Kernel) : (s.onKernel k f).ctx = s.ctx := by
  unfold State.onKernel; split <;> rfl
@[simp] theorem onKernel_cur (s : State) (k : Nat) (f : Kernel → Kernel) : (s.onKernel k f).cur = s.cur := by
  unfold State.onKernel; split <;> rfl
@[simp] theorem onKernel_others (s : State) (k : Nat) (f : Kernel → Kernel) : (s.onKernel k f).others = s.others := by
  unfold State.onKernel; split <;> rfl
@[simp] theorem onKernel_pkg (s : State) (k : Nat) (f : Kernel → Kernel) : (s.onKernel k f).pkg = s.pkg := by
  unfold State.onKernel; split <;> rfl

/-! ### Sparse tables -/

/-- A table read at the key just set gives the value set. -/
@[simp] theorem get_set {α : Type} (d v : α) (k : Nat) (l : List (Nat × α)) : Table.get d k (Table.set k v l) = v := by
  induction l with
  | nil => simp [Table.set, Table.get]
  | cons p r ih =>
    obtain ⟨j, w⟩ := p
    unfold Table.set
    split
    · simp [Table.get]
    · split
      · simp [Table.get]
      · next h => simp [Table.get, ih, show ¬ j = k from fun e => h e.symm]

/-- A key just set is found with the value set. -/
@[simp] theorem find_set {α : Type} (v : α) (k : Nat) (l : List (Nat × α)) : Table.find k (Table.set k v l) = some v := by
  induction l with
  | nil => simp [Table.set, Table.find]
  | cons p r ih =>
    obtain ⟨j, w⟩ := p
    unfold Table.set
    split
    · simp [Table.find]
    · split
      · simp [Table.find]
      · next h => simp [Table.find, ih, show ¬ j = k from fun e => h e.symm]

@[simp] theorem core_onCore (s : State) (k : Nat) (f : Core → Core) : (s.onCore k f).core k = f (s.core k) := by
  simp [State.core, State.onCore]
@[simp] theorem cluster_onCluster (s : State) (k : Nat) (f : Cluster → Cluster) : (s.onCluster k f).cluster k = f (s.cluster k) := by
  simp [State.cluster, State.onCluster]
@[simp] theorem die_onDie (s : State) (k : Nat) (f : Die → Die) : (s.onDie k f).die k = f (s.die k) := by
  simp [State.die, State.onDie]
@[simp] theorem partition_onPartition (s : State) (p : Nat) (f : Partition → Partition) :
    (s.onPartition p f).partition p = f (s.partition p) := by
  simp [State.partition, State.onPartition, State.onPkg]
theorem kernel_onKernel (s : State) (k : Nat) (f : Kernel → Kernel) : (s.onKernel k f).kernel k = (s.kernel k).map f := by
  unfold State.onKernel
  cases h : s.kernel k <;> simp [State.kernel]
  simpa [State.kernel] using h

end Sys2Proof.Machine
end

