-- ==== Sys2Proof/Laws/Regs.lean ====
section
/-! SUPPORT. The registers of a thread, the retirement of an instruction and the entry of a trap, each said once. -/

namespace Sys2Proof.Machine

open Sys2Proof

/-! ### Reading after writing -/

@[simp] theorem g_zero (t : Thread) : t.g 0 = 0#64 := rfl

@[simp] theorem p_zero (t : Thread) : t.p 0 = true := rfl

/-- A general register other than g0 reads what was written to it. -/
theorem g_setG_same (t : Thread) (n : Nat) (v : Word) (h0 : n ≠ 0) (h : n < 32) : (t.setG n v).g n = v := by
  simp [Thread.setG, Thread.g, h0, h, Array.getD]

/-- Every other general register reads as before. -/
theorem g_setG_other (t : Thread) (n k : Nat) (v : Word) (h : k ≠ n) : (t.setG n v).g k = t.g k := by
  by_cases h0 : n = 0
  · simp [Thread.setG, h0]
  · by_cases hk : k < 32
    · simp [Thread.setG, Thread.g, h0, Array.getD, hk, Ne.symm h]
    · simp [Thread.setG, Thread.g, h0, Array.getD, hk]

/-- What a write of a general register leaves of the context. -/
theorem setG_thread (t : Thread) (n : Nat) (v : Word) : t.setG n v = { t with regs := (t.setG n v).regs } := by
  unfold Thread.setG; split <;> rfl

/-- What a write of a predicate leaves of the context. -/
theorem setP_thread (t : Thread) (n : Nat) (b : Bool) : t.setP n b = { t with preds := (t.setP n b).preds } := by
  unfold Thread.setP; split <;> rfl

/-- Bit i of a power of two below the width. -/
theorem getLsbD_pow (w n i : Nat) (hn : n < w) : (BitVec.ofNat w (2 ^ n)).getLsbD i = decide (i = n) := by
  rw [BitVec.getLsbD_ofNat, Nat.testBit_two_pow]
  by_cases e : n = i
  · simp [e]; omega
  · simp [e, Ne.symm e]

/-- A predicate after one bit of an 8-bit set has been set or cleared. -/
theorem p_setP (t : Thread) (n k : Nat) (b : Bool) (hn : n < 8) :
    (t.setP n b).p k = if k = n ∧ n ≠ 0 then b else t.p k := by
  have bitN := fun i => getLsbD_pow 8 n i hn
  by_cases h0 : n = 0
  · simp [Thread.setP, h0]
  by_cases hk : k = 0
  · subst hk; simp [Thread.p, Ne.symm h0]
  unfold Thread.setP Thread.p
  simp only [h0, ↓reduceIte, ne_eq, not_false_eq_true, and_true]
  generalize BitVec.ofNat 8 (2 ^ n) = m at bitN ⊢
  cases b
  · by_cases e : k = n
    · subst e; simp [h0, bitN]
    · by_cases h8 : k < 8
      · simp [bitN, e, h8, -BitVec.getLsbD_eq_getElem]
      · simp [e, h8, BitVec.getLsbD_of_ge t.preds k (by omega)]
  · by_cases e : k = n
    · subst e; simp [bitN]
    · simp [bitN, e]

/-! ### Retirement -/

@[simp] theorem count_g (t : Thread) (k n r : Nat) : (t.count k n).g r = t.g r := rfl
@[simp] theorem count_regs (t : Thread) (k n : Nat) : (t.count k n).regs = t.regs := rfl
@[simp] theorem count_pc (t : Thread) (k n : Nat) : (t.count k n).pc = t.pc := rfl
@[simp] theorem count_phase (t : Thread) (k n : Nat) : (t.count k n).phase = t.phase := rfl
@[simp] theorem retire_g (t : Thread) (n r : Nat) : (t.retire n).g r = t.g r := rfl
@[simp] theorem retire_p (t : Thread) (n r : Nat) : (t.retire n).p r = t.p r := rfl
@[simp] theorem retire_pc (t : Thread) (n : Nat) : (t.retire n).pc = t.pc + BitVec.ofNat 64 (4 * n) := rfl
@[simp] theorem retire_phase (t : Thread) (n : Nat) : (t.retire n).phase = .ready := rfl
@[simp] theorem retire_instret (t : Thread) (n : Nat) : (t.retire n).instret = t.instret + 1#64 := rfl
@[simp] theorem retireTo_g (t : Thread) (a : Word) (r : Nat) : (t.retireTo a).g r = t.g r := rfl
@[simp] theorem setG_pc (t : Thread) (n : Nat) (v : Word) : (t.setG n v).pc = t.pc := by unfold Thread.setG; split <;> rfl
@[simp] theorem setG_instret (t : Thread) (n : Nat) (v : Word) : (t.setG n v).instret = t.instret := by
  unfold Thread.setG; split <;> rfl
@[simp] theorem setG_loads (t : Thread) (n : Nat) (v : Word) : (t.setG n v).loads = t.loads := by
  unfold Thread.setG; split <;> rfl
@[simp] theorem setG_stores (t : Thread) (n : Nat) (v : Word) : (t.setG n v).stores = t.stores := by
  unfold Thread.setG; split <;> rfl
@[simp] theorem setP_pc (t : Thread) (n : Nat) (b : Bool) : (t.setP n b).pc = t.pc := by unfold Thread.setP; split <;> rfl
@[simp] theorem setP_instret (t : Thread) (n : Nat) (b : Bool) : (t.setP n b).instret = t.instret := by
  unfold Thread.setP; split <;> rfl

/-- A change of the running thread's context alone. -/
theorem onlyThread_onCtx (s : State) (f : Thread → Thread) : OnlyThread s (s.onCtx f) := ⟨rfl, fun _ => rfl⟩

/-- The shared end of every instruction that writes one general register. -/
theorem wrote_onCtx (s : State) (d : BitVec 5) (v : Word) (n : Nat) :
    Wrote d v n s (s.onCtx fun t => (t.setG d.toNat v).retire n) where
  advanced := ⟨by simp, by simp, rfl⟩
  value h := by
    have h0 : d.toNat ≠ 0 := fun e => h (BitVec.eq_of_toNat_eq (by simpa using e))
    simp [g_setG_same _ _ _ h0 d.isLt]
  zero := rfl
  others k h := by simp [g_setG_other _ _ _ _ h]
  thread := by
    by_cases h : d.toNat = 0 <;> simp [Thread.setG, h, Thread.retire, Thread.count]
  only := onlyThread_onCtx ..

/-- An instruction of one word that writes one general register. -/
theorem put_wrote (s : State) (d : BitVec 5) (v : Word) : Wrote d v 1 s (s.put d.toNat v) := wrote_onCtx s d v 1

/-- An instruction that writes nothing writes g0. -/
theorem retire_wrote (s : State) (v : Word) : Wrote 0#5 v 1 s s.retire where
  advanced := ⟨rfl, rfl, rfl⟩
  value h := absurd rfl h
  zero := rfl
  others _ _ := rfl
  thread := rfl
  only := onlyThread_onCtx ..

/-- An instruction of one word that writes one predicate. -/
theorem putP_wrote (s : State) (d : BitVec 3) (b : Bool) : WroteP d b s (s.putP d.toNat b) where
  advanced := ⟨by simp [State.putP], by simp [State.putP], rfl⟩
  value h := by
    have h0 : d.toNat ≠ 0 := fun e => h (BitVec.eq_of_toNat_eq (by simpa using e))
    simp [State.putP, p_setP _ _ _ _ d.isLt, h0]
  zero := rfl
  others k h := by simp [State.putP, p_setP _ _ _ _ d.isLt, h]
  thread := by
    by_cases h : d.toNat = 0 <;> simp [State.putP, Thread.setP, h, Thread.retire, Thread.count]
  only := onlyThread_onCtx ..

/-- A jump with a link. -/
theorem retireTo_wentTo (s : State) (d : BitVec 5) (v target : Word) :
    WentTo target d v s (s.onCtx fun t => (t.setG d.toNat v).retireTo target) where
  pc := rfl
  instret := by simp [Thread.retireTo]
  value h := by
    have h0 : d.toNat ≠ 0 := fun e => h (BitVec.eq_of_toNat_eq (by simpa using e))
    simp [g_setG_same _ _ _ h0 d.isLt]
  zero := rfl
  others k h := by simp [g_setG_other _ _ _ _ h]
  thread := by
    by_cases h : d.toNat = 0 <;> simp [Thread.setG, h, Thread.retireTo, Thread.count]
  only := onlyThread_onCtx ..

/-! ### Traps -/

/-- Bit k of a word with bit n set to b. -/
theorem bit_setBit (x : Word) (n k : Nat) (b : Bool) (hn : n < 64) : bit (setBit x n b) k = if k = n then b else bit x k := by
  have bitN := fun i => getLsbD_pow 64 n i hn
  unfold bit setBit
  generalize BitVec.ofNat 64 (2 ^ n) = m at bitN ⊢
  cases b
  · by_cases e : k = n
    · subst e; simp [bitN]
    · by_cases h8 : k < 64
      · simp [bitN, e, h8, -BitVec.getLsbD_eq_getElem]
      · simp [e, h8, BitVec.getLsbD_of_ge x k (by omega)]
  · by_cases e : k = n
    · subst e; simp [bitN]
    · simp [bitN, e]

/-- A trap that is delivered leaves what the rule of its entry says (05_traps R137). -/
theorem trapAt_trapped (s : State) (code : Nat) (epc value : Word) (h : s.ctx.trapFatal = false) :
    Trapped code epc value s (s.trapAt s.cur code epc value) := by
  have e : s.trapAt s.cur code epc value = s.onCtx fun x => x.enterTrap code epc value := by
    simp [State.trapAt, h, onThread_running]
  rw [e]
  have st : ∀ k, bit (s.ctx.enterTrap code epc value).status k =
      if k = 1 then false else if k = 0 then true else if k = 2 then (s.ctx.hm || bit s.ctx.status 2) else bit s.ctx.status k := by
    intro k
    simp only [Thread.enterTrap, bit_setBit _ 1 _ _ (by omega), bit_setBit _ 0 _ _ (by omega)]
    split
    · rfl
    · split
      · rfl
      · unfold Thread.hm
        split
        · next h => simp [bit_setBit, h]
        · next h => split
                    · next e => simp [e, h]
                    · rfl
  exact
    { pc := rfl, cause := rfl, savedPc := rfl, savedValue := rfl, bank := ⟨rfl, rfl, rfl⟩, vstart := rfl
      hm := by simp [Thread.hm, st]
      hte := by simp [st]
      vloss := by simp [st]
      status := fun k hk => by
        simp only [onCtx_ctx, st]
        have h0 : k ≠ 0 := by omega
        have h1 : k ≠ 1 := by omega
        have h2 : k ≠ 2 := by omega
        simp [h0, h1, h2]
      thread := rfl
      only := onlyThread_onCtx .. }

/-- The trap of the running thread's own instruction. -/
theorem trap_trapped (s : State) (code : Nat) (value : Word) (h : s.ctx.trapFatal = false) :
    Trapped code s.ctx.pc value s (s.trap code value) := trapAt_trapped s code s.ctx.pc value h

end Sys2Proof.Machine
end

