-- ==== Sys2Proof/Laws/Bits.lean ====
section
/-! SUPPORT. Sign and zero extension of the model as operations on bit vectors. -/

namespace Sys2Proof.Machine

open Sys2Proof

/-- Sign extension of a number's low n bits is sign extension of the n-bit vector. -/
theorem sext_eq (x n : Nat) : sext x n = (BitVec.ofNat n x).signExtend 64 := by
  have e : (BitVec.ofNat n x).toInt = toSigned x n := by
    simp only [BitVec.toInt, BitVec.toNat_ofNat, toSigned]
    split <;> split <;> first | rfl | omega
  rw [BitVec.signExtend, e, sext, toSigned]

/-- Zero extension of a vector of at most 64 bits. -/
theorem zext_eq {n : Nat} (x : BitVec n) : zext x.toNat n = x.setWidth 64 := by
  apply BitVec.eq_of_toNat_eq
  have := x.isLt
  simp [zext]

/-- Sign extension of a vector given by its number. -/
theorem sext_toNat {n : Nat} (x : BitVec n) : sext x.toNat n = x.signExtend 64 := by
  rw [sext_eq, BitVec.ofNat_toNat]; simp

/-- Sign extension of a 64-bit pattern is that pattern. -/
theorem sext_64 (x : Nat) : sext x 64 = BitVec.ofNat 64 x := by
  rw [sext_eq]; simp

end Sys2Proof.Machine
end

