-- ==== Sys2Proof/Laws/Decode.lean ====
section
/-! SUPPORT. The laws of the decoder: a field read back where it was put, a word accepted, and the decoder of each major opcode. -/

namespace Sys2Proof

/-- A field read back from a word that holds it there. -/
theorem bits_self {n : Nat} (b : BitVec n) (w lo : Nat) (h : w / 2 ^ lo % 2 ^ n = b.toNat) : bits w lo n = b := by
  apply BitVec.eq_of_toNat_eq
  simp [bits, h]

/-- Every field read from a word is one the word holds there. -/
theorem bits_toNat (w lo n : Nat) : (bits w lo n).toNat = fld w lo n := by
  simp [bits, fld]

/-- A field is below its size. -/
theorem fld_lt (w lo n : Nat) : fld w lo n < 2 ^ n := Nat.mod_lt _ (Nat.two_pow_pos n)

/-- A well-formed instruction whose reserved fields are zero is accepted. -/
theorem accept_ok (i : Instr) (h : i.wellFormed = true) : accept true i = .ok i := by simp [accept, h]

/-- An accepted instruction is the one offered; it is well formed, and its reserved fields are zero. -/
theorem accept_eq_ok {z : Bool} {i j : Instr} : accept z i = .ok j ↔ z = true ∧ i.wellFormed = true ∧ i = j := by
  cases z <;> cases h : i.wellFormed <;> simp [accept, h]

/-- A nonzero reserved field refuses an instruction. -/
theorem accept_reserved (i : Instr) : accept false i = .error .reservedField := rfl

/-! ### Each major opcode's words go to its decoder (03_encoding R65-R76) -/

theorem decodeWords_int {w : Nat} (x : Nat) (h : fld w 26 6 = 0x01) : decodeWords w x = decodeInt w := by
  unfold decodeWords; rw [h]; rfl
theorem decodeWords_addi {w : Nat} (x : Nat) (h : fld w 26 6 = 0x02) : decodeWords w x = decodeAddi w := by
  unfold decodeWords; rw [h]; rfl
theorem decodeWords_andi {w : Nat} (x : Nat) (h : fld w 26 6 = 0x03) : decodeWords w x = decodeAndi w := by
  unfold decodeWords; rw [h]; rfl
theorem decodeWords_ori {w : Nat} (x : Nat) (h : fld w 26 6 = 0x04) : decodeWords w x = decodeOri w := by
  unfold decodeWords; rw [h]; rfl
theorem decodeWords_xori {w : Nat} (x : Nat) (h : fld w 26 6 = 0x05) : decodeWords w x = decodeXori w := by
  unfold decodeWords; rw [h]; rfl
theorem decodeWords_slti {w : Nat} (x : Nat) (h : fld w 26 6 = 0x06) : decodeWords w x = decodeSlti w := by
  unfold decodeWords; rw [h]; rfl
theorem decodeWords_sltiu {w : Nat} (x : Nat) (h : fld w 26 6 = 0x07) : decodeWords w x = decodeSltiu w := by
  unfold decodeWords; rw [h]; rfl
theorem decodeWords_shift {w : Nat} (x : Nat) (h : fld w 26 6 = 0x08) : decodeWords w x = decodeShift w := by
  unfold decodeWords; rw [h]; rfl
theorem decodeWords_lui {w : Nat} (x : Nat) (h : fld w 26 6 = 0x09) : decodeWords w x = decodeLui w := by
  unfold decodeWords; rw [h]; rfl
theorem decodeWords_addpc {w : Nat} (x : Nat) (h : fld w 26 6 = 0x0A) : decodeWords w x = decodeAddpc w := by
  unfold decodeWords; rw [h]; rfl
theorem decodeWords_load {w : Nat} (x : Nat) (h : fld w 26 6 = 0x0B) : decodeWords w x = decodeLoad w := by
  unfold decodeWords; rw [h]; rfl
theorem decodeWords_store {w : Nat} (x : Nat) (h : fld w 26 6 = 0x0C) : decodeWords w x = decodeStore w := by
  unfold decodeWords; rw [h]; rfl
theorem decodeWords_branch {w : Nat} (x : Nat) (h : fld w 26 6 = 0x0D) : decodeWords w x = decodeBranch w := by
  unfold decodeWords; rw [h]; rfl
theorem decodeWords_jal {w : Nat} (x : Nat) (h : fld w 26 6 = 0x0E) : decodeWords w x = decodeJal w := by
  unfold decodeWords; rw [h]; rfl
theorem decodeWords_jalr {w : Nat} (x : Nat) (h : fld w 26 6 = 0x0F) : decodeWords w x = decodeJalr w := by
  unfold decodeWords; rw [h]; rfl
theorem decodeWords_pred {w : Nat} (x : Nat) (h : fld w 26 6 = 0x10) : decodeWords w x = decodePred w := by
  unfold decodeWords; rw [h]; rfl
theorem decodeWords_fp {w : Nat} (x : Nat) (h : fld w 26 6 = 0x11) : decodeWords w x = decodeFp w := by
  unfold decodeWords; rw [h]; rfl
theorem decodeWords_fma {w : Nat} (x : Nat) (h : fld w 26 6 = 0x12) : decodeWords w x = decodeFma w := by
  unfold decodeWords; rw [h]; rfl
theorem decodeWords_sys {w : Nat} (x : Nat) (h : fld w 26 6 = 0x13) : decodeWords w x = decodeSys w := by
  unfold decodeWords; rw [h]; rfl
theorem decodeWords_amo {w : Nat} (x : Nat) (h : fld w 26 6 = 0x14) : decodeWords w x = decodeAmo w := by
  unfold decodeWords; rw [h]; rfl
theorem decodeWords_bar {w : Nat} (x : Nat) (h : fld w 26 6 = 0x15) : decodeWords w x = decodeBar w := by
  unfold decodeWords; rw [h]; rfl
theorem decodeWords_queue {w : Nat} (x : Nat) (h : fld w 26 6 = 0x16) : decodeWords w x = decodeQueue w := by
  unfold decodeWords; rw [h]; rfl
theorem decodeWords_kernel {w : Nat} (x : Nat) (h : fld w 26 6 = 0x17) : decodeWords w x = decodeKernel w := by
  unfold decodeWords; rw [h]; rfl
theorem decodeWords_fe {w : Nat} (x : Nat) (h : fld w 26 6 = 0x18) : decodeWords w x = decodeFe w := by
  unfold decodeWords; rw [h]; rfl
theorem decodeWords_page {w : Nat} (x : Nat) (h : fld w 26 6 = 0x19) : decodeWords w x = decodePage w := by
  unfold decodeWords; rw [h]; rfl
theorem decodeWords_vcfg {w : Nat} (x : Nat) (h : fld w 26 6 = 0x20) : decodeWords w x = decodeVcfg w := by
  unfold decodeWords; rw [h]; rfl
theorem decodeWords_vload {w : Nat} (x : Nat) (h : fld w 26 6 = 0x21) : decodeWords w x = decodeVload w := by
  unfold decodeWords; rw [h]; rfl
theorem decodeWords_vstore {w : Nat} (x : Nat) (h : fld w 26 6 = 0x22) : decodeWords w x = decodeVstore w := by
  unfold decodeWords; rw [h]; rfl
theorem decodeWords_vint {w : Nat} (x : Nat) (h : fld w 26 6 = 0x23) : decodeWords w x = decodeVint w := by
  unfold decodeWords; rw [h]; rfl
theorem decodeWords_vfp {w : Nat} (x : Nat) (h : fld w 26 6 = 0x24) : decodeWords w x = decodeVfp w := by
  unfold decodeWords; rw [h]; rfl
theorem decodeWords_vmask {w : Nat} (x : Nat) (h : fld w 26 6 = 0x25) : decodeWords w x = decodeVmask w := by
  unfold decodeWords; rw [h]; rfl
theorem decodeWords_vperm {w : Nat} (x : Nat) (h : fld w 26 6 = 0x26) : decodeWords w x = decodeVperm w := by
  unfold decodeWords; rw [h]; rfl
theorem decodeWords_vred {w : Nat} (x : Nat) (h : fld w 26 6 = 0x27) : decodeWords w x = decodeVred w := by
  unfold decodeWords; rw [h]; rfl
theorem decodeWords_vcvt {w : Nat} (x : Nat) (h : fld w 26 6 = 0x28) : decodeWords w x = decodeVcvt w := by
  unfold decodeWords; rw [h]; rfl
theorem decodeWords_top {w : Nat} (x : Nat) (h : fld w 26 6 = 0x30) : decodeWords w x = decodeTop w := by
  unfold decodeWords; rw [h]; rfl
theorem decodeWords_tmove {w : Nat} (x : Nat) (h : fld w 26 6 = 0x31) : decodeWords w x = decodeTmove w := by
  unfold decodeWords; rw [h]; rfl
theorem decodeWords_tctrl {w : Nat} (x : Nat) (h : fld w 26 6 = 0x32) : decodeWords w x = decodeTctrl w := by
  unfold decodeWords; rw [h]; rfl
theorem decodeWords_lv {w : Nat} (x : Nat) (h : fld w 26 6 = 0x3C) : decodeWords w x = decodeLv w x := by
  unfold decodeWords; rw [h]; rfl
theorem decodeWords_li {w : Nat} (x : Nat) (h : fld w 26 6 = 0x3D) : decodeWords w x = decodeLi w x := by
  unfold decodeWords; rw [h]; rfl
theorem decodeWords_lc {w : Nat} (x : Nat) (h : fld w 26 6 = 0x3E) : decodeWords w x = decodeLc w x := by
  unfold decodeWords; rw [h]; rfl
theorem decodeWords_lt {w : Nat} (x : Nat) (h : fld w 26 6 = 0x3F) : decodeWords w x = decodeLt w x := by
  unfold decodeWords; rw [h]; rfl

end Sys2Proof
end

