-- ==== Sys2Proof/Laws/Memory.lean ====
section
/-! SUPPORT. The laws of memory: its canonical form means that locations ascend and no entry is an initial byte, every memory operation
keeps it, a read after a write gives the byte written, and a write leaves every other byte alone. -/

namespace Sys2Proof.Machine

open Sys2Proof

/-! ### The canonical form -/

/-- The canonical form of a list with a first entry. -/
theorem wf_cons (l : Nat) (b : Byte) (r : List Host.Cell) :
    Memory.wf ((l, b) :: r) = true ↔ (∀ c ∈ r, l < c.1) ∧ b ≠ Memory.initial l ∧ Memory.wf r = true := by
  induction r generalizing l b with
  | nil => simp [Memory.wf]
  | cons c r ih =>
    obtain ⟨k, d⟩ := c
    have e : Memory.wf ((l, b) :: (k, d) :: r) =
        (decide (l < k) && decide (b ≠ Memory.initial l) && Memory.wf ((k, d) :: r)) := rfl
    rw [e]
    simp only [Bool.and_eq_true, decide_eq_true_eq, List.mem_cons, forall_eq_or_imp]
    constructor
    · rintro ⟨⟨h1, h2⟩, h3⟩
      refine ⟨⟨h1, fun c hc => ?_⟩, h2, h3⟩
      have := ((ih k d).1 h3).1 c hc
      omega
    · rintro ⟨⟨h1, -⟩, h2, h3⟩
      exact ⟨⟨h1, h2⟩, h3⟩

/-- A location below every listed one reads as its initial byte. -/
theorem read_below (l : Nat) (m : List Host.Cell) (h : ∀ c ∈ m, l < c.1) : Memory.read l m = Memory.initial l := by
  cases m with
  | nil => rfl
  | cons c r =>
    obtain ⟨k, d⟩ := c
    have : l < k := h (k, d) (by simp)
    simp [Memory.read, this]

/-- Every entry that an insertion leaves is the new one or an old one. -/
theorem mem_insert (l : Nat) (b : Byte) (m : List Host.Cell) (c : Host.Cell) (h : c ∈ Memory.insert l b m) : c = (l, b) ∨ c ∈ m := by
  induction m with
  | nil => simpa [Memory.insert] using h
  | cons d r ih =>
    obtain ⟨k, e⟩ := d
    unfold Memory.insert at h
    split at h
    · simpa using h
    · split at h
      · simp only [List.mem_cons] at h ⊢
        exact h.imp_right .inr
      · simp only [List.mem_cons] at h ⊢
        rcases h with h | h
        · exact .inr (.inl h)
        · rcases ih h with h | h
          · exact .inl h
          · exact .inr (.inr h)

/-- Every entry that a removal leaves is an old one. -/
theorem mem_remove (l : Nat) (m : List Host.Cell) (c : Host.Cell) (h : c ∈ Memory.remove l m) : c ∈ m := by
  induction m with
  | nil => simp [Memory.remove] at h
  | cons d r ih =>
    obtain ⟨k, e⟩ := d
    unfold Memory.remove at h
    split at h
    · exact h
    · split at h
      · exact List.mem_cons_of_mem _ h
      · simp only [List.mem_cons] at h ⊢
        rcases h with h | h
        · exact .inl h
        · exact .inr (ih h)

/-- An insertion of a byte that is not the initial one keeps the canonical form. -/
theorem wf_insert (l : Nat) (b : Byte) (m : List Host.Cell) (h : Memory.wf m = true) (hb : b ≠ Memory.initial l) :
    Memory.wf (Memory.insert l b m) = true := by
  induction m with
  | nil => simp [Memory.insert, hb, Memory.wf]
  | cons d r ih =>
    obtain ⟨k, e⟩ := d
    have hk := (wf_cons k e r).1 h
    unfold Memory.insert
    split
    · next hlt =>
      refine (wf_cons ..).2 ⟨?_, hb, h⟩
      intro c hc
      simp only [List.mem_cons] at hc
      rcases hc with rfl | hc
      · exact hlt
      · have := hk.1 c hc; omega
    · split
      · next hn he =>
        subst he
        exact (wf_cons ..).2 ⟨hk.1, hb, hk.2.2⟩
      · next hn hne =>
        refine (wf_cons ..).2 ⟨?_, hk.2.1, ih hk.2.2⟩
        intro c hc
        rcases mem_insert l b r c hc with rfl | hc
        · simp only; omega
        · exact hk.1 c hc

/-- A removal keeps the canonical form. -/
theorem wf_remove (l : Nat) (m : List Host.Cell) (h : Memory.wf m = true) : Memory.wf (Memory.remove l m) = true := by
  induction m with
  | nil => rfl
  | cons d r ih =>
    obtain ⟨k, e⟩ := d
    have hk := (wf_cons k e r).1 h
    unfold Memory.remove
    split
    · exact h
    · split
      · exact hk.2.2
      · exact (wf_cons ..).2 ⟨fun c hc => hk.1 c (mem_remove l r c hc), hk.2.1, ih hk.2.2⟩

/-- A write of one byte keeps the canonical form. -/
@[simp] theorem wf_write (l : Nat) (b : Byte) (m : List Host.Cell) (h : Memory.wf m = true) : Memory.wf (Memory.write l b m) = true := by
  unfold Memory.write
  split
  · exact h
  · split
    · exact wf_remove l m h
    · next hb => exact wf_insert l b m h hb

/-- A write of n bytes keeps the canonical form. -/
@[simp] theorem wf_writeNat (l x n : Nat) (m : List Host.Cell) (h : Memory.wf m = true) : Memory.wf (Memory.writeNat l x n m) = true := by
  induction n generalizing l x m with
  | zero => exact h
  | succ n ih => exact ih _ _ _ (wf_write _ _ _ h)

/-- A write of a list of bytes keeps the canonical form. -/
@[simp] theorem wf_writeList (l : Nat) (bs : List Byte) (m : List Host.Cell) (h : Memory.wf m = true) :
    Memory.wf (Memory.writeList l bs m) = true := by
  induction bs generalizing l m with
  | nil => exact h
  | cons b bs ih => exact ih _ _ (wf_write _ _ _ h)

/-- Any selection of a canonical list's entries is canonical. -/
theorem wf_filter (f : Host.Cell → Bool) (m : List Host.Cell) (h : Memory.wf m = true) : Memory.wf (m.filter f) = true := by
  induction m with
  | nil => rfl
  | cons d r ih =>
    obtain ⟨k, e⟩ := d
    have hk := (wf_cons k e r).1 h
    rw [List.filter_cons]
    split
    · exact (wf_cons ..).2 ⟨fun c hc => hk.1 c (List.mem_filter.1 hc).1, hk.2.1, ih hk.2.2⟩
    · exact ih hk.2.2

/-- Zeroing a range keeps the canonical form. -/
@[simp] theorem wf_clear (l n : Nat) (m : List Host.Cell) (h : Memory.wf m = true) : Memory.wf (Memory.clear l n m) = true := wf_filter _ _ h

/-- A write of listed bytes one by one keeps the canonical form. -/
@[simp] theorem wf_writeCells (cs : List Host.Cell) (m : List Host.Cell) (h : Memory.wf m = true) :
    Memory.wf (cs.foldl (fun (a : List Host.Cell) (c : Host.Cell) => Memory.write c.1 c.2 a) m) = true := by
  induction cs generalizing m with
  | nil => exact h
  | cons c cs ih => exact ih _ (wf_write _ _ _ h)

/-! ### Reading what was written -/

/-- The byte at a location after an insertion. -/
theorem read_insert (k l : Nat) (b : Byte) (m : List Host.Cell) :
    Memory.read k (Memory.insert l b m) = if k = l then b else Memory.read k m := by
  induction m with
  | nil =>
    simp only [Memory.insert, Memory.read]
    repeat' split
    all_goals first | rfl | omega
  | cons d r ih =>
    obtain ⟨j, e⟩ := d
    unfold Memory.insert
    split
    · simp only [Memory.read]
      repeat' split
      all_goals first | rfl | omega
    · split
      · simp only [Memory.read]
        repeat' split
        all_goals first | rfl | omega
      · simp only [Memory.read, ih]
        repeat' split
        all_goals first | rfl | omega

/-- The byte at a location after a removal from a canonical list. -/
theorem read_remove (k l : Nat) (m : List Host.Cell) (h : Memory.wf m = true) :
    Memory.read k (Memory.remove l m) = if k = l then Memory.initial k else Memory.read k m := by
  induction m with
  | nil => simp [Memory.remove, Memory.read]
  | cons d r ih =>
    obtain ⟨j, e⟩ := d
    have hk := (wf_cons j e r).1 h
    unfold Memory.remove
    split
    · next hlt =>
      split
      · next he => subst he; exact read_below _ _ (fun c hc => by
          simp only [List.mem_cons] at hc
          rcases hc with rfl | hc
          · exact hlt
          · have := hk.1 c hc; omega)
      · rfl
    · split
      · next hn he =>
        subst he
        split
        · next he => subst he; exact read_below _ _ hk.1
        · simp only [Memory.read]
          split
          · exact read_below _ _ fun c hc => by have := hk.1 c hc; omega
          · rfl
      · simp only [Memory.read, ih hk.2.2]
        repeat' split
        all_goals first | rfl | omega

/-- A byte read after a write is the byte written. -/
theorem read_write (k l : Nat) (b : Byte) (m : List Host.Cell) (h : Memory.wf m = true) (hl : l < Loc.void) :
    Memory.read k (Memory.write l b m) = if k = l then b else Memory.read k m := by
  unfold Memory.write
  have : ¬Loc.void ≤ l := by omega
  simp only [this, ↓reduceIte]
  split
  · next hb =>
    rw [read_remove k l m h]
    split
    · next he => rw [he, hb]
    · rfl
  · exact read_insert k l b m

/-- A write changes no other byte. -/
theorem read_write_other (k l : Nat) (b : Byte) (m : List Host.Cell) (h : Memory.wf m = true) (hk : k ≠ l) :
    Memory.read k (Memory.write l b m) = Memory.read k m := by
  by_cases hl : Loc.void ≤ l
  · simp [Memory.write, hl]
  · rw [read_write k l b m h (by omega), if_neg hk]

/-- The bytes outside n bytes written stand. -/
theorem read_writeNat_other (k l x n : Nat) (m : List Host.Cell) (h : Memory.wf m = true) (hk : k < l ∨ l + n ≤ k) :
    Memory.read k (Memory.writeNat l x n m) = Memory.read k m := by
  induction n generalizing l x m with
  | zero => rfl
  | succ n ih =>
    rw [Memory.writeNat, ih _ _ _ (wf_write _ _ _ h) (by omega), read_write_other k l _ m h (by omega)]

/-- Byte i of n bytes written is byte i of the number. -/
theorem read_writeNat (i l x n : Nat) (m : List Host.Cell) (h : Memory.wf m = true) (hi : i < n) (hl : l + n ≤ Loc.void) :
    Memory.read (l + i) (Memory.writeNat l x n m) = BitVec.ofNat 8 (x / 256 ^ i) := by
  induction n generalizing i l x m with
  | zero => omega
  | succ n ih =>
    rw [Memory.writeNat]
    cases i with
    | zero =>
      rw [read_writeNat_other _ _ _ _ _ (wf_write _ _ _ h) (by omega), read_write _ _ _ _ h (by omega)]
      simp
    | succ i =>
      have := ih i (l + 1) (x / 256) (Memory.write l (BitVec.ofNat 8 x) m) (wf_write _ _ _ h) (by omega) (by omega)
      rw [show l + (i + 1) = l + 1 + i by omega, this, Nat.div_div_eq_div_mul, Nat.pow_succ, Nat.mul_comm]

/-- The n bytes read depend on those n bytes alone. -/
theorem readNat_congr (l n : Nat) (m m' : List Host.Cell) (h : ∀ k, l ≤ k → k < l + n → Memory.read k m = Memory.read k m') :
    Memory.readNat l n m = Memory.readNat l n m' := by
  induction n generalizing l with
  | zero => rfl
  | succ n ih =>
    rw [Memory.readNat, Memory.readNat, h l (by omega) (by omega), ih (l + 1) fun k h1 h2 => h k (by omega) (by omega)]

/-- The number read where it was written. -/
theorem readNat_writeNat (l x n : Nat) (m : List Host.Cell) (h : Memory.wf m = true) (hl : l + n ≤ Loc.void) :
    Memory.readNat l n (Memory.writeNat l x n m) = x % 256 ^ n := by
  induction n generalizing l x m with
  | zero => simp [Memory.readNat, Nat.mod_one]
  | succ n ih =>
    have h0 := read_writeNat 0 l x (n + 1) m h (by omega) hl
    rw [Nat.add_zero] at h0
    rw [Memory.readNat, h0, Memory.writeNat, ih _ _ _ (wf_write _ _ _ h) (by omega)]
    simp only [Nat.pow_zero, Nat.div_one, BitVec.toNat_ofNat]
    have e : (2 : Nat) ^ 8 = 256 := rfl
    rw [e, Nat.pow_succ, Nat.mul_comm (256 ^ n) 256, Nat.mod_mul]

/-- A number read outside the n bytes written stands. -/
theorem readNat_writeNat_other (k j l x n : Nat) (m : List Host.Cell) (h : Memory.wf m = true) (hk : k + j ≤ l ∨ l + n ≤ k) :
    Memory.readNat k j (Memory.writeNat l x n m) = Memory.readNat k j m :=
  readNat_congr _ _ _ _ fun i h1 h2 => read_writeNat_other i l x n m h (by omega)

/-- A byte of a zeroed range is its initial byte, and any other stands. -/
theorem read_clear (k l n : Nat) (m : List Host.Cell) (h : Memory.wf m = true) :
    Memory.read k (Memory.clear l n m) = if l ≤ k ∧ k < l + n then Memory.initial k else Memory.read k m := by
  induction m with
  | nil => simp [Memory.clear, Memory.read]
  | cons d r ih =>
    obtain ⟨j, e⟩ := d
    have hj := (wf_cons j e r).1 h
    have ih := ih hj.2.2
    unfold Memory.clear at ih ⊢
    rw [List.filter_cons]
    split
    · next hc =>
      simp only [Bool.or_eq_true, decide_eq_true_eq] at hc
      simp only [Memory.read, ih]
      repeat' split
      all_goals first | rfl | omega
    · next hc =>
      simp only [Bool.or_eq_true, decide_eq_true_eq, not_or, Nat.not_lt, Nat.not_le] at hc
      rw [ih]
      simp only [Memory.read]
      split
      · rfl
      · split
        · exact read_below _ _ fun c hc => by have := hj.1 c hc; omega
        · split
          · omega
          · rfl

/-! ### Reset -/

/-- Memory is in its canonical form at reset. -/
theorem reset_memOk : State.reset.MemOk := rfl

end Sys2Proof.Machine
end

