-- ==== Sys2Proof/Laws/Keep.lean ====
section
/-! SUPPORT. What the shared operations do to memory, said once each: `f_mem` says that an operation leaves every byte of memory as it
was, `f_keeps` that one that may write memory keeps its canonical form. -/

namespace Sys2Proof.Machine

open Sys2Proof

/-! ### Folds, choices and the results of an access -/

/-- A fold of changes that each leave memory alone leaves it alone. -/
@[simp] theorem foldl_mem {α : Type} (f : State → α → State) (l : List α) (s : State) (h : ∀ a x, (f a x).mem = a.mem) :
    (l.foldl f s).mem = s.mem := by
  induction l generalizing s with
  | nil => rfl
  | cons x l ih => rw [List.foldl_cons, ih, h]
@[simp] theorem ite_mem (c : Prop) [Decidable c] (a b : State) : (if c then a else b).mem = if c then a.mem else b.mem := by
  split <;> rfl
@[simp] theorem getD_map_mem {α : Type} (o : Option α) (g : α → State) (s : State) (m : List Host.Cell) (h : ∀ x, (g x).mem = m) (hs : s.mem = m) :
    ((o.map g).getD s).mem = m := by
  cases o <;> simp [h, hs]
@[simp] theorem foldl_keeps {α : Type} (f : State → α → State) (l : List α) (s : State)
    (h : ∀ a x, Memory.wf a.mem = true → Memory.wf (f a x).mem = true) (hs : Memory.wf s.mem = true) : Memory.wf (l.foldl f s).mem = true := by
  induction l generalizing s with
  | nil => exact hs
  | cons x l ih => exact ih _ (h _ _ hs)
@[simp] theorem ite_keeps (c : Prop) [Decidable c] (a b : List Host.Cell) (ha : Memory.wf a = true) (hb : Memory.wf b = true) :
    Memory.wf (if c then a else b) = true := by
  split <;> assumption
@[simp] theorem getD_map_keeps {α : Type} (o : Option α) (g : α → State) (s : State) (h : ∀ x, Memory.wf (g x).mem = true)
    (hs : Memory.wf s.mem = true) : Memory.wf ((o.map g).getD s).mem = true := by
  cases o <;> simp [h, hs]
/-- The state in which a checked access ends. -/
def Checked.state : Checked → State
  | .ok _ s => s
  | .stop s => s
@[simp] theorem Checked.state_ok (p : Place) (s : State) : (Checked.ok p s).state = s := rfl
@[simp] theorem Checked.state_stop (s : State) : (Checked.stop s).state = s := rfl
@[simp] theorem WriteEnd.state_done (s : State) : (WriteEnd.done s).state = s := rfl
@[simp] theorem WriteEnd.state_waits (s : State) : (WriteEnd.waits s).state = s := rfl
@[simp] theorem WriteEnd.state_dropped (s : State) : (WriteEnd.dropped s).state = s := rfl


/-! ### Operations of Machine/Memory.lean -/

@[simp] theorem writeDirect_keeps (s : State) (l n x : Nat) (h : Memory.wf s.mem = true) :
    Memory.wf (writeDirect s l n x).mem = true := by
  simp [writeDirect, h]
@[simp] theorem writeDraft_mem (s : State) (tag l n x : Nat) : (writeDraft s tag l n x).mem = s.mem := by
  simp [writeDraft]
@[simp] theorem setFe_mem (s : State) (g : Nat) (full : Bool) : (State.setFe s g full).mem = s.mem := by
  simp [State.setFe]
@[simp] theorem emptyGranules_keeps (s : State) (l n : Nat) (h : Memory.wf s.mem = true) :
    Memory.wf (State.emptyGranules s l n).mem = true := by
  simp [State.emptyGranules, h]

/-! ### Operations of Machine/World.lean -/

@[simp] theorem writeEvent_keeps (s : State) (base size : Nat) (e : Event) (h : Memory.wf s.mem = true) :
    Memory.wf (writeEvent s base size e).mem = true := by
  unfold writeEvent
  exact wf_writeNat _ _ _ _ (wf_writeNat _ _ _ _ (wf_writeNat _ _ _ _ (wf_writeNat _ _ _ _ (wf_writeNat _ _ _ _ h))))
@[simp] theorem drainList_keeps (base size : Nat) (l : List Event) (s : State) (h : Memory.wf s.mem = true) :
    Memory.wf (drainList base size l s).1.mem = true := by
  induction l generalizing s with
  | nil => exact h
  | cons e r ih =>
    unfold drainList
    split
    · exact ih _ (writeEvent_keeps _ _ _ _ h)
    · exact h
@[simp] theorem writeLost_keeps (s : State) (die : Nat) (h : Memory.wf s.mem = true) : Memory.wf (s.writeLost die).mem = true := by
  unfold State.writeLost; repeat' split
  all_goals simp [h]
@[simp] theorem addLost_keeps (s : State) (die : Nat) (h : Memory.wf s.mem = true) : Memory.wf (State.addLost s die).mem = true :=
  writeLost_keeps _ _ h
@[simp] theorem drainEvents_keeps (s : State) (die : Nat) (h : Memory.wf s.mem = true) : Memory.wf (s.drainEvents die).mem = true := by
  unfold State.drainEvents
  split
  · exact h
  · split
    · exact h
    · dsimp only
      split
      · exact drainList_keeps _ _ _ _ (drainList_keeps _ _ _ _ (writeLost_keeps _ _ h))
      · exact drainList_keeps _ _ _ _ (writeLost_keeps _ _ h)
@[simp] theorem postEvent_keeps (s : State) (die code : Nat) (a b : Word) (h : Memory.wf s.mem = true) :
    Memory.wf (State.postEvent s die code a b).mem = true := by
  unfold State.postEvent
  split
  · exact h
  · dsimp only
    split
    · exact drainEvents_keeps _ _ h
    · exact addLost_keeps _ _ h

/-! ### Operations of Machine/Regs.lean -/

@[simp] theorem retire_mem (s : State) : (State.retire s).mem = s.mem :=
  rfl
@[simp] theorem retireLong_mem (s : State) : (State.retireLong s).mem = s.mem :=
  rfl
@[simp] theorem block_mem (s : State) : (State.block s).mem = s.mem :=
  rfl

/-! ### Operations of Machine/Reach.lean -/

@[simp] theorem fillFirst_mem (s : State) (t : ThreadRef) (micro : Bool) (e : TlbEntry) : (State.fillFirst s t micro e).mem = s.mem := by
  simp [State.fillFirst]
@[simp] theorem dropTlbs_mem (s : State) (f : TlbEntry → Bool) : (State.dropTlbs s f).mem = s.mem :=
  rfl
@[simp] theorem findLeaf_mem (s : State) (t : ThreadRef) (micro : Bool) (asid va : Nat) :
    (State.findLeaf s t micro asid va).2.mem = s.mem := by
  unfold State.findLeaf; dsimp only; repeat' split
  all_goals simp
@[simp] theorem countMiss_mem (s : State) (r : Requester) (new : Bool) : (State.countMiss s r new).mem = s.mem := by
  unfold State.countMiss; split <;> simp
@[simp] theorem startWalk_mem (s : State) (die asid : Nat) (x : Waiter) : (State.startWalk s die asid x).mem = s.mem := by
  unfold State.startWalk; dsimp only; repeat' split
  all_goals simp
@[simp] theorem reach_mem (s : State) (a : Agent) (r : Requester) (micro write fetch : Bool) (ea : Word) :
    (s.reach a r micro write fetch ea).2.mem = s.mem := by
  have hl := findLeaf_mem s a.who micro a.asid ea.toNat
  unfold State.reach
  split
  · rfl
  · rfl
  · split
    · rfl
    · split
      · next e s1 he =>
        rw [he] at hl
        split
        · split <;> exact hl
        · exact hl
      · next s1 he =>
        rw [he] at hl
        split
        · exact hl
        · simpa using hl
@[simp] theorem wakeThread_mem (s : State) (t : ThreadRef) (reason : Nat) : (State.wakeThread s t reason).mem = s.mem := by
  simp [State.wakeThread]
@[simp] theorem wakeWatches_mem (s : State) (l n reason : Nat) : (State.wakeWatches s l n reason).mem = s.mem := by
  unfold State.wakeWatches; dsimp only; repeat' split
  all_goals simp
/-- A wake changes of the running thread nothing but its wait. -/
theorem wakeThread_ctx (s : State) (t : ThreadRef) (reason : Nat) :
    ∃ y, (State.wakeThread s t reason).ctx = { s.ctx with yield := y } := by
  unfold State.wakeThread State.onThread State.setThread State.thread
  split
  · exact ⟨_, rfl⟩
  · exact ⟨s.ctx.yield, rfl⟩
theorem wakeThreads_ctx (l : List ThreadRef) (reason : Nat) : ∀ s : State,
    ∃ y, (l.foldl (fun a t => a.wakeThread t reason) s).ctx = { s.ctx with yield := y } := by
  induction l with
  | nil => exact fun s => ⟨s.ctx.yield, rfl⟩
  | cons t l ih =>
    intro s
    obtain ⟨y, h⟩ := wakeThread_ctx s t reason
    obtain ⟨z, k⟩ := ih (s.wakeThread t reason)
    exact ⟨z, by rw [List.foldl_cons, k, h]⟩
theorem wakeThreads_pkg (l : List ThreadRef) (reason : Nat) : ∀ s : State,
    (l.foldl (fun a t => a.wakeThread t reason) s).pkg = s.pkg := by
  induction l with
  | nil => exact fun _ => rfl
  | cons t l ih => intro s; rw [List.foldl_cons, ih]; simp [State.wakeThread]
/-- What the wake of a line's watches does to the running thread and to the package: a wait's reason, and the watches. -/
theorem wakeWatches_ctx (s : State) (l n reason : Nat) :
    ∃ y, (State.wakeWatches s l n reason).ctx = { s.ctx with yield := y } := by
  unfold State.wakeWatches; dsimp only; repeat' split
  all_goals first | exact ⟨s.ctx.yield, rfl⟩ | exact wakeThreads_ctx _ _ _
theorem wakeWatches_pkg (s : State) (l n reason : Nat) :
    ∃ w, (State.wakeWatches s l n reason).pkg = { s.pkg with watches := w } := by
  unfold State.wakeWatches; dsimp only; repeat' split
  all_goals first | exact ⟨s.pkg.watches, rfl⟩ | exact ⟨_, (wakeThreads_pkg ..).trans rfl⟩
@[simp] theorem wakeVersion_mem (s : State) (v l n : Nat) : (State.wakeVersion s v l n).mem = s.mem := by
  unfold State.wakeVersion; dsimp only; split
  all_goals simp
@[simp] theorem errorAt_keeps (s : State) (l : Nat) (h : Memory.wf s.mem = true) : Memory.wf (s.errorAt l).mem = true := by
  unfold State.errorAt; split <;> simp [h]
@[simp] theorem noteRead_keeps (s : State) (l n : Nat) (h : Memory.wf s.mem = true) : Memory.wf (s.noteRead l n).mem = true := by
  unfold State.noteRead; split <;> simp [h]
@[simp] theorem noteEntry_mem (s : State) (l n : Nat) : (s.noteEntry l n).mem = s.mem := by
  unfold State.noteEntry; dsimp only; split <;> rfl
@[simp] theorem storeBytes_keeps (s : State) (l n x : Nat) (h : Memory.wf s.mem = true) : Memory.wf (s.storeBytes l n x).mem = true := by
  unfold State.storeBytes
  repeat' split
  · exact errorAt_keeps _ _ h
  · exact h
  · simp [h]
/-- A write whose lines no FAILED link cuts off reaches memory, and only the queue table's marks may follow it. -/
theorem storeBytes_mem (s : State) (l n x : Nat) (h : s.behind .failed l = false) : (s.storeBytes l n x).mem = Memory.writeNat l x n s.mem := by
  simp [State.storeBytes, h, writeDirect]
@[simp] theorem writeWordAt_keeps (s : State) (p : Place) (w : Nat) (v : Word) (h : Memory.wf s.mem = true) :
    Memory.wf (State.writeWordAt s p w v).mem = true := by
  simp [State.writeWordAt, h]
@[simp] theorem writeTcb_keeps (s : State) (k w : Nat) (v : Word) (h : Memory.wf s.mem = true) :
    Memory.wf (State.writeTcb s k w v).mem = true := by
  unfold State.writeTcb; split <;> simp [h]
@[simp] theorem moveTcb_keeps (s : State) (p : Place) (l : List Nat) (n : Nat) (h : Memory.wf s.mem = true) :
    Memory.wf (State.moveTcb s p l n).mem = true := by
  unfold State.moveTcb; split <;> simp [h]
@[simp] theorem enterState_keeps (s : State) (k : Nat) (st : KState) (h : Memory.wf s.mem = true) :
    Memory.wf (State.enterState s k st).mem = true := by
  unfold State.enterState; dsimp only; split
  · exact moveTcb_keeps _ _ _ _ (by simpa using h)
  · simpa using h
@[simp] theorem enterReady_keeps (s : State) (k seq : Nat) (h : Memory.wf s.mem = true) :
    Memory.wf (State.enterReady s k seq).mem = true := by
  simp [State.enterReady, h]
@[simp] theorem takeReadySeq_mem (s : State) : (State.takeReadySeq s).2.mem = s.mem :=
  rfl

/-! ### Operations of Machine/Ops.lean -/

@[simp] theorem withdraw_mem (s : State) (t : ThreadRef) : (State.withdraw s t).mem = s.mem :=
  rfl
@[simp] theorem leaveWaiters_mem (s : State) (f : Requester → Bool) : (State.leaveWaiters s f).mem = s.mem :=
  rfl
@[simp] theorem dropPackets_mem (s : State) (t : ThreadRef) : (s.dropPackets t).mem = s.mem := by
  unfold State.dropPackets; exact foldl_mem _ _ _ fun _ _ => rfl
@[simp] theorem freeTiles_mem (s : State) (k : Nat) : (State.freeTiles s k).mem = s.mem :=
  rfl
@[simp] theorem abandonThread_mem (s : State) (t : ThreadRef) : (State.abandonThread s t).mem = s.mem := by
  simp [State.abandonThread]
@[simp] theorem onQueueSlot_mem (s : State) (q : Nat) (f : QueueSlot → QueueSlot) : (State.onQueueSlot s q f).mem = s.mem :=
  rfl
@[simp] theorem writeQueueWord_keeps (s : State) (q w : Nat) (v : Word) (h : Memory.wf s.mem = true) :
    Memory.wf (State.writeQueueWord s q w v).mem = true := by
  simp [State.writeQueueWord, h]
@[simp] theorem noteEnded_keeps (s : State) (q : Nat) (h : Memory.wf s.mem = true) : Memory.wf (State.noteEnded s q).mem = true := by
  unfold State.noteEnded; split <;> simp [h]
@[simp] theorem noteKernelEnded_keeps (s : State) (k : Nat) (h : Memory.wf s.mem = true) :
    Memory.wf (State.noteKernelEnded s k).mem = true := by
  unfold State.noteKernelEnded; split <;> simp [h]
@[simp] theorem endKernel_keeps (s : State) (k status : Nat) (cancelled : Bool) (h : Memory.wf s.mem = true) :
    Memory.wf (State.endKernel s k status cancelled).mem = true := by
  unfold State.endKernel; split <;> simp [h]
@[simp] theorem faultBlock_keeps (s : State) (k : Nat) (status : Word) (h : Memory.wf s.mem = true) :
    Memory.wf (s.faultBlock k status).mem = true := by
  unfold State.faultBlock; split <;> simp [h]
@[simp] theorem endFaulted_keeps (s : State) (k status : Nat) (h : Memory.wf s.mem = true) :
    Memory.wf (s.endFaulted k status).mem = true :=
  endKernel_keeps _ _ _ _ (faultBlock_keeps _ _ _ h)
@[simp] theorem abortOne_keeps (s : State) (k status : Nat) (cancelled : Bool) (h : Memory.wf s.mem = true) :
    Memory.wf (State.abortOne s k status cancelled).mem = true := by
  unfold State.abortOne; dsimp only; repeat' split
  all_goals simp_all
@[simp] theorem abortCohort_keeps (s : State) (f : KState → Bool) (k status : Nat) (cancelled : Bool) (h : Memory.wf s.mem = true) :
    Memory.wf (s.abortCohort f k status cancelled).mem = true := by
  unfold State.abortCohort; dsimp only; repeat' split
  all_goals simp_all
@[simp] theorem abortKernel_keeps (s : State) (k status : Nat) (cancelled : Bool) (h : Memory.wf s.mem = true) :
    Memory.wf (State.abortKernel s k status cancelled).mem = true :=
  abortCohort_keeps _ _ _ _ _ h
@[simp] theorem cancelEntry_keeps (s : State) (k : Nat) (h : Memory.wf s.mem = true) :
    Memory.wf (State.cancelEntry s k).2.mem = true := by
  unfold State.cancelEntry; repeat' split
  all_goals simp [h]
@[simp] theorem cancelStatus_keeps (s : State) (p : Place) (h : Memory.wf s.mem = true) : Memory.wf (s.cancelStatus p).mem = true := by
  simp [State.cancelStatus, h]
@[simp] theorem cancelNamed_keeps (s : State) (asid : Nat) (sys : Bool) (p : Place) (h : Memory.wf s.mem = true) :
    Memory.wf (s.cancelNamed asid sys p).mem = true := by
  unfold State.cancelNamed
  split
  · next k x _ =>
    split
    · have hc := cancelEntry_keeps s k h
      split
      · next s1 e =>
        rw [e] at hc
        split
        · exact cancelStatus_keeps _ _ hc
        · exact hc
      · next s1 e => rw [e] at hc; exact hc
    · exact h
  · exact h
@[simp] theorem cancelAt_keeps (s : State) (asid : Nat) (sys : Bool) (p : Place) (h : Memory.wf s.mem = true) :
    Memory.wf (s.cancelAt asid sys p).mem = true := by
  simp [State.cancelAt, h]
@[simp] theorem cancelOne_keeps (s : State) (asid : Nat) (sys : Bool) (c : CascadeStep) (h : Memory.wf s.mem = true) :
    Memory.wf (s.cancelOne asid sys c).mem = true := by
  unfold State.cancelOne; repeat' split
  all_goals simp [h]
@[simp] theorem cascade_keeps (s : State) (asid : Nat) (sys : Bool) (at0 : Word) (p : Place) (h : Memory.wf s.mem = true) :
    Memory.wf (s.cascade asid sys at0 p).mem = true := by
  unfold State.cascade
  exact foldl_keeps _ _ _ (fun a x ha => cancelOne_keeps a asid sys x ha) h
@[simp] theorem endCancelled_keeps (s : State) (k : Nat) (h : Memory.wf s.mem = true) : Memory.wf (s.endCancelled k).mem = true := by
  unfold State.endCancelled
  split
  · dsimp only
    split
    · exact cascade_keeps _ _ _ _ _ (writeWordAt_keeps _ _ _ _ (cancelStatus_keeps _ _ h))
    · exact cancelStatus_keeps _ _ h
  · exact h
@[simp] theorem freeSlotsOf_mem (s : State) (k : Nat) (x : Kernel) : (State.freeSlotsOf s k x).mem = s.mem := by
  simp [State.freeSlotsOf]
@[simp] theorem checkDrained_keeps (s : State) (k : Nat) (h : Memory.wf s.mem = true) :
    Memory.wf (State.checkDrained s k).mem = true := by
  unfold State.checkDrained; split <;> simp [h]
@[simp] theorem settleTiles_mem (s : State) (t : ThreadRef) : (State.settleTiles s t).mem = s.mem := by
  simp [State.settleTiles]
@[simp] theorem settleThread_keeps (s : State) (t : ThreadRef) (h : Memory.wf s.mem = true) :
    Memory.wf (State.settleThread s t).mem = true := by
  unfold State.settleThread; dsimp only; repeat' split
  all_goals simp [h]
@[simp] theorem releaseCopies_mem (s : State) (t : ThreadRef) (q : Option Nat) : (State.releaseCopies s t q).mem = s.mem :=
  rfl
@[simp] theorem checkRetired_keeps (s : State) (k : Nat) (h : Memory.wf s.mem = true) :
    Memory.wf (State.checkRetired s k).mem = true := by
  unfold State.checkRetired; repeat' split
  all_goals simp [h]
@[simp] theorem fatal_keeps (s : State) (t : ThreadRef) (status cause : Nat) (pc value : Word) (h : Memory.wf s.mem = true) :
    Memory.wf (State.fatal s t status cause pc value).mem = true := by
  unfold State.fatal; split <;> simp [h]
@[simp] theorem trapAt_keeps (s : State) (t : ThreadRef) (code : Nat) (epc value : Word) (h : Memory.wf s.mem = true) :
    Memory.wf (State.trapAt s t code epc value).mem = true := by
  simp [State.trapAt, h]
theorem onRecorded_keeps (s : State) (t : ThreadRef) (f : State → State)
    (hf : ∀ a, Memory.wf a.mem = true → Memory.wf (f a).mem = true) (h : Memory.wf s.mem = true) :
    Memory.wf (s.onRecorded t f).mem = true := by
  unfold State.onRecorded
  dsimp only
  split
  · simpa using hf _ (by simpa using h)
  · simpa using hf _ (by simpa using h)
  · exact hf _ h
@[simp] theorem trapLate_keeps (s : State) (t : ThreadRef) (code : Nat) (epc value : Word) (h : Memory.wf s.mem = true) :
    Memory.wf (s.trapLate t code epc value).mem = true :=
  onRecorded_keeps _ _ _ (fun _ ha => trapAt_keeps _ _ _ _ _ ha) h
@[simp] theorem trap_keeps (s : State) (code : Nat) (value : Word) (h : Memory.wf s.mem = true) :
    Memory.wf (State.trap s code value).mem = true := by
  simp [State.trap, h]
@[simp] theorem illegalType_keeps (s : State) (h : Memory.wf s.mem = true) : Memory.wf (State.illegalType s).mem = true := by
  simp [State.illegalType, h]
@[simp] theorem debugTrap_keeps (s : State) (code : Nat) (value : Word) (h : Memory.wf s.mem = true) :
    Memory.wf (State.debugTrap s code value).mem = true := by
  simp [State.debugTrap, h]
@[simp] theorem endStep_keeps (s : State) (t : ThreadRef) (stepped : Word) (h : Memory.wf s.mem = true) :
    Memory.wf (State.endStep s t stepped).mem = true := by
  unfold State.endStep; dsimp only; repeat' split
  all_goals simp [h]

/-! ### Operations of Machine/Access.lean -/

@[simp] theorem scalarCheck_keeps (s : State) (ea : Word) (n : Nat) (write watchRead watchWrite : Bool) (denied : Place → Bool)
    (h : Memory.wf s.mem = true) : Memory.wf (s.scalarCheck ea n write watchRead watchWrite denied).state.mem = true := by
  have hr := reach_mem s s.agent (.thread s.cur false) true write false ea
  unfold State.scalarCheck
  split
  · simp [h]
  · split
    · next e => rw [e] at hr; dsimp only at hr; simp [hr, h]
    · next e => rw [e] at hr; dsimp only at hr; simp [hr, h]
    · next e =>
      rw [e] at hr; dsimp only at hr
      split
      · simp [hr, h]
      · split <;> simp [hr, h]
@[simp] theorem scalarAccess_keeps (s : State) (ea : Word) (n : Nat) (write watchRead watchWrite : Bool) (h : Memory.wf s.mem = true) :
    Memory.wf (s.scalarAccess ea n write watchRead watchWrite).state.mem = true :=
  scalarCheck_keeps _ _ _ _ _ _ _ h
@[simp] theorem noteOverflow_mem (s : State) (kernel : Option Nat) (pool : Nat) (full : Bool) :
    (State.noteOverflow s kernel pool full).mem = s.mem := by
  unfold State.noteOverflow; split <;> simp
@[simp] theorem waitBehind_mem (s : State) (tag : Nat) (k : Option Nat) : (s.waitBehind tag k).mem = s.mem := by
  simp [State.waitBehind]
@[simp] theorem draftWrite_keeps (s : State) (kernel : Option Nat) (tag l n x : Nat) (h : Memory.wf s.mem = true) :
    Memory.wf (State.draftWrite s kernel tag l n x).state.mem = true := by
  unfold State.draftWrite; dsimp only; repeat' split
  all_goals first
    | exact getD_map_keeps _ _ _ (fun x => abortKernel_keeps _ _ _ _ (by rw [waitBehind_mem]; exact h)) h
    | exact abortKernel_keeps _ _ _ _ (by rw [waitBehind_mem]; exact h)
    | simp [h]
@[simp] theorem wakePlace_mem (s : State) (p : Place) (n : Nat) : (s.wakePlace p n).mem = s.mem := by
  unfold State.wakePlace; split <;> simp
@[simp] theorem writeQuiet_keeps (s : State) (kernel : Option Nat) (p : Place) (n x : Nat) (h : Memory.wf s.mem = true) :
    Memory.wf (s.writeQuiet kernel p n x).state.mem = true := by
  unfold State.writeQuiet
  split
  · exact h
  · split
    · split
      · exact abortKernel_keeps _ _ _ _ (errorAt_keeps _ _ h)
      · exact draftWrite_keeps _ _ _ _ _ _ h
    · exact draftWrite_keeps _ _ _ _ _ _ h
    · exact storeBytes_keeps _ _ _ _ h
@[simp] theorem writePlace_keeps (s : State) (kernel : Option Nat) (p : Place) (n x : Nat) (h : Memory.wf s.mem = true) :
    Memory.wf (s.writePlace kernel p n x).state.mem = true := by
  have hq := writeQuiet_keeps s kernel p n x h
  unfold State.writePlace
  split
  · next e => rw [e] at hq; simpa using hq
  · exact hq
@[simp] theorem writeHome_mem (s : State) (e : CacheLine) : (s.writeHome e).mem = s.mem := by
  unfold State.writeHome; repeat' split
  all_goals simp
@[simp] theorem option_home_mem (s : State) (o : Option CacheLine) : ((o.map s.writeHome).getD s).mem = s.mem := by
  cases o <;> simp
@[simp] theorem diePut_mem (s : State) (die : Nat) (e : CacheLine) : (s.diePut die e).mem = s.mem := by
  simp [State.diePut]
@[simp] theorem coreBack_mem (s : State) (die : Nat) (e : CacheLine) : (s.coreBack die e).mem = s.mem := by
  unfold State.coreBack; repeat' split
  all_goals simp
@[simp] theorem dieRead_mem (s : State) (die line version : Nat) : (s.dieRead die line version).2.mem = s.mem := by
  unfold State.dieRead; split <;> simp
@[simp] theorem option_back_mem (s : State) (die : Nat) (o : Option CacheLine) : ((o.map fun e => s.coreBack die e).getD s).mem = s.mem := by
  cases o <;> simp
@[simp] theorem cacheLine_mem (s : State) (t : ThreadRef) (p : Place) (write : Bool) : (s.cacheLine t p write).2.2.mem = s.mem := by
  unfold State.cacheLine; dsimp only; split <;> simp
@[simp] theorem touchCaches_mem (s : State) (t : ThreadRef) (p : Place) : (State.touchCaches s t p).mem = s.mem := by
  have hc := cacheLine_mem s t p false
  unfold State.touchCaches
  split
  · rfl
  · split
    · next e => rw [e] at hc; exact hc
    · next e => rw [e] at hc; simpa using hc
    · next e => rw [e] at hc; simpa using hc
@[simp] theorem settleStore_mem (s : State) (t : ThreadRef) (p : Place) (n : Nat) : (s.settleStore t p n).mem = s.mem := by
  unfold State.settleStore; split <;> simp
@[simp] theorem mapCaches_mem (s : State) (f : List CacheLine → List CacheLine) : (s.mapCaches f).mem = s.mem := rfl
@[simp] theorem snoopLine_mem (s : State) (line : Nat) : (s.snoopLine line).mem = s.mem := by
  simp [State.snoopLine]
@[simp] theorem dropCached_mem (s : State) (l : Nat) : (State.dropCached s l).mem = s.mem := by
  unfold State.dropCached; split
  · rfl
  · simp
@[simp] theorem snoopRead_mem (s : State) (l : Nat) : (s.snoopRead l).mem = s.mem := by
  unfold State.snoopRead; split
  · rfl
  · simp
@[simp] theorem flush_mem (s : State) (t : ThreadRef) (scope : Nat) : (s.flush t scope).mem = s.mem := by
  unfold State.flush; dsimp only; split <;> simp
@[simp] theorem touchBank_mem (s : State) (l : Nat) : (State.touchBank s l).mem = s.mem := by
  simp [State.touchBank]

end Sys2Proof.Machine
end

