-- ==== Sys2Proof/Tests/Slice0.lean ====
section
/-! SUPPORT. The model's own tests. The words of `test_decode_…` are written out from the encoding tables of 03_encoding R63-R78, those of
`test_example_…` are the spec's own examples, and the other expected results come from the spec's worked examples. A theorem `witness_…`
shows states and operands that meet the hypotheses of the statements of its subject, each clause at a boundary of its range. -/

namespace Sys2Proof.Tests

open Sys2Proof Sys2Proof.Machine

/-! ### A word of every instruction -/

theorem test_decode_integer_1 :
    decodeWords 0x0470_E801 0 = .ok (.add 3#5 16#5 29#5 1#1) ∧
    decodeWords 0x0470_E821 0 = .ok (.sub 3#5 16#5 29#5 1#1) ∧
    decodeWords 0x0470_E840 0 = .ok (.and 3#5 16#5 29#5) ∧
    decodeWords 0x0789_B060 0 = .ok (.or 28#5 9#5 22#5) ∧
    decodeWords 0x0470_E880 0 = .ok (.xor 3#5 16#5 29#5) ∧
    decodeWords 0x0470_E8A1 0 = .ok (.sll 3#5 16#5 29#5 1#1) ∧
    decodeWords 0x0470_E8C1 0 = .ok (.srl 3#5 16#5 29#5 1#1) ∧
    decodeWords 0x0470_E8E1 0 = .ok (.sra 3#5 16#5 29#5 1#1) ∧
    decodeWords 0x0470_E900 0 = .ok (.slt 3#5 16#5 29#5) ∧
    decodeWords 0x0557_2120 0 = .ok (.sltu 10#5 23#5 4#5) ∧
    decodeWords 0x0470_E940 0 = .ok (.min 3#5 16#5 29#5) ∧
    decodeWords 0x0470_E960 0 = .ok (.max 3#5 16#5 29#5) ∧
    decodeWords 0x0557_2180 0 = .ok (.minu 10#5 23#5 4#5) ∧
    decodeWords 0x0557_21A0 0 = .ok (.maxu 10#5 23#5 4#5) :=
  ⟨rfl, rfl, rfl, rfl, rfl, rfl, rfl, rfl, rfl, rfl, rfl, rfl, rfl, rfl⟩

theorem test_decode_integer_2 :
    decodeWords 0x0470_E9C1 0 = .ok (.mul 3#5 16#5 29#5 1#1) ∧
    decodeWords 0x0557_21E0 0 = .ok (.mulh 10#5 23#5 4#5) ∧
    decodeWords 0x063E_5A00 0 = .ok (.mulhu 17#5 30#5 11#5) ∧
    decodeWords 0x0470_EA21 0 = .ok (.div 3#5 16#5 29#5 1#1) ∧
    decodeWords 0x0557_2241 0 = .ok (.divu 10#5 23#5 4#5 1#1) ∧
    decodeWords 0x0470_EA61 0 = .ok (.rem 3#5 16#5 29#5 1#1) ∧
    decodeWords 0x0557_2281 0 = .ok (.remu 10#5 23#5 4#5 1#1) ∧
    decodeWords 0x0470_02A1 0 = .ok (.clz 3#5 16#5 1#1) ∧
    decodeWords 0x0470_02C1 0 = .ok (.ctz 3#5 16#5 1#1) ∧
    decodeWords 0x0557_02E1 0 = .ok (.popc 10#5 23#5 1#1) ∧
    decodeWords 0x0470_EB01 0 = .ok (.rol 3#5 16#5 29#5 1#1) ∧
    decodeWords 0x0470_EB21 0 = .ok (.ror 3#5 16#5 29#5 1#1) ∧
    decodeWords 0x0557_2340 0 = .ok (.andn 10#5 23#5 4#5) ∧
    decodeWords 0x0957_00A4 0 = .ok (.addi 10#5 23#5 164#16) :=
  ⟨rfl, rfl, rfl, rfl, rfl, rfl, rfl, rfl, rfl, rfl, rfl, rfl, rfl, rfl⟩

theorem test_decode_integer_3 :
    decodeWords 0x0D57_00A4 0 = .ok (.andi 10#5 23#5 164#16) ∧
    decodeWords 0x1070_009D 0 = .ok (.ori 3#5 16#5 157#16) ∧
    decodeWords 0x1557_00A4 0 = .ok (.xori 10#5 23#5 164#16) ∧
    decodeWords 0x1957_00A4 0 = .ok (.slti 10#5 23#5 164#16) ∧
    decodeWords 0x1E3E_00AB 0 = .ok (.sltiu 17#5 30#5 171#16) ∧
    decodeWords 0x2157_0024 0 = .ok (.slli 10#5 23#5 36#6) ∧
    decodeWords 0x2157_4024 0 = .ok (.srli 10#5 23#5 36#6) ∧
    decodeWords 0x2157_8024 0 = .ok (.srai 10#5 23#5 36#6) ∧
    decodeWords 0x2157_C024 0 = .ok (.rori 10#5 23#5 36#6) ∧
    decodeWords 0x2460_0070 0 = .ok (.lui 3#5 112#16) ∧
    decodeWords 0x2A20_007E 0 = .ok (.addpc 17#5 126#16) ∧
    decodeWords 0xF460_0000 0x0000_0070 = .ok (.liw 3#5 112#32) ∧
    decodeWords 0xF461_0000 0x0000_0070 = .ok (.lih 3#5 112#32) :=
  ⟨rfl, rfl, rfl, rfl, rfl, rfl, rfl, rfl, rfl, rfl, rfl, rfl, rfl⟩

theorem test_decode_load_store :
    decodeWords 0x2F89_0096 0 = .ok (.lb 28#5 9#5 150#13) ∧
    decodeWords 0x2C70_209D 0 = .ok (.lbu 3#5 16#5 157#13) ∧
    decodeWords 0x2F89_4096 0 = .ok (.lh 28#5 9#5 150#13) ∧
    decodeWords 0x2C70_609D 0 = .ok (.lhu 3#5 16#5 157#13) ∧
    decodeWords 0x2F89_8096 0 = .ok (.lw 28#5 9#5 150#13) ∧
    decodeWords 0x2C70_A09D 0 = .ok (.lwu 3#5 16#5 157#13) ∧
    decodeWords 0x2F89_C096 0 = .ok (.ld 28#5 9#5 150#13) ∧
    decodeWords 0x3389_0096 0 = .ok (.sb 28#5 9#5 150#13) ∧
    decodeWords 0x3389_4096 0 = .ok (.sh 28#5 9#5 150#13) ∧
    decodeWords 0x3389_8096 0 = .ok (.sw 28#5 9#5 150#13) ∧
    decodeWords 0x3389_C096 0 = .ok (.sd 28#5 9#5 150#13) :=
  ⟨rfl, rfl, rfl, rfl, rfl, rfl, rfl, rfl, rfl, rfl, rfl⟩

theorem test_decode_control_1 :
    decodeWords 0x3470_009D 0 = .ok (.beq 3#5 16#5 157#13) ∧
    decodeWords 0x3470_209D 0 = .ok (.bne 3#5 16#5 157#13) ∧
    decodeWords 0x3470_409D 0 = .ok (.blt 3#5 16#5 157#13) ∧
    decodeWords 0x3470_609D 0 = .ok (.bge 3#5 16#5 157#13) ∧
    decodeWords 0x3557_80A4 0 = .ok (.bltu 10#5 23#5 164#13) ∧
    decodeWords 0x3557_A0A4 0 = .ok (.bgeu 10#5 23#5 164#13) ∧
    decodeWords 0x3404_C069 0 = .ok (.bp 4#3 105#13) ∧
    decodeWords 0x3403_E070 0 = .ok (.bnp 3#3 112#13) ∧
    decodeWords 0x3860_0070 0 = .ok (.jal 3#5 112#21) ∧
    decodeWords 0x3D57_00A4 0 = .ok (.jalr 10#5 23#5 164#16) ∧
    decodeWords 0x4057_2005 0 = .ok (.pcmp 2#3 23#5 4#5 5#3) ∧
    decodeWords 0x4047_2020 0 = .ok (.pand 2#3 7#3 4#3) ∧
    decodeWords 0x4061_2840 0 = .ok (.por 3#3 1#3 5#3) ∧
    decodeWords 0x4047_2060 0 = .ok (.pxor 2#3 7#3 4#3) :=
  ⟨rfl, rfl, rfl, rfl, rfl, rfl, rfl, rfl, rfl, rfl, rfl, rfl, rfl, rfl⟩

theorem test_decode_control_2 :
    decodeWords 0x4047_0080 0 = .ok (.pnot 2#3 7#3) ∧
    decodeWords 0x4070_E8A2 0 = .ok (.sel 3#5 16#5 29#5 2#3) ∧
    decodeWords 0x4340_00C0 0 = .ok (.pmovFromPredicates 26#5) ∧
    decodeWords 0x400C_00C1 0 = .ok (.pmovToPredicates 12#5) :=
  ⟨rfl, rfl, rfl, rfl⟩

theorem test_decode_float_1 :
    decodeWords 0x4557_200A 0 = .ok (.fadd 10#5 23#5 4#5 2#3 2#2) ∧
    decodeWords 0x4557_202A 0 = .ok (.fsub 10#5 23#5 4#5 2#3 2#2) ∧
    decodeWords 0x4557_204A 0 = .ok (.fmul 10#5 23#5 4#5 2#3 2#2) ∧
    decodeWords 0x4557_206A 0 = .ok (.fdiv 10#5 23#5 4#5 2#3 2#2) ∧
    decodeWords 0x463E_008D 0 = .ok (.fsqrt 17#5 30#5 3#3 1#2) ∧
    decodeWords 0x4557_20A1 0 = .ok (.fmin 10#5 23#5 4#5 1#2) ∧
    decodeWords 0x4557_20C1 0 = .ok (.fmax 10#5 23#5 4#5 1#2) ∧
    decodeWords 0x4470_E8E2 0 = .ok (.feq 3#5 16#5 29#5 2#2) ∧
    decodeWords 0x4470_E902 0 = .ok (.flt 3#5 16#5 29#5 2#2) ∧
    decodeWords 0x4470_E922 0 = .ok (.fle 3#5 16#5 29#5 2#2) ∧
    decodeWords 0x4705_0142 0 = .ok (.fclass 24#5 5#5 2#2) ∧
    decodeWords 0x463E_5961 0 = .ok (.fsgnj 17#5 30#5 11#5 1#2) ∧
    decodeWords 0x4705_9183 0 = .ok (.fsgnjn 24#5 5#5 18#5 3#2) ∧
    decodeWords 0x4705_91A3 0 = .ok (.fsgnjx 24#5 5#5 18#5 3#2) :=
  ⟨rfl, rfl, rfl, rfl, rfl, rfl, rfl, rfl, rfl, rfl, rfl, rfl, rfl, rfl⟩

theorem test_decode_float_2 :
    decodeWords 0x47EC_09DF 0 = .ok (.fcvtFi 31#5 12#5 1#2 7#3 3#2) ∧
    decodeWords 0x47EC_09FF 0 = .ok (.fcvtFn 31#5 12#5 1#2 7#3 3#2) ∧
    decodeWords 0x47EC_0A1F 0 = .ok (.fcvtIf 31#5 12#5 1#2 7#3 3#2) ∧
    decodeWords 0x47EC_0A3F 0 = .ok (.fcvtNf 31#5 12#5 1#2 7#3 3#2) ∧
    decodeWords 0x47EC_0A5F 0 = .ok (.fcvtFf 31#5 12#5 1#2 7#3 3#2) ∧
    decodeWords 0x4870_EAB1 0 = .ok (.fma 3#5 16#5 29#5 10#5 3#2 1#2) ∧
    decodeWords 0x4870_EAB5 0 = .ok (.fms 3#5 16#5 29#5 10#5 3#2 1#2) ∧
    decodeWords 0x4957_246B 0 = .ok (.fnma 10#5 23#5 4#5 17#5 2#2 3#2) ∧
    decodeWords 0x4957_246F 0 = .ok (.fnms 10#5 23#5 4#5 17#5 2#2 3#2) :=
  ⟨rfl, rfl, rfl, rfl, rfl, rfl, rfl, rfl, rfl⟩

theorem test_decode_system :
    decodeWords 0x4D40_007E 0 = .ok (.csrr 10#5 126#12) ∧
    decodeWords 0x4D57_110F 0 = .ok (.csrw 10#5 23#5 271#12) ∧
    decodeWords 0x4D57_2011 0 = .ok (.csrs 10#5 23#5 17#12) ∧
    decodeWords 0x4D57_3046 0 = .ok (.csrc 10#5 23#5 70#12) ∧
    decodeWords 0x4C00_405F 0 = .ok (.syscall 95#12) ∧
    decodeWords 0x4C00_5051 0 = .ok (.brk 81#12) ∧
    decodeWords 0x4C00_6000 0 = .ok .trapret ∧
    decodeWords 0x4C00_767E 0 = .ok (.fence 3#3 126#7) ∧
    decodeWords 0x4C00_8421 0 = .ok (.wait 2#3 0#3 4#3 1#3) ∧
    decodeWords 0x4C00_9000 0 = .ok .yield ∧
    decodeWords 0x4F05_A0B2 0 = .ok (.yieldw 24#5 5#5 178#12) ∧
    decodeWords 0x4C00_B000 0 = .ok .exit ∧
    decodeWords 0x4D40_C000 0 = .ok (.time 10#5) ∧
    decodeWords 0x4C00_D000 0 = .ok .isync :=
  ⟨rfl, rfl, rfl, rfl, rfl, rfl, rfl, rfl, rfl, rfl, rfl, rfl, rfl, rfl⟩

theorem test_decode_atomic_1 :
    decodeWords 0x5305_940C 0 = .ok (.amoadd 24#5 5#5 18#5 1#1 1#2 4#3) ∧
    decodeWords 0x5305_942C 0 = .ok (.amoand 24#5 5#5 18#5 1#1 1#2 4#3) ∧
    decodeWords 0x523E_5C4B 0 = .ok (.amoor 17#5 30#5 11#5 1#1 1#2 3#3) ∧
    decodeWords 0x5305_946C 0 = .ok (.amoxor 24#5 5#5 18#5 1#1 1#2 4#3) ∧
    decodeWords 0x5305_948C 0 = .ok (.amomin 24#5 5#5 18#5 1#1 1#2 4#3) ∧
    decodeWords 0x5305_94AC 0 = .ok (.amomax 24#5 5#5 18#5 1#1 1#2 4#3) ∧
    decodeWords 0x53EC_CCDA 0 = .ok (.amominu 31#5 12#5 25#5 1#1 3#2 2#3) ∧
    decodeWords 0x53EC_CCFA 0 = .ok (.amomaxu 31#5 12#5 25#5 1#1 3#2 2#3) ∧
    decodeWords 0x53EC_CD1A 0 = .ok (.amoswap 31#5 12#5 25#5 1#1 3#2 2#3) ∧
    decodeWords 0x5305_952C 0 = .ok (.amocas 24#5 5#5 18#5 1#1 1#2 4#3) ∧
    decodeWords 0x5070_0549 0 = .ok (.lda 3#5 16#5 1#1 1#3) ∧
    decodeWords 0x5011_F573 0 = .ok (.strel 17#5 30#5 1#1 3#3) ∧
    decodeWords 0x53EC_CD9A 0 = .ok (.amofadd 31#5 12#5 25#5 1#1 3#2 2#3) ∧
    decodeWords 0x57EC_C802 0 = .ok (.barinit 31#5 12#5 25#5 2#3) :=
  ⟨rfl, rfl, rfl, rfl, rfl, rfl, rfl, rfl, rfl, rfl, rfl, rfl, rfl, rfl⟩

theorem test_decode_atomic_2 :
    decodeWords 0x5705_0024 0 = .ok (.bararr 24#5 5#5 4#3) ∧
    decodeWords 0x54EC_C842 0 = .ok (.bartest 7#3 12#5 25#5 2#3) ∧
    decodeWords 0x57EC_0062 0 = .ok (.bardrop 31#5 12#5 2#3) ∧
    decodeWords 0x5425_9084 0 = .ok (.rdvput 1#3 5#5 18#5 4#3) ∧
    decodeWords 0x5705_10A4 0 = .ok (.rdvget 24#5 5#5 2#3 4#3) :=
  ⟨rfl, rfl, rfl, rfl, rfl⟩

theorem test_decode_queue :
    decodeWords 0x583E_1800 0 = .ok (.qbind 1#4 30#5 3#3) ∧
    decodeWords 0x59E0_0020 0 = .ok (.qunbind 15#4) ∧
    decodeWords 0x583E_0040 0 = .ok (.qpush 1#4 30#5) ∧
    decodeWords 0x5947_0060 0 = .ok (.qpop 10#5 7#4) ∧
    decodeWords 0x5905_1080 0 = .ok (.qpusht 8#4 5#5 2#3) ∧
    decodeWords 0x5A2E_18A0 0 = .ok (.qpopt 17#5 14#4 3#3) ∧
    decodeWords 0x5A2E_00C0 0 = .ok (.qstat 17#5 14#4) ∧
    decodeWords 0x5905_10E0 0 = .ok (.tqpush 8#4 5#5 2#3) ∧
    decodeWords 0x583E_1900 0 = .ok (.tqpop 1#4 30#5 3#3) :=
  ⟨rfl, rfl, rfl, rfl, rfl, rfl, rfl, rfl, rfl⟩

theorem test_decode_kernel :
    decodeWords 0x5F05_0000 0 = .ok (.launch 24#5 5#5) ∧
    decodeWords 0x5D40_3820 0 = .ok (.take 10#5 7#3) ∧
    decodeWords 0x5C11_7040 0 = .ok (.wmark 17#5 14#4) ∧
    decodeWords 0x5F00_2860 0 = .ok (.wmread 24#5 5#4) ∧
    decodeWords 0x5D57_0080 0 = .ok (.tdep 10#5 23#5) ∧
    decodeWords 0x5D57_20A0 0 = .ok (.tarm 10#5 23#5 4#5) ∧
    decodeWords 0x5E3E_00C0 0 = .ok (.kstat 17#5 30#5) ∧
    decodeWords 0x5C00_00E0 0 = .ok .kabort ∧
    decodeWords 0x5FEC_0100 0 = .ok (.kcancel 31#5 12#5) ∧
    decodeWords 0x5F68_0101 0 = .ok (.kcancelTcb 27#5 8#5) :=
  ⟨rfl, rfl, rfl, rfl, rfl, rfl, rfl, rfl, rfl, rfl⟩

theorem test_decode_full_empty :
    decodeWords 0x6070_009D 0 = .ok (.ldf 3#5 16#5 157#9) ∧
    decodeWords 0x63EC_12E6 0 = .ok (.ldfTry 31#5 12#5 1#3 230#9) ∧
    decodeWords 0x6157_20A4 0 = .ok (.ldfc 10#5 23#5 164#9) ∧
    decodeWords 0x60D3_32ED 0 = .ok (.ldfcTry 6#5 19#5 1#3 237#9) ∧
    decodeWords 0x6070_409D 0 = .ok (.stf 3#5 16#5 157#9) ∧
    decodeWords 0x63EC_52E6 0 = .ok (.stfTry 31#5 12#5 1#3 230#9) ∧
    decodeWords 0x6157_60A4 0 = .ok (.stfw 10#5 23#5 164#9) ∧
    decodeWords 0x60D3_72ED 0 = .ok (.stfwTry 6#5 19#5 1#3 237#9) ∧
    decodeWords 0x6011_807E 0 = .ok (.feset 17#5 126#9) ∧
    decodeWords 0x600D_94C7 0 = .ok (.fesetTry 13#5 2#3 199#9) ∧
    decodeWords 0x6011_A07E 0 = .ok (.feclr 17#5 126#9) ∧
    decodeWords 0x600D_B4C7 0 = .ok (.feclrTry 13#5 2#3 199#9) ∧
    decodeWords 0x6018_CAB2 0 = .ok (.fetest 24#5 5#3 178#9) :=
  ⟨rfl, rfl, rfl, rfl, rfl, rfl, rfl, rfl, rfl, rfl, rfl, rfl, rfl⟩

theorem test_decode_page :
    decodeWords 0x6418_2800 0 = .ok (.tlbinv 24#5 5#5) ∧
    decodeWords 0x6400_F820 0 = .ok (.tlbinva 31#5) ∧
    decodeWords 0x67EC_C840 0 = .ok (.pgprobe 31#5 12#5 25#5) ∧
    decodeWords 0x67EC_0060 0 = .ok (.migrate 31#5 12#5) :=
  ⟨rfl, rfl, rfl, rfl⟩

theorem test_decode_vector_memory :
    decodeWords 0x8140_0004 0 = .ok (.vcfg 10#5 4#3) ∧
    decodeWords 0x823E_582B 0 = .ok (.setvl 17#5 30#5 11#5 1#2 1#2 1#1) ∧
    decodeWords 0x8438_0140 0 = .ok (.vld 3#6 16#5 5#3) ∧
    decodeWords 0x84AB_8848 0 = .ok (.vlds 10#6 23#5 4#5 1#3) ∧
    decodeWords 0x84AB_C850 0 = .ok (.vldx 10#6 23#5 36#6 1#3) ∧
    decodeWords 0x851F_00DB 0 = .ok (.vlseg 17#6 30#5 3#3 3#3) ∧
    decodeWords 0x851F_00E0 0 = .ok (.vldff 17#6 30#5 3#3) ∧
    decodeWords 0x84AB_8868 0 = .ok (.vldp 10#6 23#5 4#5 1#3) ∧
    decodeWords 0x8838_0140 0 = .ok (.vst 3#6 16#5 5#3) ∧
    decodeWords 0x88AB_8848 0 = .ok (.vsts 10#6 23#5 4#5 1#3) ∧
    decodeWords 0x88AB_C850 0 = .ok (.vstx 10#6 23#5 36#6 1#3) ∧
    decodeWords 0x891F_00DD 0 = .ok (.vsseg 17#6 30#5 3#3 5#3) ∧
    decodeWords 0x88AB_8860 0 = .ok (.vstp 10#6 23#5 4#5 1#3) :=
  ⟨rfl, rfl, rfl, rfl, rfl, rfl, rfl, rfl, rfl, rfl, rfl, rfl, rfl⟩

theorem test_decode_vector_integer_1 :
    decodeWords 0x8CAD_E420 0 = .ok (.vadd 10#6 55#6 36#6 1#3) ∧
    decodeWords 0x8CAD_E421 0 = .ok (.vsub 10#6 55#6 36#6 1#3) ∧
    decodeWords 0x8CAD_E422 0 = .ok (.vmul 10#6 55#6 36#6 1#3) ∧
    decodeWords 0x8D1F_AB23 0 = .ok (.vmulh 17#6 62#6 43#6 1#3) ∧
    decodeWords 0x8CAD_E424 0 = .ok (.vmin 10#6 55#6 36#6 1#3) ∧
    decodeWords 0x8CAD_E425 0 = .ok (.vmax 10#6 55#6 36#6 1#3) ∧
    decodeWords 0x8D1F_AB26 0 = .ok (.vminu 17#6 62#6 43#6 1#3) ∧
    decodeWords 0x8D1F_AB27 0 = .ok (.vmaxu 17#6 62#6 43#6 1#3) ∧
    decodeWords 0x8CAD_E428 0 = .ok (.vand 10#6 55#6 36#6 1#3) ∧
    decodeWords 0x8C3C_1D49 0 = .ok (.vor 3#6 48#6 29#6 2#3) ∧
    decodeWords 0x8CAD_E42A 0 = .ok (.vxor 10#6 55#6 36#6 1#3) ∧
    decodeWords 0x8CAD_E42B 0 = .ok (.vsll 10#6 55#6 36#6 1#3) ∧
    decodeWords 0x8CAD_E42C 0 = .ok (.vsrl 10#6 55#6 36#6 1#3) ∧
    decodeWords 0x8CAD_E42D 0 = .ok (.vsra 10#6 55#6 36#6 1#3) :=
  ⟨rfl, rfl, rfl, rfl, rfl, rfl, rfl, rfl, rfl, rfl, rfl, rfl, rfl, rfl⟩

theorem test_decode_vector_integer_2 :
    decodeWords 0x8D1F_AB2E 0 = .ok (.vsadd 17#6 62#6 43#6 1#3) ∧
    decodeWords 0x8D1F_AB2F 0 = .ok (.vssub 17#6 62#6 43#6 1#3) ∧
    decodeWords 0x8D81_72F0 0 = .ok (.vsaddu 24#6 5#6 50#6 7#3) ∧
    decodeWords 0x8D81_72F1 0 = .ok (.vssubu 24#6 5#6 50#6 7#3) ∧
    decodeWords 0x8D1F_AB32 0 = .ok (.vmacc 17#6 62#6 43#6 1#3) ∧
    decodeWords 0x8D1F_AB33 0 = .ok (.vdot4 17#6 62#6 43#6 1#3) :=
  ⟨rfl, rfl, rfl, rfl, rfl, rfl⟩

theorem test_decode_vector_float :
    decodeWords 0x911F_AB20 0 = .ok (.vfadd 17#6 62#6 43#6 1#3) ∧
    decodeWords 0x911F_AB21 0 = .ok (.vfsub 17#6 62#6 43#6 1#3) ∧
    decodeWords 0x911F_AB22 0 = .ok (.vfmul 17#6 62#6 43#6 1#3) ∧
    decodeWords 0x90AD_E423 0 = .ok (.vfma 10#6 55#6 36#6 1#3) ∧
    decodeWords 0x90AD_E424 0 = .ok (.vfms 10#6 55#6 36#6 1#3) ∧
    decodeWords 0x911F_AB25 0 = .ok (.vfnma 17#6 62#6 43#6 1#3) ∧
    decodeWords 0x911F_AB26 0 = .ok (.vfdiv 17#6 62#6 43#6 1#3) ∧
    decodeWords 0x9181_4047 0 = .ok (.vfsqrt 24#6 5#6 2#3) ∧
    decodeWords 0x911F_AB28 0 = .ok (.vfmin 17#6 62#6 43#6 1#3) ∧
    decodeWords 0x911F_AB29 0 = .ok (.vfmax 17#6 62#6 43#6 1#3) ∧
    decodeWords 0x9181_72EA 0 = .ok (.vfsgnj 24#6 5#6 50#6 7#3) ∧
    decodeWords 0x91F3_39CB 0 = .ok (.vfsgnjn 31#6 12#6 57#6 6#3) :=
  ⟨rfl, rfl, rfl, rfl, rfl, rfl, rfl, rfl, rfl, rfl, rfl, rfl⟩

theorem test_decode_vector_mask_1 :
    decodeWords 0x96F9_11C0 0 = .ok (.vcmp 5#3 7#3 36#6 17#6 6#3) ∧
    decodeWords 0x95F9_11C1 0 = .ok (.vfeq 3#3 7#3 36#6 17#6 6#3) ∧
    decodeWords 0x9421_C402 0 = .ok (.mand 2#3 7#3 4#3) ∧
    decodeWords 0x9430_4503 0 = .ok (.mor 3#3 1#3 5#3) ∧
    decodeWords 0x9421_C404 0 = .ok (.mxor 2#3 7#3 4#3) ∧
    decodeWords 0x9411_8305 0 = .ok (.mandn 1#3 6#3 3#3) ∧
    decodeWords 0x9511_8066 0 = .ok (.mpopc 17#5 6#3 3#3) ∧
    decodeWords 0x9581_4047 0 = .ok (.mfirst 24#5 5#3 2#3) ∧
    decodeWords 0x9421_C128 0 = .ok (.mset 2#3 7#3 1#2 1#3) ∧
    decodeWords 0x9581_72E9 0 = .ok (.vmerge 24#6 5#6 50#6 7#3) ∧
    decodeWords 0x983C_00A0 0 = .ok (.vmv 3#6 48#6 5#3) ∧
    decodeWords 0x98A5_C081 0 = .ok (.vmvs 10#6 23#5 4#3) ∧
    decodeWords 0x98AD_C402 0 = .ok (.vext 10#5 55#6 4#5) ∧
    decodeWords 0x98A5_C403 0 = .ok (.vins 10#6 23#5 4#5) :=
  ⟨rfl, rfl, rfl, rfl, rfl, rfl, rfl, rfl, rfl, rfl, rfl, rfl, rfl, rfl⟩

theorem test_decode_vector_mask_2 :
    decodeWords 0x991F_8B24 0 = .ok (.vslup 17#6 62#6 11#5 1#3) ∧
    decodeWords 0x991F_8B25 0 = .ok (.vsldn 17#6 62#6 11#5 1#3) ∧
    decodeWords 0x991F_AB26 0 = .ok (.vgath 17#6 62#6 43#6 1#3) ∧
    decodeWords 0x991F_8067 0 = .ok (.vcomp 17#6 62#6 3#3) ∧
    decodeWords 0x9911_8068 0 = .ok (.viota 17#6 6#3 3#3) :=
  ⟨rfl, rfl, rfl, rfl, rfl⟩

theorem test_decode_vector_reduce :
    decodeWords 0x9DF3_39C0 0 = .ok (.vredsum 31#6 12#6 57#6 6#3) ∧
    decodeWords 0x9DF3_39C1 0 = .ok (.vredmin 31#6 12#6 57#6 6#3) ∧
    decodeWords 0x9DF3_39C2 0 = .ok (.vredmax 31#6 12#6 57#6 6#3) ∧
    decodeWords 0x9DF3_39C3 0 = .ok (.vredand 31#6 12#6 57#6 6#3) ∧
    decodeWords 0x9D81_72E4 0 = .ok (.vredor 24#6 5#6 50#6 7#3) ∧
    decodeWords 0x9E64_C1A5 0 = .ok (.vfredsum 38#6 19#6 1#6 5#3) ∧
    decodeWords 0x9E64_C1A6 0 = .ok (.vfredmax 38#6 19#6 1#6 5#3) ∧
    decodeWords 0x9E64_C1A7 0 = .ok (.vfredmin 38#6 19#6 1#6 5#3) ∧
    decodeWords 0xA0AD_CB20 0 = .ok (.vcvt 10#6 55#6 11#5 1#3) ∧
    decodeWords 0xA0AD_C901 0 = .ok (.vqnt 10#6 55#6 9#5) ∧
    decodeWords 0xA11F_8A22 0 = .ok (.vdqnt 17#6 62#6 10#5 1#3) ∧
    decodeWords 0xA0AD_C083 0 = .ok (.vrot 10#6 55#6 4#3) ∧
    decodeWords 0xA0AD_C424 0 = .ok (.vplx 10#6 55#6 4#3 1#3) ∧
    decodeWords 0xA0AD_C425 0 = .ok (.vpli 10#6 55#6 4#3 1#3) :=
  ⟨rfl, rfl, rfl, rfl, rfl, rfl, rfl, rfl, rfl, rfl, rfl, rfl, rfl, rfl⟩

theorem test_decode_vector_long :
    decodeWords 0xF2D6_8784 0x6000_0121 = .ok (.vslupImm 45#6 26#6 7#5 4#3 289#10) ∧
    decodeWords 0xF2D6_8785 0x6000_0121 = .ok (.vsldnImm 45#6 26#6 7#5 4#3 289#10) ∧
    decodeWords 0xF02B_DC2D 0x11BD_0000 = .ok (.lvLongForm 2#6 47#6 28#6 1#3 13#5 0#3 2#2 445#11 0#1 0#5) :=
  ⟨rfl, rfl, rfl⟩

theorem test_decode_tile_1 :
    decodeWords 0xC2B7_90E0 0 = .ok (.mopa 10#4 55#6 36#6 1#3 6#3) ∧
    decodeWords 0xC2B7_90E1 0 = .ok (.mops 10#4 55#6 36#6 1#3 6#3) ∧
    decodeWords 0xC07E_ACD2 0 = .ok (.mopan 1#4 62#6 43#6 1#3 5#3) ∧
    decodeWords 0xC040_0003 0 = .ok (.mprom 1#4) ∧
    decodeWords 0xC040_0004 0 = .ok (.mzero 1#4) ∧
    decodeWords 0xFC7E_ACD0 0x4000_0000 = .ok (.mma16 1#4 62#6 43#6 1#3 5#3 2#3) ∧
    decodeWords 0xFE05_CBC1 0x3326_0000 = .ok (.mma16s 8#4 5#6 50#6 7#3 4#3 1#3 38#6 19#6) ∧
    decodeWords 0xC6B7_1010 0 = .ok (.trdv 10#4 55#6 4#4 1#3) ∧
    decodeWords 0xC6B7_1081 0 = .ok (.trdc 10#4 55#6 4#4 1#3) ∧
    decodeWords 0xC6B7_1012 0 = .ok (.twrv 10#4 55#6 4#4 1#3) ∧
    decodeWords 0xC6B7_1083 0 = .ok (.twrc 10#4 55#6 4#4 1#3) ∧
    decodeWords 0xC4D0_7574 0 = .ok (.tst 3#4 16#5 29#5 2#3 7#3) ∧
    decodeWords 0xC697_90E5 0 = .ok (.tstx 10#4 23#5 36#6 1#3 6#3) ∧
    decodeWords 0xC4D0_7576 0 = .ok (.tld 3#4 16#5 29#5 2#3 7#3) :=
  ⟨rfl, rfl, rfl, rfl, rfl, rfl, rfl, rfl, rfl, rfl, rfl, rfl, rfl, rfl⟩

theorem test_decode_tile_2 :
    decodeWords 0xCA05_0000 0 = .ok (.talloc 8#4 5#3) ∧
    decodeWords 0xC840_0001 0 = .ok (.tfree 1#4) ∧
    decodeWords 0xC85E_0002 0 = .ok (.tsave 1#4 30#5) ∧
    decodeWords 0xC85E_0003 0 = .ok (.trest 1#4 30#5) :=
  ⟨rfl, rfl, rfl, rfl⟩

theorem test_decode_engine :
    decodeWords 0xF807_0EA8 0xE280_0000 = .ok (.cpy 3#5 16#5 29#5 10#5 1#1 1#1 17#5 1#2) ∧
    decodeWords 0xF855_7244 0xF080_0000 = .ok (.cpyx 10#5 23#5 4#5 17#5 1#1 1#1 24#5 1#2) ∧
    decodeWords 0xF895_7244 0xF0C8_0000 = .ok (.cpym 10#5 23#5 4#5 17#5 1#1 1#1 24#5 1#2 18#5) ∧
    decodeWords 0xF8C6_0800 0x0000_0001 = .ok (.pub 3#5 16#5 1#3) ∧
    decodeWords 0xF907_0000 0x00A0_0000 = .ok (.dec 3#5 16#5 1#2 1#1) ∧
    decodeWords 0xF963_E000 0x0000_0000 = .ok (.decst 17#5 30#5) :=
  ⟨rfl, rfl, rfl, rfl, rfl, rfl⟩

/-- A replicate index without a replicate size decodes to nothing (R77, R206), also beside an immediate. -/
theorem test_decode_replicate_index :
    decodeWords 0xF010_8400 0x0803_0000 = .ok (.lvLongForm 1#6 2#6 4#6 0#3 0#5 0#3 1#2 3#11 0#1 0#5) ∧
    decodeWords 0xF010_8400 0x0003_0000 = .error .unassigned ∧ decodeWords 0xF2D6_8784 0x6001_0121 = .error .reservedField :=
  ⟨rfl, rfl, rfl⟩

/-! ### The spec's encoding examples -/

theorem test_example_integer :
    decodeWords 0x04853000 0 = .ok (.add 4 5 6 0) ∧
    decodeWords 0x058D7021 0 = .ok (.sub 12 13 14 1) ∧
    decodeWords 0x20A58003 0 = .ok (.srai 5 5 3) ∧
    decodeWords 0x24C0FFFE 0 = .ok (.lui 6 0xFFFE) ∧
    decodeWords 0xF4A00000 0x12345678 = .ok (.liw 5 0x12345678) :=
  ⟨rfl, rfl, rfl, rfl, rfl⟩

theorem test_example_memory_control :
    decodeWords 0x2CE2DFF0 0 = .ok (.ld 7 2 0x1FF0) ∧
    decodeWords 0x3282C008 0 = .ok (.sd 20 2 8) ∧
    decodeWords 0x3403DFFB 0 = .ok (.bp 3 0x1FFB) ∧
    decodeWords 0x08000000 0 = .ok (.addi 0 0 0) :=
  ⟨rfl, rfl, rfl, rfl⟩

theorem test_example_float :
    decodeWords 0x495B4A88 0 = .ok (.fnma 10 27 9 10 0 0) ∧
    decodeWords 0x488531E0 0 = .ok (.fma 4 5 6 7 2 0) ∧
    decodeWords 0x4485307D 0 = .ok (.fdiv 4 5 6 7 1) ∧
    decodeWords 0x45090A04 0 = .ok (.fcvtIf 8 9 1 1 0) ∧
    decodeWords 0x44E70243 0 = .ok (.fcvtFf 7 7 0 0 3) :=
  ⟨rfl, rfl, rfl, rfl, rfl⟩

theorem test_example_system :
    decodeWords 0x4C008FC7 0 = .ok (.wait 7 7 0 7) ∧
    decodeWords 0x4C800000 0 = .ok (.csrr 4 0) ∧
    decodeWords 0x4C051004 0 = .ok (.csrw 0 5 4) ∧
    decodeWords 0x4CE83006 0 = .ok (.csrc 7 8 6) ∧
    decodeWords 0x4C007638 0 = .ok (.fence 3 0x38) ∧
    decodeWords 0x4C00727F 0 = .ok (.fence 1 0x7F) ∧
    decodeWords 0x4D25A010 0 = .ok (.yieldw 9 5 16) ∧
    decodeWords 0x4D80C000 0 = .ok (.time 12) :=
  ⟨rfl, rfl, rfl, rfl, rfl, rfl, rfl, rfl⟩

theorem test_example_atomic :
    decodeWords 0x50853409 0 = .ok (.amoadd 4 5 6 1 1 1) ∧
    decodeWords 0x50A6054B 0 = .ok (.lda 5 6 1 3) ∧
    decodeWords 0x50083971 0 = .ok (.strel 8 7 0 1) ∧
    decodeWords 0x5085353C 0 = .ok (.amocas 4 5 6 1 3 4) ∧
    decodeWords 0x512A5982 0 = .ok (.amofadd 9 10 11 0 0 2) ∧
    decodeWords 0x55A57003 0 = .ok (.barinit 13 5 14 3) ∧
    decodeWords 0x55850061 0 = .ok (.bardrop 12 5 1) ∧
    decodeWords 0x54263883 0 = .ok (.rdvput 1 6 7 3) ∧
    decodeWords 0x550608A3 0 = .ok (.rdvget 8 6 1 3) :=
  ⟨rfl, rfl, rfl, rfl, rfl, rfl, rfl, rfl, rfl⟩

theorem test_example_queue_kernel :
    decodeWords 0x58650800 0 = .ok (.qbind 3 5 1) ∧
    decodeWords 0x59810060 0 = .ok (.qpop 12 1) ∧
    decodeWords 0x59A300C0 0 = .ok (.qstat 13 3) ∧
    decodeWords 0x584618E0 0 = .ok (.tqpush 2 6 3) ∧
    decodeWords 0x58871100 0 = .ok (.tqpop 4 7 2) ∧
    decodeWords 0x5D840000 0 = .ok (.launch 12 4) ∧
    decodeWords 0x5DA00820 0 = .ok (.take 13 1) ∧
    decodeWords 0x5C0E1840 0 = .ok (.wmark 14 3) ∧
    decodeWords 0x5DE01860 0 = .ok (.wmread 15 3) ∧
    decodeWords 0x5E110080 0 = .ok (.tdep 16 17) ∧
    decodeWords 0x5E53A0A0 0 = .ok (.tarm 18 19 20) ∧
    decodeWords 0x5CA900C0 0 = .ok (.kstat 5 9) ∧
    decodeWords 0x5C0000E0 0 = .ok (.kabort) ∧
    decodeWords 0x5C890101 0 = .ok (.kcancelTcb 4 9) :=
  ⟨rfl, rfl, rfl, rfl, rfl, rfl, rfl, rfl, rfl, rfl, rfl, rfl, rfl, rfl⟩

theorem test_example_full_empty_page :
    decodeWords 0x601C2008 0 = .ok (.ldfc 0 28 8) ∧
    decodeWords 0x60853402 0 = .ok (.ldfcTry 4 5 2 2) ∧
    decodeWords 0x60C74000 0 = .ok (.stf 6 7 0) ∧
    decodeWords 0x6005C200 0 = .ok (.fetest 5 1 0) ∧
    decodeWords 0x64053000 0 = .ok (.tlbinv 5 6) ∧
    decodeWords 0x64003020 0 = .ok (.tlbinva 6) ∧
    decodeWords 0x65853040 0 = .ok (.pgprobe 12 5 6) ∧
    decodeWords 0x65A70060 0 = .ok (.migrate 13 7) :=
  ⟨rfl, rfl, rfl, rfl, rfl, rfl, rfl, rfl⟩

theorem test_example_vector :
    decodeWords 0x800B4028 0 = .ok (.setvl 0 11 8 1 0 0) ∧
    decodeWords 0x94100308 0 = .ok (.mset 1 0 3 0) ∧
    decodeWords 0x98001B03 0 = .ok (.vins 0 0 27) ∧
    decodeWords 0x81A00002 0 = .ok (.vcfg 13 2) ∧
    decodeWords 0x84328C08 0 = .ok (.vlds 3 5 6 0) ∧
    decodeWords 0x88439290 0 = .ok (.vstx 4 7 9 2) ∧
    decodeWords 0x8482001A 0 = .ok (.vlseg 8 4 0 2) ∧
    decodeWords 0x90608323 0 = .ok (.vfma 6 2 3 1) ∧
    decodeWords 0x95210500 0 = .ok (.vcmp 2 2 4 5 0) ∧
    decodeWords 0xA0A11501 0 = .ok (.vqnt 10 4 21) ∧
    decodeWords 0xF0108400 0x08030000 = .ok (.lvLongForm 1 2 4 0 0 0 1 3 0 0) ∧
    decodeWords 0xF0518002 0x2000A400 = .ok (.lvLongForm 5 6 0 0 2 1 0 0 1 9) ∧
    decodeWords 0xF0720005 0x8000A400 = .ok (.lvLongForm 7 8 0 0 5 4 0 0 1 9) ∧
    decodeWords 0xF0108004 0x60000007 = .ok (.vslupImm 1 2 0 0 7) :=
  ⟨rfl, rfl, rfl, rfl, rfl, rfl, rfl, rfl, rfl, rfl, rfl, rfl, rfl, rfl⟩

theorem test_example_tile_engine :
    decodeWords 0xC0000004 0 = .ok (.mzero 0) ∧
    decodeWords 0xFC0040A0 0x60000000 = .ok (.mma16 0 0 16 1 2 3) ∧
    decodeWords 0xF8A11900 0x004C0000 = .ok (.cpym 16 17 18 0 0 0 0 0 19) ∧
    decodeWords 0xC0C414A0 0 = .ok (.mopa 3 4 5 1 2) ∧
    decodeWords 0xFC1081C1 0xB8620000 = .ok (.mma16s 0 16 32 3 4 5 48 49) ∧
    decodeWords 0xC4471430 0 = .ok (.trdv 1 7 5 3) ∧
    decodeWords 0xC48518A4 0 = .ok (.tst 2 5 6 1 2) ∧
    decodeWords 0xCA420000 0 = .ok (.talloc 9 2) ∧
    decodeWords 0xF808531C 0x92000000 = .ok (.cpy 4 5 6 7 1 0 9 0) ∧
    decodeWords 0xF8C80300 1 = .ok (.pub 4 6 1) ∧
    decodeWords 0xF9109000 0x00200000 = .ok (.dec 8 9 0 1) ∧
    decodeWords 0xF954B000 0 = .ok (.decst 10 11) :=
  ⟨rfl, rfl, rfl, rfl, rfl, rfl, rfl, rfl, rfl, rfl, rfl, rfl⟩

/-- The spec's examples of words that are no instruction (03_encoding R77, R78 and the encoding examples of the chapters). -/
theorem test_rejects :
    decodeWords 0x04853041 0 = .error .reservedField ∧
    decodeWords 0x04853141 0 = .error .reservedField ∧
    decodeWords 0xCA4A0000 0 = .error .reservedField ∧
    decodeWords 0x6005D200 0 = .error .reservedField ∧
    decodeWords 0x50A6055B 0 = .error .reservedField ∧
    decodeWords 0x5DA08820 0 = .error .reservedField ∧
    decodeWords 0x59910060 0 = .error .reservedField ∧
    decodeWords 0x55850029 0 = .error .reservedField ∧
    decodeWords 0x04853360 0 = .error .unassigned ∧
    decodeWords 0x97A10500 0 = .error .unassigned ∧
    decodeWords 0x55850025 0 = .error .unassigned ∧
    decodeWords 0x64000080 0 = .error .unassigned :=
  ⟨rfl, rfl, rfl, rfl, rfl, rfl, rfl, rfl, rfl, rfl, rfl, rfl⟩

/-- Fewer bytes than an instruction has are refused by name. -/
theorem test_decode_short : decodeBytes [0#8, 0#8, 0#8] = .error .tooShort ∧ decodeBytes (leBytes 4 0xF4A00000) = .error .tooShort ∧
    decodeBytes (leBytes 8 0x12345678F4A00000) = .ok (.liw 5 0x12345678, 8) := ⟨rfl, rfl, rfl⟩

/-! ### Well-formedness: for each check a term that it refuses (03_encoding R64-R78) -/

/-- Comparison, rounding, CSR, format and other codes that are not assigned. -/
theorem test_wf_codes :
    Instr.wellFormed (.pcmp 1 2 3 6) = false ∧ Instr.wellFormed (.fadd 1 2 3 5 0) = false ∧ Instr.wellFormed (.fsub 1 2 3 5 0) = false ∧
    Instr.wellFormed (.fmul 1 2 3 6 0) = false ∧ Instr.wellFormed (.fdiv 1 2 3 6 0) = false ∧ Instr.wellFormed (.fsqrt 1 2 5 0) = false ∧
    Instr.wellFormed (.fcvtFi 1 2 0 5 0) = false ∧ Instr.wellFormed (.fcvtFn 1 2 0 5 0) = false ∧ Instr.wellFormed (.fcvtIf 1 2 0 5 0) = false ∧
    Instr.wellFormed (.fcvtNf 1 2 0 5 0) = false ∧ Instr.wellFormed (.fcvtFf 1 2 0 6 0) = false ∧ Instr.wellFormed (.csrr 1 0x007) = false ∧
    Instr.wellFormed (.csrw 1 2 0x019) = false ∧ Instr.wellFormed (.csrs 1 2 0x110) = false ∧ Instr.wellFormed (.csrc 1 2 0xFFF) = false ∧
    Instr.wellFormed (.vcfg 1 5) = false ∧ Instr.wellFormed (.setvl 1 2 31 0 0 0) = false ∧ Instr.wellFormed (.vlseg 1 2 0 0) = false ∧
    Instr.wellFormed (.vsseg 1 2 0 0) = false ∧ Instr.wellFormed (.vcmp 6 1 2 3 0) = false ∧ Instr.wellFormed (.vfeq 4 1 2 3 0) = false ∧
    Instr.wellFormed (.vcvt 1 2 31 0) = false ∧ Instr.wellFormed (.vqnt 1 2 31) = false ∧ Instr.wellFormed (.vdqnt 1 2 31 0) = false ∧
    Instr.wellFormed (.cpy 1 2 3 4 0 0 5 2) = false ∧ Instr.wellFormed (.cpyx 1 2 3 4 0 0 5 2) = false ∧
    Instr.wellFormed (.cpym 1 2 3 4 0 0 5 3 6) = false ∧ Instr.wellFormed (.dec 1 2 2 0) = false := by decide

/-- A scope of 5. -/
theorem test_wf_scopes :
    Instr.wellFormed (.fence 5 0) = false ∧ Instr.wellFormed (.pub 1 2 5) = false ∧ Instr.wellFormed (.lda 1 2 0 5) = false ∧
    Instr.wellFormed (.strel 1 2 0 5) = false ∧ Instr.wellFormed (.amoadd 1 2 3 0 0 5) = false ∧ Instr.wellFormed (.amoand 1 2 3 0 0 5) = false ∧
    Instr.wellFormed (.amoor 1 2 3 0 0 5) = false ∧ Instr.wellFormed (.amoxor 1 2 3 0 0 5) = false ∧
    Instr.wellFormed (.amomin 1 2 3 0 0 5) = false ∧ Instr.wellFormed (.amomax 1 2 3 0 0 5) = false ∧
    Instr.wellFormed (.amominu 1 2 3 0 0 5) = false ∧ Instr.wellFormed (.amomaxu 1 2 3 0 0 5) = false ∧
    Instr.wellFormed (.amoswap 1 2 3 0 0 5) = false ∧ Instr.wellFormed (.amocas 1 2 3 0 0 5) = false ∧
    Instr.wellFormed (.amofadd 1 2 3 0 0 5) = false ∧ Instr.wellFormed (.barinit 1 2 3 5) = false ∧ Instr.wellFormed (.bararr 1 2 5) = false ∧
    Instr.wellFormed (.bartest 1 2 3 5) = false ∧ Instr.wellFormed (.bardrop 1 2 5) = false ∧ Instr.wellFormed (.rdvput 1 2 3 5) = false ∧
    Instr.wellFormed (.rdvget 1 2 3 5) = false := by decide

/-- LV: no such class, a base instruction that takes no modifier, a replicate size or a register beside a scalar, a scalar register
or a replicate index without one (03_encoding R67, 08_vector_ops R206). -/
theorem test_wf_long_form :
    Instr.wellFormed (.lvLongForm 1 2 3 0 0 5 0 0 0 0) = false ∧ Instr.wellFormed (.lvLongForm 1 2 3 0 20 0 0 0 0 0) = false ∧
    Instr.wellFormed (.lvLongForm 1 2 3 0 7 1 0 0 0 0) = false ∧ Instr.wellFormed (.lvLongForm 48 2 3 0 0 2 0 0 0 0) = false ∧
    Instr.wellFormed (.lvLongForm 1 2 3 0 5 3 0 0 0 0) = false ∧ Instr.wellFormed (.lvLongForm 1 2 3 0 8 4 0 0 0 0) = false ∧
    Instr.wellFormed (.lvLongForm 1 2 0 0 0 0 1 0 1 9) = false ∧ Instr.wellFormed (.lvLongForm 1 2 3 0 0 0 0 0 1 9) = false ∧
    Instr.wellFormed (.lvLongForm 1 2 3 0 0 0 0 0 0 9) = false ∧ Instr.wellFormed (.lvLongForm 1 2 3 0 0 0 0 1 0 0) = false ∧
    Instr.wellFormed (.lvLongForm 1 2 3 0 0 0 1 2047 0 0) = true ∧ Instr.wellFormed (.lvLongForm 1 2 0 0 0 0 0 0 1 9) = true := by decide

/-! ### States for the tests -/

/-- The machine right after reset, its thread with a handler at 0x1000 and changed as said. -/
def machine (f : Thread → Thread) : State := { State.reset with ctx := f { State.reset.ctx with tvec := 0x1000#64 } }

/-- The machine with a value in a register. -/
def withG (r : Nat) (v : Word) : State := machine fun t => t.setG r v

/-- The place of a near location, and an outstanding load and store of 8 bytes there. -/
def near (l : Nat) : Place := { loc := l, cached := true, direct := true }
def aLoad : PendingLoad := { seq := 0, rd := 7, kind := .load 6, place := near 0x40, bytes := 8 }
def aStore : PendingStore := { seq := 0, place := near 0x40, bytes := 8, value := 1 }

/-- What the running thread's scalar access reaches. -/
def reached (s : State) (write : Bool) (ea : Word) : Reach := (s.reach s.agent (.thread s.cur false) true write false ea).1

/-- The machine with 8-byte words in memory, each at its location. -/
def withWords (ws : List (Nat × Nat)) (f : Thread → Thread) : State :=
  { machine f with mem := ws.foldl (fun m w => Memory.writeNat w.1 w.2 8 m) [] }

/-- The machine with kernel 0 in the state and with the fields said. -/
def withKernel (x : Kernel) (f : Thread → Thread) : State := { machine f with kernels := [(0, x)] }

/-- What the words of a task control block's access end with. -/
def usesBlock : Checked → Option Place
  | .ok p _ => some p
  | .stop _ => none

/-- The machine with queue register 1 bound as said. -/
def bound (b : BitVec 28) (f : Thread → Thread) : State := machine fun t => { f t with queues := (f t).queues.set 1 b }

/-- The machine with an engine command of its thread, and the command. -/
def withCommand (e : EngineCmd) (f : Thread → Thread) : State := (machine f).onCluster 0 fun c => { c with engine := [e] }
def aCopy : EngineCmd := { id := 0, slot := 0, kind := .cpy, owner := ⟨0, 0, 0⟩, dst := 0xFE00000000000100#64, src := 0x40#64, shape := 0x100000010#64 }

/-- A task queue 5 of 32 records on die 0, with word 4 and HEAD and TAIL as said: the table at 0x1000000, the ring at 0x10000 of address
space 0. -/
def queueWords (w4 head tail : Nat) : List (Nat × Nat) :=
  [(0x1000140, 0x10000), (0x1000148, 32), (0x1000150, head), (0x1000158, tail), (0x1000160, w4)]
def withQueue (w4 head tail : Nat) (slots : List (Nat × QueueSlot)) (f : Thread → Thread) : State :=
  let s := withWords (queueWords w4 head tail) f
  ({ s with pkg := { s.pkg with qtbase := 0x1000000#64 } }).onDie 0 fun d => { d with slots := slots }

/-- Address space 1 with one page, 0x10000, mapped by the leaf given at 0x30008; its table of address spaces is at 0. -/
def withPage (leaf : Nat) (f : Thread → Thread) : State :=
  withWords [(8, 0x10001), (0x10000, 0x20001), (0x20000, 0x30001), (0x30008, leaf)] f

/-- A leaf of a page of the far tier that may be read and written, and a migration of that page. -/
def farLeaf : Nat := 0x20000000173
def aMove : Migration := { asid := 1, va := 0x10000, leafAt := 0x30008, old := 0x20000000000, new := 0x40000, leaf := 0x20000000173#64 }

/-- The machine with migrations in engine 0. -/
def withMoves (l : List Migration) (f : Thread → Thread) : State :=
  let s := withPage farLeaf f
  { s with pkg := { s.pkg with migrations := [(0, l)] } }

/-- A thread whose type is I8 with 64 elements. -/
def typed (t : Thread) : Thread := { t with vtype := 0x400#64, vl := 64#64, vreq := 64#64 }

/-- The machine with a command of its thread in a queue of core 0. -/
def withVector (c : VCmd) (f : Thread → Thread) : State :=
  (machine f).onCore 0 fun x => match c.op.queue with
    | 0 => { x with loadQ := [c] }
    | 1 => { x with arithQ := [c] }
    | _ => { x with storeQ := [c] }

/-- A started command of 64 bytes on registers 1, 2 and 3, and its one chunk in flight. -/
def aVector (op : VOp) : VCmd :=
  { seq := 0, slot := 0, op := op, vd := 1, va := 2, vb := 3, vl := 64, vreq := 64, vtype := 0x400#64, vlmax := 2048, limit := 64, started := true }

/-- The machine with the matrix unit of cluster 0 on a command whose name 2 is bound to slot 5. -/
def withMatrix (c : TCmd) (f : Thread → Thread) : State :=
  (machine fun t => { f t with tiles := t.tiles.set 2 (.inSlot 5) }).onCluster 0 fun x => { x with matrix := some (0, c) }

/-- A sealed machine with partition 0 of one cluster enabled at table 0x2000000 (and partition 1 over the same cluster), and kernels. -/
def sealedWith (parts : List (Nat × Partition)) (ks : List (Nat × Kernel)) (f : Thread → Thread) : State :=
  let s := withWords [(0x2000000, 0x2000), (0x2000010, 3), (0x2000018, 1), (0x2000020, 0x2000), (0x2000028, 1), (0x2000030, 3), (0x2000038, 1)] f
  { s with kernels := ks, now := 2 ^ 25, pkg := { s.pkg with boot := .sealed, ptbase := 0x2000000#64, partitions := parts } }

/-- A kernel of one core in a state. -/
def aKernel (st : KState) : Kernel := { serial := 1, state := st, packet := (Vector.replicate 8 0#64).set 2 0x4800#64, cores := [0] }

/-! ### Numbers: the worked examples of 02_numbers -/

/-- 65,520 and 65,519 to F16 (02_numbers, the half-way cases). -/
theorem test_round_f16 :
    roundVal fmtF16 0 false (.fin false 65520 0) = (0x7C00, condOF ||| condNX) ∧
    (roundVal fmtF16 1 false (.fin false 65520 0)).1 = 0x7BFF ∧
    roundVal fmtF16 0 false (.fin false 65519 0) = (0x7BFF, condNX) := by decide +kernel

/-- 464 and 463 to E4M3 (02_numbers, the half-way cases). -/
theorem test_round_e4m3 :
    (roundVal fmtE4M3 0 true (.fin false 464 0)).1 = 0x7E ∧ (roundVal fmtE4M3 0 false (.fin false 464 0)).1 = 0x7F ∧
    roundVal fmtE4M3 0 true (.fin false 463 0) = (0x7E, condNX) ∧ roundVal fmtE4M3 0 false (.fin false 463 0) = (0x7E, condNX) := by
  decide +kernel

/-- 2.5, 5, 6.875 (for 6.9) and 7 to E2M1 (02_numbers, the half-way cases). -/
theorem test_round_e2m1 :
    (roundVal fmtE2M1 0 true (.fin false 5 (-1))).1 = 4 ∧ (roundVal fmtE2M1 0 true (.fin false 5 0)).1 = 6 ∧
    roundVal fmtE2M1 0 true (.fin false 55 (-3)) = (7, condNX) ∧
    (roundVal fmtE2M1 0 true (.fin false 7 0)).1 = 7 ∧ (roundVal fmtE2M1 0 true (.fin false 7 0)).2 &&& condOF = condOF := by
  decide +kernel

/-- 0.1 in three formats, nearest and towards zero (02_numbers). -/
theorem test_tenth :
    let x := decodeFloat fmtF32 0x3DCCCCCD
    roundVal fmtBF16 0 false x = (0x3DCD, condNX) ∧ roundVal fmtBF16 1 false x = (0x3DCC, condNX) ∧
    roundVal fmtBF16 2 false x = (0x3DCC, condNX) ∧ roundVal fmtBF16 3 false x = (0x3DCD, condNX) ∧
    roundVal fmtE4M3 0 false x = (0x1D, condNX) ∧ roundVal fmtE4M3 1 false x = (0x1C, condNX) := by decide +kernel

/-- One element at three depths (02_numbers). -/
theorem test_depths :
    elemValue (.bp 2) (bpImage 2 0x69) = .fin false 96 0 ∧ elemValue (.bp 3) (bpImage 3 0x69) = .fin false 112 0 ∧
    elemValue (.bp 8) (bpImage 8 0x69) = .fin false 105 0 ∧ elemValue (.bp 2) (bpImage 2 0x97) = .fin true 96 0 ∧
    elemValue (.bp 3) (bpImage 3 0x97) = .fin true 112 0 ∧ elemValue (.bp 8) (bpImage 8 0x97) = .fin true 105 0 := by decide +kernel

/-- One block to MXE2M1: 10, 3, a value near -0.7, and zeros (02_numbers); its elements and scale. Log entry 46 has its conditions. -/
theorem test_block :
    (let r := quantBlock 21 0 ([some (.fin false 10 0), some (.fin false 3 0), some (.fin true 11744051 (-24))] ++
        List.replicate 29 (some (.fin false 0 0)))
     (r.1, r.2.1)) = ([6, 3, 9] ++ List.replicate 29 0, 0x80) := by decide +kernel

/-! ### Instructions: the worked examples of their chapters -/

/-- What a next state holds. -/
def after {α : Type} (o : Host.Outcome State Fault Refusal) (f : State → α) : Option α :=
  match o with
  | .next t => some (f t)
  | _ => none

/-- `lui g6, -2` (04_context). -/
theorem test_lui : after (execLui 6 0xFFFE (machine id)) (fun t => t.ctx.g 6) = some 0xFFFFFFFFFFFE0000#64 := by decide +kernel

/-- 0.1 from F32 to BF16: NX accrues, or traps where it is enabled (04_context). -/
theorem test_fcvt_ff :
    after (execFcvtFf 7 7 0 0 3 (withG 7 0x3DCCCCCD#64)) (fun t => (t.ctx.g 7, t.ctx.fctl)) = some (0x3DCD#64, 1#64) ∧
    after (execFcvtFf 7 7 0 0 3 (machine fun t => { t.setG 7 0x3DCCCCCD#64 with fctl := 0x20#64 }))
      (fun t => (t.ctx.g 7, t.ctx.fctl, t.ctx.cause, t.ctx.tval, decide (t.ctx.epc = State.reset.ctx.pc))) =
      some (0x3DCCCCCD#64, 0x20#64, 0x0A#64, 1#64, true) := by decide +kernel

/-- -5.5 from F32 to a 32-bit integer, towards zero (04_context). -/
theorem test_fcvt_if :
    after (execFcvtIf 8 9 1 1 0 (withG 9 0xC0B00000#64)) (fun t => (t.ctx.g 8, t.ctx.fctl)) =
      some (0xFFFFFFFFFFFFFFFB#64, 1#64) := by decide +kernel

/-- `sd g20, 8(sp)` at an address that is no multiple of 8 (04_context). -/
theorem test_sd_misaligned :
    after (execSd 20 2 8 (withG 2 0xFE00000000000FF4#64)) (fun t => (t.ctx.cause, t.ctx.tval)) =
      some (0x03#64, 0xFE00000000000FFC#64) := by decide +kernel

/-- `csrs g9, VL, g0` returns VL, and with another source register it is ILLEGAL (05_traps). -/
theorem test_csrs_vl :
    after (execCsrs 9 0 0x010 (machine fun t => { t with vl := 64#64 })) (fun t => (t.ctx.g 9, t.ctx.vl)) = some (64#64, 64#64) ∧
    after (execCsrs 9 10 0x010 (machine fun t => { t with vl := 64#64 })) (fun t => (t.ctx.g 9, t.ctx.cause)) =
      some (0#64, 1#64) := by decide +kernel

/-- A word that no privilege allows (15_page). -/
theorem test_tlbinva_user :
    after (execTlbinva 6 (machine fun t => { t with status := 0#64 })) (fun t => (t.ctx.cause, t.ctx.tval)) =
      some (0x02#64, 0x64003020#64) := by decide +kernel

/-- A steal from die 1, and the strip after it (12_kernel). -/
theorem test_steal :
    takeStrip 1024 0 [{ die := 0, c := 6144, e := 6144 }, { die := 1, c := 7168, e := 10000 }] =
      some (8192, 1024, [{ die := 0, c := 9216, e := 10000 }, { die := 1, c := 7168, e := 8192 }]) ∧
    takeStrip 1024 0 [{ die := 0, c := 9216, e := 10000 }, { die := 1, c := 7168, e := 8192 }] =
      some (9216, 784, [{ die := 0, c := 10000, e := 10000 }, { die := 1, c := 7168, e := 8192 }]) := by decide +kernel

/-- One exchange of a LOCKED child (16_link). -/
theorem test_exchange :
    exchangeOffset 5000000 5400000 5600000 5990000 = 5000 ∧
    after (execDelayResponse 1 ((machine id).onTime 1 fun v => { v with
        lock := .locked, t1 := some 5000000, t2 := some 5400000, t3 := some 5600000, t4 := some 5990000 }))
      (fun t => (t.die 1).time.lock) = some .locking := by decide +kernel

/-- `lui g6, -2` as the first instruction after reset. -/
theorem test_first_step :
    after (step (State.reset.withFetchWord 32 0x24C0FFFE)) (fun t => t.ctx.g 6) = some 0xFFFFFFFFFFFE0000#64 := rfl

/-- A state that lists memory and whose step answers a next state. -/
theorem witness_step_memory :
    let s := { State.reset.withFetchWord 32 0x24C0FFFE with mem := Memory.writeNat 8 1 8 [] }
    s.MemOk ∧ s.mem ≠ [] ∧ ∃ t, step s = .next t := ⟨by unfold State.MemOk; decide +kernel, by decide +kernel, _, rfl⟩

/-- A short and a long instruction with every field at its greatest value, and their words. -/
theorem witness_encode :
    (∃ w, (Instr.add 31 31 31 1).wellFormed = true ∧ encode (.add 31 31 31 1) = some (w, none)) ∧
    (∃ w x, (Instr.lvLongForm 63 63 0 7 0 0 0 0 1 31).wellFormed = true ∧
      encode (.lvLongForm 63 63 0 7 0 0 0 0 1 31) = some (w, some x)) := ⟨⟨_, rfl, rfl⟩, _, _, rfl, rfl⟩

/-- A short word, and a long form. -/
theorem witness_decode :
    (∃ i, 0x07FFF801 < 2 ^ 32 ∧ decodeWords 0x07FFF801 0 = .ok i) ∧
    (∃ i, 0xF0108400 < 2 ^ 32 ∧ 0x08030000 < 2 ^ 32 ∧ decodeWords 0xF0108400 0x08030000 = .ok i) := ⟨⟨_, by decide, rfl⟩, _, by decide, by decide, rfl⟩

/-! ### Witnesses: arithmetic, control and CSRs -/

/-- The quotient's corners, at 64 and at 32 bits. -/
theorem witness_division :
    (let s := machine fun t => (t.setG 1 0x8000000000000000#64).setG 2 0xFFFFFFFFFFFFFFFF#64
     s.ctx.g 1 = BitVec.intMin 64 ∧ s.ctx.g 2 = BitVec.allOnes 64) ∧
    (let s := machine fun t => (t.setG 1 0x80000000#64).setG 2 0xFFFFFFFF#64
     (s.ctx.g 1).setWidth 32 = BitVec.intMin 32 ∧ (s.ctx.g 2).setWidth 32 = BitVec.allOnes 32) := by decide

/-- A jump target that is word-aligned and one that is not. -/
theorem witness_jumps :
    ((withG 5 8#64).ctx.g 5 + (4#16).signExtend 64).toNat % 4 = 0 ∧ ((withG 5 6#64).ctx.g 5 + (0#16).signExtend 64).toNat % 4 ≠ 0 ∧
    (withG 5 6#64).ctx.trapFatal = false := by decide

/-- Rounding codes 4 and 7, and a dynamic mode that is none. -/
theorem witness_rounding :
    (let s := machine fun t => { t with fctl := 0x1000#64 }
     ((4#3).toNat = 4 ∧ 4 ≤ 4) ∧ ((7#3 : BitVec 3) = 7#3 ∧ 4 = field s.ctx.fctl 12 10 ∧ 4 ≤ 4)) ∧
    (let s := machine fun t => { t with fctl := 0x1400#64 }
     5 ≤ field s.ctx.fctl 12 10 ∧ s.ctx.trapFatal = false ∧ ∃ word, encode (.fadd 1 2 3 7 0) = some (word, none)) :=
  ⟨by decide, by decide, by decide, _, rfl⟩

/-- Operands of each fixed result: zeros, an infinity, one over zero and a negative number, in binary16. -/
theorem witness_float_corners :
    let k := scalarFmt 2
    let top := 2 ^ (k.width - 1)
    let inf := (2 ^ k.ebits - 1) * 2 ^ k.mbits
    0x8000 < 2 ^ k.width ∧ 0x8000 % top = 0 ∧ inf % top = inf ∧ (0x3C00 % top < inf ∧ 0x3C00 % top ≠ 0 ∧ 0 % top = 0) ∧
    (top < 0x8001 ∧ inf + top ≤ inf + top) := by decide

/-- An enabled condition that is raised, with and without an earlier one. -/
theorem witness_enabled :
    let s := machine fun t => { t with fctl := 0x3E0#64 }
    (∀ k < 5, ((0#7 : BitVec 7).getLsbD k && bit s.ctx.fctl (k + 5)) = false) ∧
    ((condNV.getLsbD 4 && bit s.ctx.fctl 9) = true ∨ (condNV.getLsbD 0 && bit s.ctx.fctl 5) = true) ∧ s.ctx.trapFatal = false := by decide

/-- The CSR cases: a register that waits for nothing, a boundary value of each range, and each refusal. -/
theorem witness_csrs :
    (let s := machine fun t => { t with vstart := 32767#64, vshare := 1#64, tshare := 1#64 }
     s.csrWaits 0x006 = false ∧ s.csrWaits 0x012 = false ∧ s.csrWaits 0x018 = false ∧ s.csrWaits 0x033 = false ∧
     field s.ctx.vstart 16 0 ≤ 32767 ∧ field s.ctx.vshare 3 0 ≠ 0 ∧ field s.ctx.tshare 3 0 ≠ 0 ∧ s.ctx.sys = true) ∧
    (let s := machine fun t => { t with vstart := 32768#64, vshare := 16#64 }
     32767 < field s.ctx.vstart 16 0 ∧ field s.ctx.vshare 3 0 = 0 ∧ bit s.ctx.vstart 3 = false) ∧
    (let s := machine fun t => { t with status := 0#64, regs := t.regs.set 1 8#64 }
     s.ctx.trapFatal = false ∧ s.ctx.sys = false ∧ csrAssigned 0x007 = false ∧ csrAssigned 0x108 = true ∧ s.csrWritable 0x010 = false ∧
     csrAssigned 0x010 = true ∧ bit (s.ctx.g 1) 3 = true ∧ ∃ word, encode (.csrw 0 1 0) = some (word, none)) :=
  ⟨by decide, by decide, by decide, by decide, by decide, by decide, by decide, by decide, by decide, _, rfl⟩

/-- A handler's return with a bank of no type and with one of a type, a bank that none may resume with, and no handler. -/
theorem witness_trapret :
    (let s := machine fun t => { t with status := 0xF#64 }
     s.ctx.hm = true ∧ s.ctx.hvtype = 0#64 ∧ s.ctx.hvl = 0#64 ∧ s.ctx.hvstart.toNat < 2 ^ 15) ∧
    (let s := machine fun t => { t with status := 1#64, hvtype := 0x400#64, hvl := 2048#64, hvstart := 32767#64 }
     s.ctx.hm = true ∧ bit s.ctx.hvtype 10 = true ∧ field s.ctx.hvtype 4 0 ≠ 31 ∧ field s.ctx.hvtype 63 11 = 0 ∧
     s.ctx.hvl.toNat ≤ s.ctx.vlmax * 8 / fmtWidth (field s.ctx.hvtype 4 0) ∧ s.ctx.hvl.toNat % 1 = 0 ∧ s.ctx.hvstart.toNat < 2 ^ 15) ∧
    (let s := machine fun t => { t with status := 3#64, hvl := 1#64 }
     s.ctx.trapFatal = false ∧ s.ctx.hm = true ∧ bit s.ctx.hvtype 10 = false ∧ s.ctx.hvl ≠ 0#64) ∧
    (machine id).ctx.hm = false ∧ (machine id).ctx.owned = false ∧ (machine fun t => { t with dbgctl := 1#64 }).ctx.owned = true := by decide

/-- A trap that cannot be delivered, for want of a handler's address and in a handler. -/
theorem witness_fatal :
    (State.reset.ctx.kernel = none ∧ State.reset.ctx.tvec = 0#64) ∧
    (let s := machine fun t => { t with status := 1#64 }
     s.ctx.kernel = none ∧ s.ctx.hm = true ∧ bit s.ctx.status 1 = false) := by decide

/-- A trap that cannot be delivered, of a kernel's thread in its handler. -/
theorem witness_fatal_of_kernel :
    let x := aKernel .running
    let s := withKernel x fun t => { t with kernel := some 0, status := 1#64 }
    s.ctx.kernel = some 0 ∧ s.kernel 0 = some x ∧ x.state.abortable = true ∧ x.tag = none ∧ (∀ e ∈ s.kernels, e.2.parent ≠ some 0) ∧
    s.ctx.hm = true ∧ bit s.ctx.status 1 = false := by decide

/-- A fence and a wait that pass, ones that do not, and a wait that reports. -/
theorem witness_fences :
    (let s := machine id
     s.ctx.loads = [] ∧ s.ctx.stores = [] ∧ (s.core (coreKey s.cur)).loadQ = [] ∧ (s.core (coreKey s.cur)).storeQ = [] ∧
     (s.core (coreKey s.cur)).tileQ = [] ∧ (s.cluster (coreKey s.cur / 8)).matrix = none ∧
     (s.cluster s.cur.cluster).engine = [] ∧ s.cntld s.cur ≤ 0 ∧ s.cntst s.cur ≤ 0 ∧ s.cntcp s.cur ≤ 0 ∧ s.cnttl s.cur ≤ 0 ∧
     s.ctx.failed.find? (fun f => if f.tile then true else true) = none) ∧
    (let s := machine fun t => { t with loads := [{ seq := 0, rd := 1, kind := .load 6, place := { loc := 0 }, bytes := 8 }] }
     s.ctx.loads ≠ [] ∧ ¬s.cntld s.cur ≤ 0 ∧ s.cntld s.cur ≤ 1) ∧
    (let s := (machine id).onCore 0 fun x => { x with tileQ := [{ seq := 0, slot := 0, op := .tsave }] }
     ∃ e ∈ (s.core (coreKey s.cur)).tileQ.filter (fun e => e.slot == s.cur.slot), e.op = .tsave) ∧
    (let s := machine fun t => { t with failed := [{ id := 0, tile := false, mask := 1#64 }] }
     s.ctx.failed.find? (fun f => if f.tile then true else true) = some { id := 0, tile := false, mask := 1#64 } ∧
     s.ctx.trapFatal = false) := by decide

/-! ### Witnesses: fences, waits and memory -/

/-- An ISYNC that passes and one that waits, a watch that reaches host memory, and the two ways a yield ends. -/
theorem witness_yields :
    (machine id).cntst (machine id).cur = 0 ∧ (machine fun t => { t with stores := [aStore] }).cntst (machine id).cur ≠ 0 ∧
    (let s := withG 1 0x40#64
     reached s false (s.ctx.g 1) = .place (near 0x40)) ∧
    (let s := machine fun t => { t with phase := .yielded, yield := some { since := 0, others := [1] } }
     (s.thread s.cur).phase = .yielded ∧ bit (s.thread s.cur).status 4 = false) ∧
    (let s := { machine fun t => { t with phase := .yielded, yield := some { since := 0, watch := some 64, wake := some 1 } } with now := 31 }
     (s.thread s.cur).phase = .yielded ∧ bit (s.thread s.cur).status 4 = false ∧ 0 + 31 ≤ s.now) := by decide

/-- Watches of host memory and of a local store with room and without, and a timeout that has passed. -/
theorem witness_watches :
    let y (line : Nat) : YieldInfo := { since := 0, watch := some line, timeout := 1 }
    let s (line : Nat) : State := { machine fun t => { t with phase := .yielded, yield := some (y line) } with now := 256 }
    let full : State := (s (2 ^ 63)).onCore 0 fun c => { c with localStore.watches := List.replicate 16 (⟨0, 0, 1⟩, 0) }
    ((s (2 ^ 60)).thread ⟨0, 0, 0⟩).yield = some (y (2 ^ 60)) ∧ 2 ^ 60 ≤ 2 ^ 60 ∧ 2 ^ 61 - 1 < 2 ^ 61 ∧
    (s (2 ^ 60)).migrating (2 ^ 60) = false ∧ (s (2 ^ 63)).migrating (2 ^ 63) = false ∧
    { s 0 with pkg := { (s 0).pkg with migrations := [(0, [aMove])] } }.migrating aMove.old = true ∧
    ((s (2 ^ 63)).core ((2 ^ 63 - 2 ^ 63) / 2 ^ 18)).localStore.watches.length < 16 ∧
    16 ≤ (full.core ((2 ^ 63 - 2 ^ 63) / 2 ^ 18)).localStore.watches.length ∧
    0 < (y 0).timeout ∧ (y 0).since + 256 * (y 0).timeout ≤ (s 0).now := by decide

/-- An EXIT that waits, of a thread of no kernel, and of one whose kernel runs on. -/
theorem witness_exits :
    (machine fun t => { t with loads := [aLoad] }).cntld (machine id).cur ≠ 0 ∧
    ((machine id).cntld (machine id).cur = 0 ∧ (machine id).ctx.kernel = none) ∧
    (let x : Kernel := { state := .running, serial := 0, cores := [0, 1] }
     let s := { machine fun t => { t with kernel := some 0 } with kernels := [(0, x)], others := [(⟨0, 1, 0⟩, { phase := .ready })] }
     s.kernel 0 = some x ∧ s.ctx.kernel = some 0 ∧ ⟨0, 1, 0⟩ ∈ x.threads ∧ (⟨0, 1, 0⟩ : ThreadRef) ≠ s.cur ∧
       (s.thread ⟨0, 1, 0⟩).phase ≠ .retired) := by decide

/-- The last EXIT of a kernel, with and without a store outstanding. -/
theorem witness_last_exit :
    ∀ l ∈ [[], [aStore]],
      let x := aKernel .running
      let s := withKernel x fun t => { t with kernel := some 0, stores := l }
      s.cntld s.cur = 0 ∧ s.ctx.kernel = some 0 ∧ s.kernel 0 = some x ∧ x.state = .running ∧ x.threads = [s.cur] ∧
      (s.partition x.part).killed = [] ∧ (s.partition x.part).switched = false ∧ s.threadIdle s.cur = (l == []) := by decide

/-- Loads and stores: accepted, waiting at a full table, misaligned, denied, waiting for a walk, and each window. -/
theorem witness_accesses :
    (let s := withG 1 0x40#64
     s.cntld s.cur < 8 ∧ s.cntst s.cur < 16 ∧ (0x40#64).toNat % 8 = 0 ∧ s.ctx.bpctl = 0#64 ∧
     reached s false 0x40#64 = .place (near 0x40) ∧
     reached s true 0x40#64 = .place (near 0x40)) ∧
    (let s := machine fun t => { t with loads := List.replicate 8 aLoad, stores := List.replicate 16 aStore }
     8 ≤ s.cntld s.cur ∧ 16 ≤ s.cntst s.cur) ∧
    (let s := withG 1 0x41#64
     (s.ctx.g 1 + (0#13).signExtend 64).toNat % 8 ≠ 0 ∧ s.ctx.trapFatal = false) ∧
    (let s := withG 1 0x14000000000#64
     reached s false (s.ctx.g 1) = .deny) ∧
    (let s0 := machine fun t => { t with asid := 1#16 }
     let s := { s0 with pkg := { s0.pkg with boot := .sealed }, mem := [(8, 1#8)] }
     reached s false 0x10000#64 = .walk) := by decide

/-- The windows at their edges. -/
theorem witness_windows :
    (let s := machine id
     (field 0xFE0000000002FFF8#64 63 18 = 0xFE * 2 ^ 38 ∧ field 0xFE0000000002FFF8#64 17 0 < 0x30000) ∧
     (field 0xFE00000000030000#64 63 56 = 0xFE ∧ 0x30000 ≤ field 0xFE00000000030000#64 17 0) ∧
     (field 0xFD000000000FFFF8#64 63 20 = 0xFD * 2 ^ 36 ∧ s.clusterAnswers s.agent s.cur.cluster = true ∧
       s.scratchOpen s.agent s.cur.cluster = true) ∧
     (field 0xFD00000000100000#64 63 56 = 0xFD ∧ field 0xFD00000000100000#64 55 20 ≠ 0) ∧
     (0 < field 0xFA00000000000000#64 63 56 ∧ field 0xFA00000000000000#64 63 56 < 0xFB) ∧ field 0x0080000000000000#64 63 55 = 1 ∧
     s.pkg.boot ≠ .sealed ∧ s.ctx.asid = 0#16 ∧ (0x13FFFFFFFF8#64).toNat < 0x14000000000) := by decide

/-- A load's answer, from memory and from a store of its own, and a result formed at its home. -/
theorem witness_responses :
    (let s := machine fun t => { t with loads := [aLoad] }
     (s.thread s.cur).loads[0]? = some aLoad ∧ s.loadDue s.cur 0 = true ∧ s.readPoisoned (s.placeNow aLoad.place) 8 = false ∧
     (s.thread s.cur).stores = []) ∧
    (let s := machine fun t => { t with loads := [{ aLoad with seq := 1 }], stores := [aStore] }
     (s.thread s.cur).stores = [aStore] ∧ s.loadDue s.cur 0 = true ∧ aStore.seq < 1 ∧ aStore.value < 256 ^ 8) ∧
    (let l : PendingLoad := { aLoad with kind := .result (some 5#64) (some true), pred := 7 }
     let s := machine fun t => { t with loads := [l] }
     (s.thread s.cur).loads[0]? = some l) := by decide

/-- A store that is due, of committed memory and of a draft, and an AMO that is due. -/
theorem witness_visible :
    (let s := machine fun t => { t with stores := [aStore] }
     (s.thread s.cur).stores[0]? = some aStore ∧ s.storeDue s.cur 0 = true ∧ Memory.wf s.mem = true ∧ (s.thread s.cur).kernel = none ∧
     (s.placeNow aStore.place).draft = none ∧ s.behind .failed (s.placeNow aStore.place).loc = false) ∧
    (let w : PendingStore := { aStore with pred := some 7 }
     let s := machine fun t => { t with stores := [w] }
     (s.thread s.cur).stores[0]? = some w ∧ s.storeDue s.cur 0 = true ∧ w.pred = some 7) ∧
    (let w : PendingStore := { aStore with place := { near 0xF8 with draft := some 3 } }
     let s0 := machine fun t => { t with stores := [w] }
     let s := { s0 with pkg := { s0.pkg with drafts := [{ tag := 3, granule := 0, bytes := [] }] } }
     (s.thread s.cur).stores[0]? = some w ∧ s.storeDue s.cur 0 = true ∧ s.slotFor 3 0xF8 = true ∧ 0xF8 % 256 + 8 ≤ 256 ∧
     (∃ d ∈ s.pkg.drafts, d.tag = 3 ∧ d.granule = 0xF8 / 256 ∧ d.commit = none) ∧ (s.placeNow w.place).loc = 0xF8 ∧
     s.linkState (.nearDie (poolOf 0xF8)) ≠ .failed ∧ ∀ d ∈ s.pkg.drafts, d.granule = 0xF8 / 256 → d.commit = none → d.tag = 3) ∧
    (let l : PendingLoad := { aLoad with kind := .atHome (.amo 0 8 1#64 0#64) }
     let s := machine fun t => { t with loads := [l] }
     (s.thread s.cur).loads[0]? = some l ∧ s.homeDue s.cur 0 = true ∧ s.readPoisoned (s.placeNow l.place) 8 = false ∧
     (s.placeNow l.place).draft = none ∧ s.behind .failed (s.placeNow l.place).loc = false) := by
  decide

/-- Barrier words at the boundaries of each case. -/
theorem witness_barriers :
    (0 + 1 < 2 ∧ 2 ^ 20 - 2 + 1 < 2 ^ 20) ∧ (0 + 1 = 1 ∧ 2 ^ 20 - 2 + 1 = 2 ^ 20 - 1) ∧ (0 = 0 ∨ 0 ≤ 5) ∧ 1 ≤ 1 ∧ 0 < 1 := by decide

/-- A release part that is met and one that is not. -/
theorem witness_home_operations :
    (let s := withG 1 0x40#64
     s.ctx.loads = [] ∧ s.ctx.stores = [] ∧ s.cntld s.cur < 8 ∧ s.cntst s.cur < 16 ∧ (s.ctx.g 1).toNat % 16 = 0 ∧ s.ctx.bpctl = 0#64 ∧
     reached s true (s.ctx.g 1) = .place (near 0x40) ∧ ∀ c < 5, reached (s.flush s.cur c) true (s.ctx.g 1) = .place (near 0x40)) ∧
    (machine fun t => { t with loads := [aLoad] }).ctx.loads ≠ [] := by decide

/-! ### Witnesses: atomics and kernels -/

/-- A granule of the core's own store, EMPTY and FULL, with no hindrance; a table with room; and a request that is sent again. -/
theorem witness_granules :
    (let s := withG 1 0xFE00000000000100#64
     let l := 2 ^ 63 + 0x100
     reached s false (s.ctx.g 1) = .place { loc := l } ∧ reached s true (s.ctx.g 1) = .place { loc := l } ∧ s.ctx.bpctl = 0#64 ∧
     s.feFull (l / 16) = false ∧ s.mayPerform s.cur s.ctx.nextSeq { loc := l } 8 false = true ∧ s.copyFaultAt (l / 16) = none ∧
     s.readPoisoned { loc := l } 8 = false ∧ s.releases l = false ∧ (s.storageAt l).waits = [] ∧ s.ctx.loads = [] ∧ s.ctx.stores = [] ∧
     Memory.wf s.mem = true) ∧
    (let s := (withG 1 0xFE00000000000100#64).setFe ((2 ^ 63 + 0x100) / 16) true
     s.feFull ((2 ^ 63 + 0x100) / 16) = true ∧ s.mayPerform s.cur s.ctx.nextSeq { loc := 2 ^ 63 + 0x100 } 8 false = true) ∧
    (let s := { machine fun t => { t with refused := some 0 } with now := 16 }
     (s.thread s.cur).phase = .ready ∧ (s.thread s.cur).refused = some 0 ∧ 0 + 16 ≤ s.now) := by decide

/-- A table with room, addresses that are misaligned and outside the windows, and a granule of another thread's failed copy. -/
theorem witness_granule_stops :
    let s := withG 1 0xFE00000000000100#64
    let l := 2 ^ 63 + 0x100
    let f : CopyFault := { id := 0, owner := ⟨0, 0, 1⟩, first := l / 16, count := 1, mask := 1#64 }
    let t := s.onStorage l fun x => { x with faults := [f] }
    (s.storageAt l).waits.length < 16 ∧ (0xFE00000000000104#64).toNat % 8 ≠ 0 ∧ field 0xFA00000000000000#64 63 56 < 0xFB ∧
    (0xFA00000000000000#64).toNat % 8 = 0 ∧ 0xFE < field 0xFF00000000000000#64 63 56 ∧ s.ctx.trapFatal = false ∧
    t.copyFaultAt (l / 16) = some f ∧ f.owner ≠ t.cur ∧ reached t false (t.ctx.g 1) = .place { loc := l } ∧
    reached t true (t.ctx.g 1) = .place { loc := l } ∧ 0xFB ≤ field (t.ctx.g 1) 63 56 ∧ field (t.ctx.g 1) 63 56 ≤ 0xFE ∧
    t.mayPerform t.cur t.ctx.nextSeq { loc := l } 8 false = true ∧ (t.storageAt l).waits = [] ∧ t.ctx.trapFatal = false ∧
    t.ctx.loads = [] ∧ t.ctx.stores = [] ∧ Memory.wf t.mem = true := by decide

/-- An empty packet, a valid one, one whose control block cannot be used, and a full table. -/
theorem witness_launches :
    (let s := withG 1 0x40#64
     (s.ctx.g 1).toNat % 64 = 0 ∧ s.ctx.loads = [] ∧ s.ctx.stores = [] ∧ s.vectorPathDone s.cur true true = true ∧
     ∃ ws s1, (s.flush s.cur 4).readWords (s.ctx.g 1) 8 = .ok (ws, s1) ∧ ws.getD 5 0#64 = 0#64 ∧ ws.getD 6 0#64 = 0#64 ∧
       ({ words := ws, streams := [] } : Packet).ok (s1.parentOf s1.cur).isSome = false) ∧
    (let s := withWords [(0x50, 0x4800)] fun t => t.setG 1 0x40#64
     ∃ ws s1, (s.flush s.cur 4).readWords (s.ctx.g 1) 8 = .ok (ws, s1) ∧ ws.getD 5 0#64 = 0#64 ∧ ws.getD 6 0#64 = 0#64 ∧
       ({ words := ws, streams := [] } : Packet).ok (s1.parentOf s1.cur).isSome = true ∧
       s1.tcbUsable s1.ctx.asid.toNat (ws.getD 6 0#64) = true ∧ s1.kernel 0 = none) ∧
    (let s := withWords [(0x50, 0x4800), (0x70, 0x1000), (0x1000, 3)] fun t => t.setG 1 0x40#64
     ∃ ws s1 tw s2, (s.flush s.cur 4).readWords (s.ctx.g 1) 8 = .ok (ws, s1) ∧ s1.readWords (ws.getD 6 0#64) 2 = .ok (tw, s2) ∧
       ({ words := ws, streams := [] } : Packet).ok (s2.parentOf s2.cur).isSome = true ∧
       s2.tcbUsable s2.ctx.asid.toNat (ws.getD 6 0#64) = false) :=
  ⟨⟨by decide, by decide, by decide, by decide, _, _, rfl, by decide⟩, ⟨_, _, rfl, by decide⟩, ⟨_, _, _, _, rfl, rfl, by decide⟩⟩

/-- A key of a table of one value is found. -/
theorem find_mem {α : Type} (v : α) (k : Nat) (l : List Nat) (h : k ∈ l) : Table.find k (l.map fun j => (j, v)) = some v := by
  induction l with
  | nil => cases h
  | cons j l ih =>
    simp only [List.map_cons, Table.find]
    split
    · rfl
    · exact ih ((List.mem_cons.1 h).resolve_left fun e => by omega)

/-- A machine whose table entries below n all hold a kernel. -/
def withTable (n : Nat) : State := { machine id with kernels := (List.range n).map fun k => (k, { serial := 0, state := .queued }) }

theorem table_full (n e : Nat) (h : e < n) : ∃ x, (withTable n).kernel e = some x ∧ x.released = false :=
  ⟨_, find_mem ({ serial := 0, state := .queued } : Kernel) e _ (List.mem_range.2 h), rfl⟩

/-- Every entry of a table can hold a kernel. -/
theorem witness_full_table : ∀ e < 4096, ∃ x, (withTable 4096).kernel e = some x ∧ x.released = false := fun e h => table_full 4096 e h

/-- Takes from the thread's own range, from a long one, from a short one, and from none. -/
theorem witness_takes :
    let x (l : List Strip) : Kernel := { serial := 0, state := .running, strips := l }
    let s (l : List Strip) : State := withKernel (x l) fun t => { t with kernel := some 0 }
    (machine id).ctx.kernel = none ∧
    (∀ l ∈ ([[⟨0, 0, 8⟩], [⟨0, 8, 8⟩, ⟨1, 0, 8192⟩], [⟨0, 8, 8⟩, ⟨1, 0, 1⟩], [⟨0, 8, 8⟩]] : List (List Strip)),
      (s l).ctx.kernel = some 0 ∧ (s l).kernel 0 = some (x l) ∧ 0 = (s l).cur.cluster / 352 ∧
      (∀ y ∈ l, ∀ z ∈ l, y ≠ z → y.die ≠ z.die) ∧ ∀ y ∈ l, y.e < 2 ^ 64) ∧
    0 < (x []).block ∧ 2 * (x []).block ≤ 8192 - 0 ∧ 1 - 0 < 2 * (x []).block := by decide

/-- A linked output stream, a linked input with a producer and without, a private stream and none. -/
theorem witness_streams :
    let x (m : Stream) : Kernel := { serial := 0, state := .running, streams := (Vector.replicate 16 {}).set 3 m }
    let s (m : Stream) : State := withKernel (x m) fun t => { t with kernel := some 0 }
    let out : Stream := { role := 2, link := true, length := 64 }
    let inn : Stream := { role := 1, link := true, length := 64 }
    ((s out).kernel 0 = some (x out) ∧ (x out).streams.toArray.getD 3 {} = out ∧ (64#64).toNat ≤ out.length ∧ out.length < (65#64).toNat) ∧
    ((s inn).producerOf 0 (x inn).asid (x inn).tag inn = none) ∧
    ({ s inn with kernels := [(0, x inn), (1, x out)] }.producerOf 0 0 (x inn).tag inn = some (1, x out, out)) ∧
    (s out).vectorPathDone (s out).cur true true = true ∧
    (s {}).ctx.trapFatal = false := by decide

/-- A task control block that can be used, counts at each boundary, and a handle that names a kernel and one that does not. -/
theorem witness_tasks :
    (let s := withG 1 0x40#64
     usesBlock ((s.flush s.cur 4).taskAccess (s.ctx.g 1)) = some (near 0x40) ∧ s.cntld s.cur < 8 ∧ s.ctx.loads = [] ∧ s.ctx.stores = []) ∧
    (2 ^ 64 - 1 < 2 ^ 64) ∧
    (let x : Kernel := { serial := 5, state := .running }
     let s := withKernel x fun t => t.setG 1 0x5000#64
     s.kernel 0 = some x ∧ 0 < 4096 ∧ x.serial < 2 ^ 52 ∧ s.ctx.g 1 = BitVec.ofNat 64 (x.serial * 4096 + 0) ∧
     x.asid = s.ctx.asid.toNat ∧ x.status < 256) ∧
    (let s := withKernel { serial := 5, state := .running } fun t => t.setG 1 0x6000#64
     s.kernelFor (s.ctx.g 1) = none) := by decide

/-- Task operations that are due: a TARM of a FREE task, and a TDEP that makes an ARMED kernel READY. -/
theorem witness_task_homes :
    (∀ op ∈ ([.tarm 0#64, .tarm 1#64] : List HomeOp),
      let l : PendingLoad := { aLoad with kind := .atHome op, bytes := 16 }
      let s := withWords [(0x68, 7)] fun t => { t with loads := [l] }
      (s.thread s.cur).loads[0]? = some l ∧ s.homeDue s.cur 0 = true ∧ s.readPoisoned (s.placeNow l.place) 16 = false ∧ Memory.wf s.mem = true ∧
      (s.placeNow l.place).draft = none ∧ (s.placeNow l.place).loc = 0x40 ∧ (∀ i < 64, s.behind .failed (0x40 + i) = false) ∧
      readPlace s (s.placeNow l.place) 0 16 % 16 = 0) ∧
    (let l : PendingLoad := { aLoad with kind := .atHome .tdep, bytes := 16 }
     let x : Kernel := { aKernel .armed with serial := 1 }
     let s := { withWords [(0x40, 1), (0x48, 1), (0x68, 0x1000)] fun t => { t with loads := [l] } with kernels := [(0, x)] }
     s.homeDue s.cur 0 = true ∧ s.readPoisoned (s.placeNow l.place) 16 = false ∧ Memory.wf s.mem = true ∧ (s.placeNow l.place).draft = none ∧
     readPlace s (s.placeNow l.place) 0 16 % 16 = 1 ∧ readPlace s (s.placeNow l.place) 0 16 / 2 ^ 64 = 1 ∧
     (∀ i < 64, s.behind .failed (0x40 + i) = false) ∧ s.kernelByHandle (s.blockWordAt (s.placeNow l.place) 5) = some (0, x)) := by decide

/-- A kernel of each kind that KCANCEL meets, and the task control blocks of its other form. -/
theorem witness_cancels :
    (∀ st ∈ [KState.queued, .running, .committed], 
      let x : Kernel := { serial := 5, state := st }
      let s := withKernel x fun t => t.setG 1 0x5000#64
      s.kernelFor (s.ctx.g 1) = some (0, x) ∧ x.tag = none ∧ x.word 6 = 0#64 ∧ (∀ e ∈ s.kernels, e.2.parent ≠ some 0)) ∧
    KState.queued.unplaced = true ∧ KState.running.abortable = true ∧ KState.committed.unplaced = false ∧
    KState.committed.abortable = false ∧
    (let s := withWords [(0x40, 1)] fun t => t.setG 1 0x40#64
     usesBlock (s.taskAccess (s.ctx.g 1)) = some (near 0x40) ∧ field (s.blockWordAt (near 0x40) 0) 2 0 = 1 ∧
     s.mayPerform s.cur s.ctx.nextSeq (near 0x40) 64 false = true ∧ s.behind .failed 0x40 = false ∧
     s.blockWordAt (near 0x40) 3 = 0#64 ∧ s.kernelByHandle (s.blockWordAt (near 0x40) 5) = none ∧ Memory.wf s.mem = true) ∧
    (let s := withG 1 0x40#64
     usesBlock (s.taskAccess (s.ctx.g 1)) = some (near 0x40) ∧ field (s.blockWordAt (near 0x40) 0) 2 0 = 0) ∧
    (let x : Kernel := { serial := 5, state := .running }
     let s := withKernel x fun t => { t with kernel := some 0 }
     s.ctx.kernel = some 0 ∧ s.kernel 0 = some x) ∧
    (machine id).ctx.kernel = none := by decide

/-- A kernel with a task control block that is cancelled, children of a thread's kernel that aborts, and a block that can be read. -/
theorem witness_block_cancels :
    (let x : Kernel := { aKernel .queued with packet := (Vector.replicate 8 0#64).set 6 0x40#64 }
     let s := { withWords [(0x40, 1)] (·.setG 1 0x1000#64) with kernels := [(0, x)] }
     s.kernelFor (s.ctx.g 1) = some (0, x) ∧ x.state.unplaced = true ∧ s.tcbOf x = some (near 0x40) ∧ x.fromQueue = none ∧
     s.pkg.ring = none ∧ s.pkg.sequencer = none ∧ s.blockWordAt (near 0x40) 3 = 0#64 ∧ s.tcbState (near 0x40) = 1 ∧ Memory.wf s.mem = true ∧
     ∀ i < 64, s.behind .failed (0x40 + i) = false) ∧
    (∀ st ∈ [KState.held, .running],
      let x := aKernel .running
      let y : Kernel := { aKernel st with parent := some 0 }
      let s := { withKernel x fun t => { t with kernel := some 0 } with kernels := [(0, x), (1, y)] }
      s.ctx.kernel = some 0 ∧ s.kernel 0 = some x ∧ x.state.abortable = true ∧ x.tag = none ∧ x.parent = none ∧ s.kernel 1 = some y ∧
      (s.kernels.map fun q => q.1).Nodup ∧ y.parent = some 0 ∧ y.word 6 = 0#64 ∧ y.state.unplaced = (st == .held) ∧
      y.state.abortable = (st == .running)) ∧
    (let s := withWords [(0x40, 1)] fun t => t.setG 1 0x40#64
     poisoned s 0x40 64 = false) := by decide

/-! ### Witnesses: queue bindings and mailboxes -/

/-- Codes of each kind that QBIND takes, and ones that it refuses. -/
theorem witness_bindings :
    (∀ c ∈ ([0, 0x1000000, 0x3000000, 0x303FFFF] : List Nat), field (BitVec.ofNat 64 c) 63 28 = 0 ∧
      ((field (BitVec.ofNat 64 c) 27 24 ≤ 1 ∧ field (BitVec.ofNat 64 c) 23 0 = 0) ∨
       (field (BitVec.ofNat 64 c) 27 24 = 3 ∧ field (BitVec.ofNat 64 c) 23 0 < 2 ^ 18))) ∧
    (let s := withQueue 0x800000 0 0 [] (·.setG 1 0x4000005#64)
     let c := s.ctx.g 1
     field c 27 24 = 4 ∧ s.queueBindable (field c 23 0 % 65536) = true ∧ field (s.queueWord 5 4) 15 0 = s.ctx.asid.toNat ∧
     bit (s.queueWord 5 4) 22 = false ∧ bit (s.queueWord 5 4) 21 = false ∧ ¬s.queueBindable 6 = true) ∧
    (let s := withG 1 0x2000FFF#64
     field (s.ctx.g 1) 27 24 = 2 ∧ field (s.ctx.g 1) 23 0 < 4096 ∧ (∀ k < 16, bindKind (s.ctx.binding k) ≠ 2) ∧ s.cur.cluster < 8448) ∧
    (let s := bound 0x2000000 (·.setG 1 0x2000000#64)
     ∃ k < 16, k ≠ 2 ∧ bindKind (s.ctx.binding k) = 2) := by decide

/-- A register of each kind, and what may not be done with it. -/
theorem witness_kinds :
    (∀ k ∈ ([0, 1, 2, 3, 4] : List Nat), 
      bindKind ((bound (BitVec.ofNat 28 (k * 2 ^ 24)) id).ctx.binding 1) = k ∧ (bound (BitVec.ofNat 28 (k * 2 ^ 24)) id).ctx.trapFatal = false) ∧
    bindTarget ((bound 0x4010005 id).ctx.binding 1) / 65536 = 1 ∧ bindTarget ((bound 0x4000005 id).ctx.binding 1) / 65536 = 0 := by decide

/-- A descriptor that is readable with a slot free, and commands of a register complete and not. -/
theorem witness_copy_queue :
    (let s := { withWords [(0x40, 0xFE00000000000100), (0x48, 0x2000), (0x50, 0x100000010)] (·.setG 1 0x40#64) with cur := ⟨0, 0, 0⟩ }
     let at0 := near 0x40
     let w (i : Nat) : Word := BitVec.ofNat 64 (readPlace s at0 (8 * i) 8)
     reached s false (s.ctx.g 1) = .place at0 ∧ s.mayPerform s.cur s.ctx.nextSeq at0 64 false = true ∧ s.readPoisoned at0 64 = false ∧
     descriptorOk (w 4) (w 5) (w 7) = true ∧ (descriptorCmd s 1 [w 0, w 1, w 2, w 3, w 4, w 5, w 6, w 7]).check = none ∧
     s.freeEngineSlot 0 = some 0 ∧ s.ctx.pushing = none) ∧
    (let s := (machine id).onCluster 0 fun c => { c with engine := (List.range 16).map fun k => { aCopy with slot := k } }
     s.freeEngineSlot 0 = none) ∧
    (let s := machine fun t => { t with pushing := some (0#64, List.replicate 8 0#64) }
     s.ctx.pushing = some (s.ctx.pc, List.replicate 8 0#64) ∧ descriptorOk 0 0 0 = true ∧
     (descriptorCmd s 1 (List.replicate 8 0#64)).check = none) ∧
    (let e : EngineCmd := { aCopy with via := some (1, 9), state := .complete, result := some 5#64 }
     let s := withCommand e fun t => { t with queues := t.queues.set 1 0x1000000 }
     s.copiesVia 1 = [e] ∧ bindKind (s.ctx.binding 1) = 1) ∧
    (machine id).copiesVia 1 = [] := by decide

/-- A mailbox with room, a full one, and one of this thread with 1 and with 16 entries. -/
theorem witness_mailboxes :
    (let s := bound 0x3000000 fun t => { t with queues := t.queues.set 2 0x2000000 }
     let s1 := bound 0x3000000 id
     bindKind (s1.ctx.binding 1) = 3 ∧ s.physicalOf 0 = some 0 ∧ s.clusterAnswers s.agent 0 = true ∧ s.scratchOpen s.agent 0 = true ∧
     (s1.thread ⟨0, 0, 0⟩).phase ≠ .free ∧ (s1.thread ⟨0, 0, 0⟩).mailBinding = none ∧
     (s.thread ⟨0, 0, 0⟩).mailBinding = some 0x2000000 ∧ s.mailCount (s.mailbox ⟨0, 0, 0⟩ 0x2000000) < 16) ∧
    (let s := { bound 0x2000000 id with mem := Memory.writeNat (Loc.scratch 0 0 + 136) 16 8 [] }
     (s.thread ⟨0, 0, 0⟩).mailBinding = some 0x2000000 ∧ s.mailCount (s.mailbox s.cur 0x2000000) = 16 ∧ Memory.wf s.mem = true) ∧
    (bound 0x2000000 id).mailCount ((bound 0x2000000 id).mailbox ⟨0, 0, 0⟩ 0x2000000) = 0 := by decide

/-! ### Witnesses: task queues and engines -/

/-- A mapped queue with room and with a record, a full one, and one that is unmapped. -/
theorem witness_task_records :
    let slot (rs : List (List Byte)) (tail : Nat) : QueueSlot := { queue := 5, records := rs, tail := tail, word4 := 0x1000000#64 }
    (let s := withQueue 0x1000000 0 0 [(0, slot [] 0)] (·.setG 1 0x40#64)
     s.queueUsable 5 = true ∧ s.queueSlot 5 = some (0, slot [] 0) ∧ 0 - 0 < s.queueSize 5 ∧ s.cntst s.cur < 16 ∧
     reached (s.flush s.cur 4) false (s.ctx.g 1) = .place (near 0x40) ∧
     s.readPoisoned (near 0x40) 64 = false ∧ reached s true (s.ctx.g 1) = .place (near 0x40) ∧
     s.mayPerform s.cur s.ctx.nextSeq (near 0x40) 64 false = true ∧ Memory.wf s.mem = true) ∧
    (let v : List Byte := List.replicate 64 7
     let s := withQueue 0x1000000 0 1 [(0, slot [v] 1)] (·.setG 1 0x2000#64)
     s.queueSlot 5 = some (0, slot [v] 1) ∧ v.length = 64 ∧ bit (s.queueWord 5 4) 22 = false) ∧
    (let s := withQueue 0x800000 0 32 [] id
     s.queueTail 5 - s.queueHead 5 = s.queueSize 5 ∧ s.queueUsable 5 = true ∧ s.queueSlot 5 = none) ∧
    16 ≤ (machine fun t => { t with stores := List.replicate 16 aStore }).cntst (machine id).cur := by decide

/-- Pushes that go to the ring, one to a full queue, and a pop of none; a slot that fetches. -/
theorem witness_rings :
    let x : QueueSlot := { queue := 5, tail := 1, flight := 1, word4 := 0x1000000#64 }
    (let s := withQueue 0x1000000 0 1 [(0, x)] fun t => { t.setG 1 0x40#64 with queues := t.queues.set 1 0x4000005 }
     let t := s.flush s.cur 4
     bindKind (s.ctx.binding 1) = 4 ∧ bindTarget (s.ctx.binding 1) = 5 ∧
     t.queueUsable 5 = true ∧ t.queueSlot 5 = some (0, x) ∧ x.tail - x.head ≠ t.queueSize 5 ∧ 0 < x.flight ∧ t.pushReady 5 = true ∧
     t.ringPlace 5 x.tail true = some (near 0x10040) ∧ Memory.wf t.mem = true ∧ t.behind .failed 0x10040 = false) ∧
    (withQueue 0x800000 0 32 [] id).pushReady 5 = true ∧ (withQueue 0x800000 0 0 [] id).hostReady 5 = true ∧
    (let y : QueueSlot := { queue := 5, tail := 32, records := List.replicate 24 [], word4 := 0x1000000#64 }
     y.records.length ≤ 24 ∧ 0 < y.tail - y.head - y.records.length - y.flight ∧ y.flight = 0) := by decide

/-- What the home agents meet: a waiting queue, arrived records, the end of a quantum with and without another queue, and the host's
TAIL. -/
theorem witness_home_agents :
    let slot : QueueSlot := { queue := 5, tail := 1, flight := 1, word4 := 0x1000000#64 }
    let other : Nat := 0x10001A0
    (let s := (withQueue 0x800000 0 1 [] id).onDie 0 fun d => { d with waiting := [5] }
     s.waitingList 0 = [5] ∧ (s.die 0).slots.length < 64 ∧ s.queueUsable 5 = true ∧ s.queueSlot 5 = none ∧ s.queueDie 5 = 0 ∧
     s.pkg.qtbase.toNat + 64 * 5 + 64 ≤ 2 ^ 60) ∧
    (let s := withQueue 0x1000000 0 1 [(0, slot)] id
     s.queueSlot 5 = some (0, slot) ∧ 0 < slot.flight ∧ (s.ringRead 5 0).isSome = true) ∧
    (let s := { withQueue 0x1000000 0 0 [(0, { slot with tail := 0, flight := 0 })] id with now := 4096 }
     slot.quantum + 4096 ≤ s.now ∧ s.waitingList 0 = [] ∧ bit (s.queueWord 5 4) 22 = false) ∧
    (let s0 := withQueue 0x1000000 0 0 [(0, { slot with tail := 0, flight := 0 })] id
     let s := { s0 with mem := Memory.writeNat other 0x800000 8 (Memory.writeNat (other - 8) 1 8 s0.mem) }.onDie 0 fun d =>
       { d with waiting := [6] }
     s.waitingList (s.queueDie 5) ≠ [] ∧ s.dies.Pairwise (fun e f => e.1 < f.1) ∧ field (s.queueWord 5 4) 20 16 = s.queueDie 5 ∧
     ∀ e ∈ s.dies, ∀ y ∈ e.2.slots, y.2.queue = 5 → e.1 = s.queueDie 5 ∧ s.queueSlot 5 = some y) := by decide

/-- A queue that is mapped, a record that arrives and a quantum that ends, each with what it accesses at hand. -/
theorem witness_home_accesses :
    let x : QueueSlot := { queue := 5, tail := 1, flight := 1, word4 := 0x1000000#64 }
    (let s := (withQueue 0x800000 0 1 [] id).onDie 0 fun d => { d with waiting := [5] }
     s.entryReady 5 = true ∧ poisoned s (s.entryLoc 5) 64 = false ∧ Memory.wf s.mem = true) ∧
    (let s := withQueue 0x1000000 0 1 [(0, x)] id
     s.ringReady 5 0 false = true ∧ s.ringPlace 5 0 false = some { near 0x10000 with direct := true } ∧ poisoned s 0x10000 64 = false) ∧
    (let y : QueueSlot := { x with tail := 0, flight := 0 }
     let s := withQueue 0x1000000 0 0 [(0, y)] id
     s.unmapReady 5 y = true ∧ y.records = [] ∧ y.flight = 0) := by decide

/-- A record of a dispatch queue that makes a kernel. -/
theorem witness_task_take :
    (let v : List Byte := List.replicate 17 0 ++ [0x48] ++ List.replicate 46 0
     let s := withQueue 0x1200000 0 1 [(0, { queue := 5, records := [v], tail := 1, word4 := 0x1200000#64 })] id
     let p : Packet := { words := (List.range 8).map fun i => BitVec.ofNat 64 (leWord v (8 * i) 8), streams := [] }
     bit (s.queueWord 5 4) 21 = true ∧ s.queueUsable 5 = true ∧ s.freeEntry = some 0 ∧ p.ok false = true ∧ p.word 5 = 0#64 ∧
     p.word 6 = 0#64) := by decide +kernel

/-- A host queue, and a TAIL that fits and one that does not. -/
theorem witness_host_tail :
    (let s0 := withQueue 0x1400000 0 0 [(0, { queue := 5, word4 := 0x1400000#64 })] id
     let s := { s0 with mem := Memory.writeNat 0x1000168 0x100 8 s0.mem }
     let c (m : HostMode) : State := { s with pkg := { s.pkg with hostMode := m }, now := 4096 }
     bit (s.queueWord 5 4) 22 = true ∧ s.queueUsable 5 = true ∧ (c .cxl31).pkg.hostMode.isCxl = true ∧
     (c .pcie60).pkg.hostMode.isCxl = false ∧ s.queueTail 5 ≤ 32 ∧ 32 - s.queueHead 5 ≤ s.queueSize 5 ∧
     ¬33 - s.queueHead 5 ≤ s.queueSize 5 ∧ Table.get 0 5 (c .pcie60).pkg.hostPolls + 4096 ≤ (c .pcie60).now) := by decide

/-- A snoop that the home agent sees, and a poll. -/
theorem witness_host_agents :
    let s0 := withQueue 0x1400000 0 0 [(0, { queue := 5, word4 := 0x1400000#64 })] id
    let s := { s0 with mem := Memory.writeNat 0x1000168 0x100 8 s0.mem }
    let p := { s with pkg := { s.pkg with hostMode := .pcie60, boot := .sealed }, now := 4096 }
    s.snoops = .seen ∧ s.dies.Pairwise (fun e f => e.1 < f.1) ∧ field (s.queueWord 5 4) 20 16 = s.queueDie 5 ∧
    (∀ e ∈ s.dies, ∀ y ∈ e.2.slots, y.2.queue = 5 → e.1 = s.queueDie 5 ∧ s.queueSlot 5 = some y) ∧
    p.sealed = true ∧ p.hostReady 5 = true ∧ p.behind .failed (Loc.host 0) = false ∧ bit (p.queueWord 5 4) 22 = true ∧
    p.queueUsable 5 = true ∧ Memory.readNat (p.controlBlock 5) 8 p.mem = 0 := by decide

/-- Operands of an engine command that are right, wrong and uneven, slots that are free and not, and pairs with and without a failure. -/
theorem witness_engine_commands :
    (field 0xFE00000000000100#64 63 56 = 0xFE ∧ (0xFE00000000000100#64).toNat % 16 = 0 ∧ (0xFE00000000000100#64).toNat % 8 = 0) ∧
    (field 0xFA00000000000000#64 63 56 < 0xFB ∧ (0xFE00000000000108#64).toNat % 16 ≠ 0 ∧ (0xFE00000000000104#64).toNat % 8 ≠ 0) ∧
    ((machine id).cluster 0).engine = [] ∧
    (let s := (machine id).onCluster 0 fun c => { c with engine := (List.range 16).map fun k => { aCopy with slot := k } }
     ∀ j < 16, ∃ y ∈ (s.cluster 0).engine, y.slot = j) ∧
    (let s := (machine id).onDie 0 fun d => { d with engine0.jobs := List.replicate 8 (0, 0) }
     ((machine id).die 0).engine0.jobs.length < 8 ∧ 8 ≤ (s.die 0).engine0.jobs.length) ∧
    (let s := machine fun t => (t.setG 1 0xFD00000000078000#64).setG 2 1#64
     field (s.ctx.g 2) 4 0 ≠ 0 ∧ field (s.ctx.g 1) 18 15 + field (s.ctx.g 2) 4 0 ≤ 16 ∧ field (s.ctx.g 1) 63 56 = 0xFD ∧
     s.windowOf s.agent (s.ctx.g 1) = .loc (2 ^ 62 + 0x78000) ∧ s.ctx.loads = [] ∧ s.ctx.stores = [] ∧
     (s.core (coreKey s.cur)).loadQ ++ (s.core (coreKey s.cur)).storeQ = [] ∧ s.recordMoves s.cur = [] ∧
     (s.cluster 0).failedPairs.getLsbD 15 = false) ∧
    (let s := (machine id).onCluster 0 fun c => { c with failedPairs := 0x8000#16 }
     (s.cluster 0).failedPairs.getLsbD 15 = true ∧ s.ctx.trapFatal = false) := by decide

/-- A copy that starts, a beat that moves, a beat that is denied, an arrival, and the completions. -/
theorem witness_copies :
    let a : Agent := { who := ⟨0, 0, 0⟩, asid := 0, sys := false, draft := none }
    let run : EngineCmd := { aCopy with state := .running, src := 0xFE00000000000200#64 }
    (let s := withCommand aCopy id
     s.nextCopy 0 = some aCopy ∧ (s.cluster 0).switchedOut = none) ∧
    (let s := withCommand run id
     s.engineCmd 0 0 = some run ∧ run.faultAt = none ∧ run.copied = false ∧ run.read = none ∧ s.versionOf run.kernel = none ∧
     s.windowOf a run.beatDst = .loc (2 ^ 63 + 0x100) ∧ s.windowOf a run.src = .loc (2 ^ 63 + 0x200) ∧ 0 < run.beatLen ∧
     run.beatLen ≤ 256 - run.src.toNat % 256 ∧ s.reachable 0 (2 ^ 63 + 0x100) run.beatLen = true ∧
     s.reachable 0 (2 ^ 63 + 0x200) run.beatLen = true ∧ s.beyondMark run.kernel run.src.toNat run.beatLen = false ∧
     s.readPoisoned { loc := 2 ^ 63 + 0x200 } run.beatLen = false ∧ (s.thread run.owner).kernel = none ∧
     s.windowOf a 0xFF00000000000000#64 = .deny) ∧
    (let e : EngineCmd := { run with row := 1, bar := 0xFE00000000000300#64 }
     let s0 := withCommand e id
     let s := { s0 with mem := Memory.writeNat (2 ^ 63 + 0x300) (2 ^ 37) 8 [] }
     (s.engineReach 0 e true e.bar).1 = .place { loc := 2 ^ 63 + 0x300 } ∧ s.reachable 0 (2 ^ 63 + 0x300) 8 = true ∧
     s.readPoisoned { loc := 2 ^ 63 + 0x300 } 8 = false ∧ s.behind .failed (2 ^ 63 + 0x300) = false ∧
     (arriveWord (readPlace s { loc := 2 ^ 63 + 0x300 } 0 8)).1 = some (2 ^ 37 + 2 ^ 16) ∧ e.copied = true ∧ e.bar ≠ 0#64 ∧ e.arrived = false) ∧
    (∀ e ∈ ([{ run with row := 1 }, { run with row := 1, mask := 1#64 }, { run with row := 1, via := some (1, 9) }] :
        List EngineCmd),
      (withCommand e id).engineCmd 0 0 = some e ∧ e.copied = true ∧ e.bar = 0#64 ∧ ((withCommand e id).thread e.owner).phase ≠ .retired) := by decide

/-- A beat of each copy: plain, to the other region of a pair, with full/empty bits, by an index, and to a set of clusters. -/
theorem witness_beats :
    let a : Agent := { who := ⟨0, 0, 0⟩, asid := 0, sys := false, draft := none }
    let run : EngineCmd := { aCopy with state := .running, src := 0xFE00000000000200#64, shape := 0x100000010#64 }
    (∀ e ∈ ([run, { run with dst := 0xFD00000000000100#64, sh := true }, { run with fe := true },
        { run with kind := .cpyx, strides := 0xFE00000000000400#64 }, { run with kind := .cpym, dst := 0xFC00000000000100#64, set := 3#64 }] :
        List EngineCmd),
      let s := withCommand e id
      s.engineCmd 0 0 = some e ∧ e.slot = 0 ∧ (s.cluster 0).switchedOut = none ∧ e.state = .running ∧ e.kind ≠ .dec ∧ e.faultAt = none ∧
      e.copied = false ∧ e.read = none ∧ e.pending = [] ∧ e.beatLen = 16 ∧ e.before = [] ∧ e.dests.contains 0 = true ∧
      s.destAddress e.beatDst (e.kind == .cpym) 0 = some e.dst ∧ s.versionOf e.kernel = none ∧
      (∃ d ∈ [2 ^ 63 + 0x100, 2 ^ 62 + 0x100], s.windowOf a e.dst = .loc d ∧ s.reachable 0 (shadowLoc e.sh d) 16 = true ∧
        (s.storageAt (shadowLoc e.sh d)).waits = []) ∧
      s.windowOf a e.src = .loc (2 ^ 63 + 0x200) ∧ s.reachable 0 (2 ^ 63 + 0x200) 16 = true ∧ 16 ≤ 256 - e.src.toNat % 256 ∧
      s.beyondMark e.kernel e.src.toNat 16 = false ∧ s.readPoisoned { loc := 2 ^ 63 + 0x200 } 16 = false ∧
      e.src + BitVec.ofNat 64 e.row * sext (field e.strides 63 32) 32 + BitVec.ofNat 64 e.part = e.src ∧ Memory.wf s.mem = true) ∧
    (let e : EngineCmd := { run with kind := .cpyx, strides := 0xFE00000000000400#64 }
     let s := withCommand e id
     let index := e.strides + BitVec.ofNat 64 (4 * e.row)
     s.windowOf a index = .loc (2 ^ 63 + 0x400) ∧ s.reachable 0 (2 ^ 63 + 0x400) 4 = true ∧ 4 ≤ 256 - index.toNat % 256 ∧
     s.beyondMark e.kernel index.toNat 4 = false ∧ s.readPoisoned { loc := 2 ^ 63 + 0x400 } 4 = false ∧
     e.src + BitVec.ofNat 64 (Memory.readNat (2 ^ 63 + 0x400) 4 s.mem + e.part) = e.src) := by decide

/-- A decode job that starts, and a running one with another frame to come. -/
theorem witness_decodes :
    let d : EngineCmd := { aCopy with kind := .dec, src := 0x40#64 }
    let s (e : EngineCmd) : State := (withCommand e id).onDie 0 fun x => { x with engine0.jobs := [(0, 0)] }
    (let t0 := s d
     let t := { t0 with mem := ([(0x54, 1), (0x68, 1), (0x74, 1)] : List (Nat × Nat)).foldl (fun (m : List Host.Cell) (w : Nat × Nat) => Memory.writeNat w.1 w.2 4 m) [] }
     t.headJob 0 0 = some (0, d) ∧ d.job.started = false ∧ t.engineOrdered d = true ∧ ∃ b t1, t.engineRead 0 d 2 d.src 64 = .data (some b) t1 ∧
       DecodeJob.ok { desc := (List.range 8).map fun i => BitVec.ofNat 64 (leWord b (8 * i) 8) } = true) ∧
    (let e : EngineCmd := { d with state := .running, job := { started := true, desc := [0#64, 0#64, 0x200000000#64] } }
     (s e).headJob 0 0 = some (0, e) ∧ e.job.word 7 = 0#64 ∧ e.faultAt = none ∧ e.failNext = false ∧
     e.job.done + 1 < field (e.job.word 2) 63 32 ∧
     (s e).windowOf { who := e.owner, asid := 0, sys := false, draft := none } e.dst = .loc (2 ^ 63 + 0x100)) :=
  ⟨⟨by decide, by decide, by decide, _, _, rfl, by decide⟩, by decide⟩

/-- A frame that cannot be read, whose record can be written. -/
theorem witness_frames :
    let e : EngineCmd := { aCopy with kind := .dec, src := 0x40#64, state := .running, job := { started := true, desc := [0#64, 0#64, 0x200000000#64] } }
    let s := (withCommand e id).onDie 0 fun x => { x with engine0.jobs := [(0, 0)] }
    s.reachable 0 (2 ^ 63 + 0x100) 8 = true ∧ e.job.frame = none ∧ e.job.word 1 = 0#64 ∧ e.job.started = true := by decide

/-! ### Witnesses: pages and memory -/

/-- A descriptor at 0x40, which g1 names, of a move of a page of address space 1 to 0x40000, with migrations in engine 0. -/
def asked (leaf va : Nat) (l : List Migration) : State :=
  let s0 := withPage leaf (·.setG 1 0x40#64)
  { s0 with
    pkg := { s0.pkg with migrations := [(0, l)] }
    mem := ([(0x40, va), (0x48, 1), (0x50, 0x40000)] : List (Nat × Nat)).foldl
      (fun (m : List Host.Cell) (x : Nat × Nat) => Memory.writeNat x.1 x.2 8 m) s0.mem }

/-- What MIGRATE reaches at g1 once the dirty lines are written back. -/
def flushed (x : State) : Reach × State := (x.flush x.cur 4).reach x.agent (.thread x.cur false) true false false (x.ctx.g 1)

/-- The descriptor can be read at once. -/
abbrev MigrateReady (x : State) : Prop := (x.ctx.g 1).toNat % 32 = 0 ∧ x.ctx.loads = [] ∧ x.ctx.stores = [] ∧
  (flushed x).1 = .place (near 0x40) ∧
  (flushed x).2.mayPerform (flushed x).2.cur (flushed x).2.ctx.nextSeq (near 0x40) 32 false = true ∧
  (flushed x).2.readPoisoned (near 0x40) 32 = false ∧ Memory.wf x.mem = true

/-- A page to probe, and a TLB that may be emptied and one that may not. -/
theorem witness_page_instructions :
    (let s := machine fun t => { t with status := 0#64 }
     s.ctx.sys = false ∧ s.ctx.trapFatal = false ∧ ∃ word, encode (.tlbinv 1 2) = some (word, none)) ∧
    (let s := withPage farLeaf fun t => (t.setG 1 0x10000#64).setG 2 1#64
     s.ctx.sys = true ∧ s.ctx.loads = [] ∧ s.ctx.stores = [] ∧ s.tlbEntries (fun _ => true) = [] ∧
     field (s.ctx.g 1) 63 55 = 0 ∧ field (s.ctx.g 2) 15 0 ≠ 0 ∧ (s.die 0).tlb = []) ∧
    field 0x0080000000000000#64 63 55 ≠ 0 ∧ (machine fun t => { t with loads := [aLoad] }).ctx.loads ≠ [] :=
  ⟨⟨by decide, by decide, _, rfl⟩, by decide⟩

/-- A page that may migrate, and each result of MIGRATE. -/
theorem witness_migrate :
    (MigrateReady (asked farLeaf 0x10001 []) ∧ 0x10001 % 65536 ≠ 0) ∧
    (MigrateReady (asked farLeaf 0x20000 []) ∧ (flushed (asked farLeaf 0x20000 [])).2.frameOk 0x40000 = true ∧
     (flushed (asked farLeaf 0x20000 [])).2.migratable 1 0x20000 = none) ∧
    (MigrateReady (asked farLeaf 0x10000 []) ∧
     (flushed (asked farLeaf 0x10000 [])).2.migratable 1 0x10000 = some (0x30008, BitVec.ofNat 64 farLeaf) ∧ physNear 0x20000000000 = false ∧
     ((flushed (asked farLeaf 0x10000 [])).2.migrationsOf (migrationEngine 0x20000000000 0x40000)).length < 16 ∧
     0x40 + 32 ≤ 0x30008 ∧ 0x30008 + 8 ≤ 2 ^ 64) ∧
    (MigrateReady (asked farLeaf 0x10000 (List.replicate 16 aMove)) ∧
     (flushed (asked farLeaf 0x10000 (List.replicate 16 aMove))).2.migratable 1 0x10000 = some (0x30008, BitVec.ofNat 64 farLeaf) ∧
     16 ≤ ((flushed (asked farLeaf 0x10000 (List.replicate 16 aMove))).2.migrationsOf 0).length) ∧
    (MigrateReady (asked 0x50073 0x10000 []) ∧
     (flushed (asked 0x50073 0x10000 [])).2.migratable 1 0x10000 = some (0x30008, 0x50073#64) ∧
     physNear 0x50000 = true ∧ physNear 0x40000 = true) ∧
    (MigrateReady (asked 0x50963 0x10000 []) ∧ (flushed (asked 0x50963 0x10000 [])).2.migratable 1 0x10000 = none) :=
  ⟨by decide, by decide, by decide, by decide, by decide, by decide⟩

/-- The lines that MIGRATE and a migration touch can be accessed now. -/
theorem witness_lines :
    (flushed (asked farLeaf 0x10000 [])).2.bankReady 0x30008 = true ∧ (flushed (asked farLeaf 0x10000 [])).2.bankReady 0x40 = true ∧
    (∀ n ∈ ([0, 255] : List Nat),
     let m : Migration := { aMove with entered := true, step := n }
     let s := withMoves [m] id
     ∀ i < 4, s.siteReady (homeSite m.old) (m.old + 256 * m.step + 64 * i) = true ∧
       s.siteReady (homeSite m.new) (m.new + 256 * m.step + 64 * i) = true) ∧
    (withMoves [{ aMove with entered := true, step := 256 }] id).bankReady aMove.leafAt = true ∧
    poisoned (withPage farLeaf id) 0x1000000 64 = false ∧ poisoned (withPage farLeaf id) 0x1000040 8 = false := by decide

/-- No link has FAILED: neither right after reset, nor after the accesses that MIGRATE makes. -/
theorem witness_no_link_failed : (∀ k, (machine id).linkState k ≠ .failed) ∧
    ∀ k, (flushed (asked farLeaf 0x10000 [])).2.linkState k ≠ .failed :=
  ⟨fun _ h => (nomatch (show LinkState.up = .failed from h)), fun _ h => (nomatch (show LinkState.up = .failed from h))⟩

/-- A walk that finds its leaf, and one that finds none. -/
theorem witness_walks : (withPage farLeaf id).walk 1 0x10000 = .ok (0x30008, BitVec.ofNat 64 farLeaf, false) ∧
    (withPage farLeaf id).walk 1 0x20000 = .error kindNotValid := ⟨rfl, rfl⟩

/-- A migration before, during and after its copies, and one that residency asks for. -/
theorem witness_migrations :
    (let s := withMoves [aMove] id
     s.migrationsOf 0 = [aMove] ∧ s.engineOpen 0 aMove = true ∧ aMove.entered = false ∧ s.rangeBusy aMove.old 65536 = false ∧
     s.pkg.drafts = [] ∧ Memory.wf s.mem = true) ∧
    (∀ n ∈ ([0, 255] : List Nat),
     let m : Migration := { aMove with entered := true, step := n }
     let s := withMoves [m] id
     s.migrationsOf 0 = [m] ∧ s.engineOpen 0 m = true ∧ m.step < 256 ∧ s.rangeBusy (m.old + 256 * m.step) 256 = false ∧
     m.new + 256 * m.step + 256 ≤ 2 ^ 64 ∧ s.behind .failed (m.new + 256 * m.step) = false ∧
     ∀ i < 4, s.bankReady (m.old + 256 * m.step + 64 * i) = true ∧ s.bankReady (m.new + 256 * m.step + 64 * i) = true ∧
       poisoned s (m.old + 256 * m.step + 64 * i) 64 = false) ∧
    (let m : Migration := { aMove with entered := true, step := 256 }
     let s := withMoves [m] id
     s.migrationsOf 0 = [m] ∧ s.engineOpen 0 m = true ∧ 256 ≤ m.step ∧ s.rangeBusy m.old 65536 = false ∧ s.rangeBusy m.new 65536 = false ∧
     s.pkg.ring = none ∧ m.leafAt + 8 ≤ 2 ^ 64 ∧ s.behind .failed m.leafAt = false ∧ m.status = none ∧ m.new < 2 ^ 52) ∧
    (let m : Stream := { role := 1, base := 0x10000, length := 64 }
     let x : Kernel := { serial := 1, state := .ready, asid := 1, streams := (Vector.replicate 16 {}).set 0 m }
     let s0 := withPage farLeaf id
     let s := { s0 with
       kernels := [(0, x)], mem := ([(0x1000008, 1), (0x1000010, 8), (0x1000040, 0x40000)] : List (Nat × Nat)).foldl
         (fun (m : List Host.Cell) (x : Nat × Nat) => Memory.writeNat x.1 x.2 8 m) s0.mem
       pkg := { s0.pkg with frbase := 0x1000000#64 } }
     s.farPage 0 = some (1, 0x10000, 0x30008, BitVec.ofNat 64 farLeaf) ∧ s.nextFrame = some 0x40000 ∧ s.frameOk 0x40000 = true ∧
     (s.migrationsOf (migrationEngine 0x20000000000 0x40000)).length < 16 ∧ physNear 0x40000 = true ∧ s.frameRing.1 < 2 ^ 64 - 1 ∧
     s.pkg.frbase.toNat + 8 ≤ 2 ^ 60 ∧ 0x30008 + 8 ≤ s.pkg.frbase.toNat ∧ Memory.wf s.mem = true) := by decide

/-- Banks and resources in each state, and a committed line that is folded before a later one. -/
theorem witness_memory_service :
    (let s0 := { machine id with now := 1000000 }
     let s := { s0 with pkg := { s0.pkg with banks := [(1, .openRow 0 0 500000)] } }
     s.bank 0 0 = .precharged ∧ (s.queuedAt fun l => Loc.isPhys l && bankKey l == 0) = false ∧ s.bank 0 1 = .openRow 0 0 500000 ∧
     0 + 2 * 500000 ≤ s.now ∧ (s.queuedAt fun l => (Loc.isPhys l && bankKey l == 1) && Config.rowOf l == 0) = false ∧
     s.testState (.dram 0x40) = .inService ∧ 0x40 < s.draftBase ∧ s.pkg.ring = none) ∧
    (let s0 := machine id
     let s := { s0 with pkg := { s0.pkg with tests := [(.dram 0x80, .testing 0)] } }
     s.testState (.dram 0x80) = .testing 0 ∧ s.pkg.ring = none) ∧
    (let s0 := machine id
     let x : DraftLine := { tag := 0, granule := 0, bytes := [(0, 1), (255, 2)], commit := some 1 }
     let s := { s0 with pkg := { s0.pkg with drafts := [x, { tag := 1, granule := 0, bytes := [], commit := some 2 }] } }
     x ∈ s.pkg.drafts ∧ x.granule * 256 + 256 ≤ 2 ^ 64 ∧ x.bytes.Pairwise (fun y z => y.1 ≠ z.1) ∧ (∀ y ∈ x.bytes, y.1 < 256) ∧
     (∀ y ∈ s.pkg.drafts, y ≠ x → ∀ e ∈ y.commit, 1 < e)) := by decide

/-! ### Witnesses: fetches and vector configuration -/

/-- Requests that are new and old, a block that is cached, one that is not and one that is denied, and a fill that arrives. -/
theorem witness_fetches :
    let asking (b : Nat) (t : Thread) : Thread := { t with request := some (b, 0) }
    let r : ThreadRef × Nat × Nat := (⟨0, 0, 0⟩, 0, 0)
    let reach (s : State) : Reach × State := s.reach (s.agentOf ⟨0, 0, 0⟩) (.thread ⟨0, 0, 0⟩ true) false false true (s.thread ⟨0, 0, 0⟩).pc
    (let s := { machine (asking 0) with now := 64 }
     s.fetchRequests 0 = [r] ∧ s.underTest (ofInstrCache 0) = false ∧ s.nextGroup [r] = some (0, 0) ∧
     (s.thread r.1).requestedAt s.now + 64 ≤ s.now ∧ (reach s).1 = .place (near 0) ∧
     cachedLine ((reach s).2.cluster 0).icache 0 = none ∧ (reach s).2.lineLost 0 0 = false) ∧
    (let s := (machine (asking 0)).onCluster 0 fun c => { c with icache := [{ line := 0, bytes := List.replicate 64 1 }] }
     s.fetchRequests 0 = [r] ∧ s.underTest (ofInstrCache 0) = false ∧ s.nextGroup [r] = some (0, 0) ∧
     ¬(s.thread r.1).requestedAt s.now + 64 ≤ s.now ∧ (reach s).1 = .place (near 0) ∧
     cachedLine ((reach s).2.cluster 0).icache 0 = some (List.replicate 64 1)) ∧
    (let s := machine fun t => { asking 0xFF00000000000000 t with pc := 0xFF00000000000000#64 }
     s.fetchRequests 0 = [(⟨0, 0, 0⟩, 0xFF00000000000000, 0)] ∧ s.underTest (ofInstrCache 0) = false ∧ (reach s).1 = .deny) ∧
    (let f : LineFill := { base := 0, line := 0, threads := [⟨0, 0, 0⟩] }
     let s := (machine id).onCluster 0 fun c => { c with fills := [f] }
     (s.cluster 0).fills[0]? = some f ∧ s.fillDue 0 0 = true ∧ s.lineLost 0 f.line = false ∧ f.threads.Nodup ∧
     ∀ u ∈ f.threads, (s.thread u).wantsBlock = some f.base) := by decide

/-- A walk of the running thread for an address of address space 1, a fault record of that thread, and the machine with both. -/
def aWalk (va : Nat) : Walk := { asid := 1, page := va / 65536, waiters := [{ who := .thread ⟨0, 0, 0⟩ false, va := BitVec.ofNat 64 va }] }
def aFault : FaultRecord :=
  { seq := 0, asid := 1, kind := 0, va := 0x20000#64, word1 := 0#64, handle := 0#64, waiters := [.thread ⟨0, 0, 0⟩ false] }
def withWalk (w : Walk) (l : List FaultRecord) (f : Thread → Thread) : State :=
  (withPage farLeaf f).onDie 0 fun d => { d with walks := [w], faults := l }

/-- A walk of a parked thread, and a walk that fails for a thread that runs, with room for its record and with 256 outstanding. -/
theorem witness_walk_ends :
    let u : ThreadRef := ⟨0, 0, 0⟩
    (let w := aWalk 0x10000
     let s := withWalk w [] fun t => { t with phase := .parked, parkedAt := some (0x10000#64, false) }
     (s.die 0).walks[0]? = some w ∧ s.walkDue 0 0 = true ∧ s.walk 1 (w.page * 65536) = .ok (0x30008, BitVec.ofNat 64 farLeaf, false) ∧
     (s.thread u).phase = .parked) ∧
    (let w := aWalk 0x20004
     let x : Waiter := { who := .thread u false, va := 0x20004#64 }
     let s := withWalk w [] fun t => { t with phase := .waiting }
     s.walk w.asid (w.page * 65536) = .error kindNotValid ∧ (s.die 0).walks[0]? = some w ∧ s.walkDue 0 0 = true ∧ s.asidValid w.asid = true ∧
     w.waiters = [x] ∧ x.va.toNat / 65536 = w.page ∧ (s.thread u).checking = none ∧ (s.thread u).phase = .waiting ∧
     (s.die 0).faults.length < 256 ∧ ((s.die 0).faults.any fun f => f.covers w.asid kindNotValid w.page) = false ∧
     (∀ v ∈ (s.die 0).walks, v.held = none ∨ v = w) ∧ s.faultRoom 0 = false ∧ s.pkg.ring = none) ∧
    (let w := aWalk 0x20000
     let s := withWalk w (List.replicate 256 { aFault with asid := 2 }) id
     s.walk w.asid (w.page * 65536) = .error kindNotValid ∧ (s.die 0).walks[0]? = some w ∧ s.walkDue 0 0 = true ∧ s.asidValid w.asid = true ∧
     256 ≤ (s.die 0).faults.length ∧ ((s.die 0).faults.any fun f => f.covers w.asid kindNotValid w.page) = false) :=
  ⟨⟨by decide, by decide, rfl, by decide⟩, ⟨rfl, by decide⟩, rfl, by decide +kernel⟩

/-- A record with room in the queue, and what the servicer says, with the address space's entry valid and not. -/
theorem witness_faults :
    let u : ThreadRef := ⟨0, 0, 0⟩
    let r := aFault
    (let s0 := (machine id).onDie 0 fun d => { d with faults := [r] }
     let s := { s0 with pkg := { s0.pkg with fqcfg := 0x100001#64 } }
     ((s.die 0).faults.filter fun f => f.posted.isNone) = [r] ∧ s.faultRoom 0 = true ∧ (s.faultQueue 0).2 + 64 ≤ 2 ^ 60 ∧
     s.faultSlot 0 (s.die 0).faultTail + 64 ≤ 2 ^ 60) ∧
    (∀ e ∈ ([1, 0] : List Nat), ∀ v ∈ ([1, 2] : List Nat), ∀ ft ∈ [false, true],
      let f : FaultRecord := { r with posted := some 0, waiters := [.thread u ft] }
      let s0 := (withWords [(8, e), (0x100058, v)] fun t => { t with phase := .parked, parkedAt := some (0x20000#64, ft), asid := 1 }).onDie 0
        fun d => { d with faults := [f] }
      let s := { s0 with pkg := { s0.pkg with fqcfg := 0x100001#64 } }
      (s.die 0).faults[0]? = some f ∧ s.resolveOf 0 f = v ∧ (s.thread u).phase = .parked ∧ (s.thread u).parkedAt = some (0x20000#64, ft) ∧
      s.cutSeq u = none ∧ (s.die 0).walks = [] ∧ (s.asidValid 1 = true ↔ e = 1)) := by decide

/-- Lines of the fault queue that are not poisoned, and a queue without room. -/
theorem witness_fault_lines :
    (let s0 := (machine id).onDie 0 fun d => { d with faults := [aFault] }
     let s := { s0 with pkg := { s0.pkg with fqcfg := 0x100001#64 } }
     poisoned s (s.faultQueue 0).2 64 = false) ∧
    (∀ e ∈ ([1, 0] : List Nat), ∀ v ∈ ([1, 2] : List Nat),
      let s0 := withWords [(8, e), (0x100058, v)] fun t => { t with phase := .parked, asid := 1 }
      let s := { s0 with pkg := { s0.pkg with fqcfg := 0x100001#64 } }
      poisoned s (s.faultSlot 0 0) 32 = false ∧ s.asidHeld 1 = false) ∧
    (let w := aWalk 0x20004
     let s := withWalk w [] fun t => { t with phase := .waiting }
     (s.faultQueue 0).1 ≤ (s.die 0).faultTail - (s.deviceWord ((s.faultQueue 0).2 + 8)).toNat) := by decide

/-- A thread with vector work and one without, and types that a register holds and does not. -/
theorem witness_vector_configuration :
    (let s := machine id
     (∀ v ∈ (s.core (coreKey s.cur)).commands, v.slot ≠ s.cur.slot) ∧ s.tileCommands s.cur = 0) ∧
    (let s := (machine id).onCore 0 fun c => { c with arithQ := [{ op := .mv, seq := 0, vseq := 0, slot := 0, instret := 0, word := 0, vd := 1, va := 2, vb := 0, msk := 0 }] }
     ∃ v ∈ (s.core (coreKey s.cur)).commands, v.slot = s.cur.slot) ∧
    (let size := 1; ¬((17 ≤ 0 ∧ 0 ≤ 22 ∧ size < 32) ∨ (24 ≤ 0 ∧ size = 1) ∨ (machine id).ctx.vlmax * 8 / fmtWidth 0 / size * size = 0)) ∧
    (17 ≤ 17 ∧ 17 ≤ 22 ∧ 16 < 32) := by decide

/-! ### Witnesses: the vector unit -/

/-- An operation that its type accepts, one that no type allows, and a queue that is full. -/
theorem witness_vector_issue :
    (let s := machine typed
     let c := { s.capture (.int .add) 1 2 3 0 (wordsValue (.vadd 1 2 3 0)).toNat with x1 := 0#64, x2 := 0#64 }
     bit s.ctx.vtype 10 = true ∧ c.accepted s.ctx = true ∧ queueEntries (s.core (coreKey s.cur)).arithQ < 16) ∧
    (let s := (machine typed).onCore 0 fun x => { x with arithQ := (List.range 16).map fun k => { aVector (.int .add) with seq := k } }
     16 ≤ queueEntries (s.core (coreKey s.cur)).arithQ) ∧
    (machine id).ctx.trapFatal = false ∧ bit (machine id).ctx.vtype 10 = false := by decide

/-- A vector load whose checks may begin, a full queue, a tile move with a name that is bound and not, and no type. -/
theorem witness_vector_memory :
    (let s := machine typed
     let c := { s.capture (.load .unit) 1 0 0 0 0 with x1 := s.ctx.g 1, x2 := 0#64, nf := 0 }
     bit s.ctx.vtype 10 = true ∧ c.memoryAccepted s.ctx = true ∧ c.op.isTileMove = false ∧ s.queueFull c.op = false ∧
     s.countRoom c.op = true ∧ s.checkBlocked c = false) ∧
    (let s := (machine typed).onCore 0 fun x => { x with loadQ := (List.range 16).map fun k => { aVector (.load .unit) with seq := k } }
     s.queueFull (.load .unit) = true) ∧
    (let s := machine typed
     let c := { s.capture .tld 2 0 0 0 0 with x1 := 0#64, x2 := 64#64, sources := [0], scalar := some 8#64 }
     c.memoryAccepted s.ctx = true ∧ c.op.isTileMove = true ∧ s.ctx.tile c.vd = .unbound ∧ s.ctx.trapFatal = false) ∧
    (withMatrix { seq := 0, slot := 0, op := .mzero } typed).ctx.tile 2 ≠ .unbound := by decide

/-- Elements that are active, masked off and padding, at the two ends of a register. -/
theorem witness_elements :
    let c := aVector (.int .add)
    let t := (machine typed).ctx
    c.width = 8 ∧ c.rsz = 0 ∧ 0 < c.width ∧ c.vd < 64 ∧ 8 * 2047 + 8 ≤ 8 * t.vlmax ∧ (0 < c.vreq ∧ t.maskBit c.msk 0 = true) ∧
    c.vreq ≤ 2047 ∧ t.maskBit 1 0 = false := by decide

/-- Operations on one element, each in a format of its own, active, masked off and padding, up to the last element of a register; an
insertion of a plane's bit; and destinations among the mask registers. -/
theorem witness_formats :
    let t := (machine typed).ctx
    (∀ x ∈ ([(.fp .add, 8), (.fp .fma, 11), (.fp .sqrt, 10), (.fp .sgnjn, 9), (.mv, 0), (.mvs, 3), (.cvt, 8), (.dqnt, 17), (.plx, 4),
        (.pli, 4), (.merge, 0)] : List (VOp × Nat)),
      let c : VCmd := { aVector x.1 with vtype := BitVec.ofNat 64 (0x400 + x.2), vb := 10 }
      let w := c.destWidth
      0 < w ∧ w ≤ t.vbits ∧ c.vd * t.vbits + w * (t.vbits / w - 1) + w ≤ 64 * t.vbits ∧ 0 < c.vreq ∧ t.maskBit c.msk 0 = true ∧
      c.vreq ≤ 64 ∧ t.maskBit 1 0 = false) ∧
    (let c : VCmd := { aVector .pli with vtype := 0x404#64, vb := 7 }
     c.vb < 8 ∧ ∀ b < 8, (0 : Nat).testBit b = if b = 7 - c.vb then (t.vElem c.va 1 0).testBit 0 else (t.vElem c.vd 8 0).testBit b) ∧
    (∀ op ∈ ([.cmp 5, .feq 3, .maskLogic 3] : List VOp), 0 < (aVector op).vd ∧ (aVector op).vd < 8 ∧ 63 < (aVector op).vreq) := by decide

/-- Whole-operand commands with captured sources, and element numbers inside and outside a register. -/
theorem witness_whole_operands :
    let t := (machine typed).ctx
    ∀ op ∈ ([.mpopc, .mfirst, .ext, .ins, .slup, .sldn, .gath, .iota, .red .sum] : List VOp),
      let c : VCmd := { aVector op with sources := [1, 2, 3, 4], x2 := 2047#64 }
      c.sources = [1, 2, 3, 4] ∧ c.width = 8 ∧ c.vlmax = t.vlmax ∧ c.rsz = 0 ∧ c.scalar = none ∧ c.limit = c.vl ∧
      c.x2.toNat < 8 * c.vlmax / 8 ∧ 8 * c.vlmax / 8 ≤ 2048 ∧ c.fmt < 4 ∧ c.vd < 64 ∧ 8 * c.vl ≤ 8 * t.vlmax := by decide

/-- Whole-operand commands under a mask. -/
theorem witness_whole_masks :
    let t := (machine typed).ctx
    (∀ op ∈ ([.mset, .comp, .red .min, .red .max, .red .and, .red .or, .dot4] : List VOp),
      let c : VCmd := { aVector op with sources := [1, 2, 3, 2] }
      c.sources = [1, 2, 3, 2] ∧ c.width = 8 ∧ c.vlmax = t.vlmax ∧ c.rsz = 0 ∧ c.scalar = none ∧ c.limit = c.vl ∧ 0 < c.vd ∧ c.vd < 8 ∧
      8 * c.vl ≤ 8 * t.vlmax ∧ 32 ≤ t.vbits ∧ c.vd * t.vbits + 8 * c.vl ≤ 64 * t.vbits ∧ 1 < c.vreq) ∧
    Nat.testBit 3 1 = true ∧ Nat.testBit 2 1 = true ∧ Nat.testBit 2 0 = false := by decide

/-- The elements that a mask selects, in order. -/
theorem selected_list (n m k : Nat) :
    let l := (List.range n).filter fun j => decide (j < m) && k.testBit j
    l.Pairwise (· < ·) ∧ ∀ j, j ∈ l ↔ j < n ∧ j < m ∧ k.testBit j = true :=
  ⟨List.Pairwise.filter _ List.pairwise_lt_range, fun j => by simp⟩

/-- A load whose checks pass, one whose first element is denied, a head that takes a lane group, a chunk in flight, a whole operand that
completes, and a command that was stalled. -/
theorem witness_vector_execution :
    (let c : VCmd := { aVector (.load .unit) with started := false, x1 := 0xFE00000000000100#64 }
     let s := machine fun t => { typed t with phase := .waiting, checking := some c }
     (s.thread s.cur).phase = .waiting ∧ (s.thread s.cur).owedTrap = none ∧ (s.thread s.cur).checking = some c ∧ s.walking s.cur false = false ∧
     s.mayEnter s.cur c = true ∧ bit (s.thread s.cur).status 4 = false ∧
     ∃ c1 s1, s.checkUnits s.cur c c.units = .pass c1 s1) ∧
    (let c : VCmd := { aVector (.load .unit) with started := false, x1 := 0xFF00000000000000#64 }
     let s := machine fun t => { typed t with phase := .waiting, checking := some c }
     (s.thread s.cur).trapFatal = false ∧ s.walking s.cur false = false ∧ s.mayEnter s.cur c = true ∧ s.cutSeq s.cur = none ∧ ∃ va c1 s1, s.checkUnits s.cur c c.units = .fail 0 5 va c1 s1 ∧ 0 ≤ c1.vstart ∧
       c1.op ≠ .load .faultFirst) ∧
    (let c := aVector (.int .add)
     let s := withVector c typed
     s.heads 0 = [(0, 1, c)] ∧ s.eligible 0 c = true ∧ c.started = true ∧ c.op.whole = false ∧ c.op.isTileMove = false ∧ c.chunk (s.thread ⟨0, 0, 0⟩) = some (0, 64) ∧
     64 = c.limit ∧ c.flight = [] ∧ (s.core 0).queue c.op.queue = [c]) ∧
    (let c := { aVector (.int .add) with flight := [(0, 64, 0)] }
     let s := withVector c typed
     (s.core 0).commands[0]? = some c ∧ c.op.queue = 1 ∧ s.writeFree 0 c 0 64 = true ∧ s.underTest (ofVectorFile 0) = false ∧
     c.sampled = false ∧ (s.thread ⟨0, 0, 0⟩).kernel = none) ∧
    (let c := { aVector .slup with left := true, sources := [1, 2, 3, 4] }
     let s := withVector c typed
     (s.core 0).commands[0]? = some c ∧ c.op.whole = true ∧ s.stoppedAt ⟨0, 0, 0⟩ = false ∧ s.writeFree 0 c 0 64 = true ∧
     s.underTest (ofVectorFile 0) = false) ∧
    (let c := { aVector (.load .unit) with stalled := true }
     let s := withVector c typed
     (s.core 0).commands[0]? = some c ∧ c.chunk (s.thread ⟨0, 0, 0⟩) = some (0, 64) ∧ s.chunkBeyond 0 c 0 64 = false) :=
  ⟨⟨by decide, by decide, by decide, by decide, by decide, by decide, _, _, rfl⟩, ⟨by decide, by decide, by decide, by decide, _, _, _, rfl, by decide, by decide⟩,
    by decide⟩

/-- An element of each form of a vector load and of a store in flight, to the core's own store and to near memory. -/
theorem witness_vector_transfers :
    (∀ op ∈ ([.load .unit, .load .faultFirst, .load .strided, .load .indexed, .store .unit, .store .strided, .store .indexed] : List VOp),
      ∀ x ∈ ([(0xFE00000000000100#64, 2 ^ 63 + 0x100), (0x100#64, 0x100)] : List (Word × Nat)),
      let c : VCmd := { aVector op with x1 := x.1, x2 := 3#64, flight := [(63, 64, 0)] }
      let s := withVector c typed
      let u : ThreadRef := ⟨0, 0, 0⟩
      let ea := c.x1 + match (match op with | .load f | .store f => f | _ => .unit) with
        | .strided => BitVec.ofNat 64 63 * c.x2
        | .indexed => BitVec.ofNat 64 ((s.thread u).vElem c.va 32 63)
        | _ => BitVec.ofNat 64 (8 * 63 / 8)
      let l := x.2 + (ea - c.x1).toNat
      (s.core 0).commands[0]? = some c ∧ s.writeFree 0 c 63 64 = true ∧ c.sampled = false ∧ (s.core 0).queue c.op.queue = [c] ∧
      (s.thread u).kernel = none ∧ c.width = 8 ∧ 63 < c.vreq ∧ (s.thread u).maskBit c.msk 63 = true ∧
      (s.cmdPlace u c ea).any (fun p => p.loc == l && p.draft.isNone && s.readPoisoned p 1 == false) = true ∧ s.unitReady u c 63 = true ∧
      s.underTest (ofVectorFile 0) = false ∧ 8 * 63 + 8 ≤ 8 * (s.thread u).vlmax ∧ s.behind .failed l = false ∧
      s.earlierCmds 0 c.slot c.seq = [] ∧ Memory.wf s.mem = true) := by decide +kernel

/-! ### Witnesses: the tile unit, dispatch, commits and switches -/

/-- A name that is bound with room, bound with a full queue, and unbound, with a type and without, and records at right and wrong places. -/
theorem witness_tile_issue :
    (let s := withMatrix { seq := 0, slot := 0, op := .mzero } typed
     let c := s.captureTile .mopa 2 2 4 0 0
     s.ctx.tile 2 ≠ .unbound ∧ ¬8 ≤ (s.core (coreKey s.cur)).tileQ.length ∧ bit s.ctx.vtype 10 = true ∧
     (c.op.path c.fmt).isSome = true ∧ c.inFile s.ctx = true ∧ groupFits s.ctx 63 1 = false ∧ groupFits s.ctx 2 1 = true) ∧
    (let s := (machine typed).onCore 0 fun x => { x with tileQ := List.replicate 8 { seq := 0, slot := 0, op := .mzero } }
     8 ≤ (s.core (coreKey s.cur)).tileQ.length ∧ s.ctx.tile 2 = .unbound ∧ s.ctx.trapFatal = false) ∧
    (let s := withG 1 0x800#64
     (s.ctx.g 1).toNat % 2048 = 0 ∧ (s.reach s.agent (.thread s.cur false) false true false (s.ctx.g 1)).1 = .place (near 0x800)) ∧
    (let s := withG 1 0xFF00000000000000#64
     (s.reach s.agent (.thread s.cur false) false true false (s.ctx.g 1)).1 = .deny) ∧
    (withG 1 0x7FF#64).ctx.g 1 = 0x7FF#64 := by decide

/-- Slots that are all FREE, all LIVE but a HELD one, and all LIVE; a name in use and one that is not. -/
theorem witness_tile_slots :
    let full (st : SlotState) : State := (machine id).onCluster 0 fun c => { c with
      slots := (Vector.replicate 64 { state := .live }).set 63 { state := st } }
    ((machine id).ctx.tile 2 = .unbound ∧ ((machine id).cluster 0).slot 0 = {} ∧ (machine id).awaited 0 0 = false ∧
     (machine id).owedTiles 0 < (machine id).bindable 0) ∧
    ((((full .held).cluster 0).slot 63).state = .held ∧ (full .held).awaited 0 63 = false ∧ (full .held).owedTiles 0 < (full .held).bindable 0) ∧
    ((∀ j < 64, (((full .live).cluster 0).slot j).state = .live) ∧ ¬(full .live).owedTiles 0 < (full .live).bindable 0) ∧
    (withMatrix { seq := 0, slot := 0, op := .mzero, ta := 2 } id).tileInUse 2 = true ∧ (machine id).tileInUse 2 = false := by decide

/-- A step of I8 below the promotion, and a run that is promoted. -/
theorem witness_tile_arithmetic :
    (let c : TCmd := { seq := 0, slot := 0, op := .mopa, fmt := 0, sources := [1, 2], masks := [1, 1, 1] }
     c.update = 0 ∧ c.slice = 0 ∧ (c.masks.getD 2 0).testBit 0 = true ∧ ({} : Tile).kind = .none ∧ ({} : Tile).counter + 1 ≠ c.run) ∧
    (let x : Tile := { kind := .int24, counter := 1, reach := 1 }
     x.kind = .int24 ∧ x.counter ≠ 0 ∧ x.reach.testBit 0 = true ∧ x.reach.testBit 255 = false ∧ x.wide = 0 ∧
     x.partialPlane = 0 ∧ x.rowScale < 2 ^ 128 ∧ x.colScale < 2 ^ 128 ∧ x.counter ≤ 16 ∧ x.reach < 2 ^ 256) := by decide

/-- A step on each path below its promotion, and runs that are promoted. -/
theorem witness_tile_paths :
    (∀ op ∈ ([.mopa, .mops, .mopan] : List TOp), op.path 0 = some (.part .int24) ∧ op.path 8 = some .wide ∧
      let c : TCmd := { seq := 0, slot := 0, op := op, fmt := 0, sources := [1, 2], masks := [1, 1, 1] }
      c.update = 0 ∧ c.slice = 0 ∧ (c.masks.getD 2 0).testBit 0 = true ∧ c.tie = false ∧ ({} : Tile).kind = .none ∧
      ({} : Tile).counter + 1 ≠ c.run) ∧
    (let c : TCmd := { seq := 0, slot := 0, op := .mopan, fmt := 12, sources := [1, 2], masks := [1, 1, 1] }
     let x : Tile := { kind := .np24, counter := 2, rowScale := unitScales, colScale := unitScales }
     TOp.mopan.path 12 = some (.part .np24) ∧ x.rowScale = unitScales ∧ x.colScale = unitScales ∧ x.counter + 1 ≠ c.run) ∧
    (let x : Tile := { kind := .np24, counter := 1, reach := 2 ^ 255, rowScale := 255, colScale := 2 ^ 127 }
     x.kind = .np24 ∧ x.counter ≠ 0 ∧ x.reach.testBit (16 * 15 + 15) = true ∧ elem x.rowScale 8 0 = 255 ∧ elem x.colScale 8 15 ≠ 255) := by
  decide

/-- The head of a tile command queue, and each command in the unit. -/
theorem witness_tile_execution :
    (let c : TCmd := { seq := 0, slot := 0, op := .mopa, ta := 2 }
     let s := (machine typed).onCore 0 fun x => { x with tileQ := [c] }
     s.tileHeads 0 = [(0, c)] ∧ (s.cluster 0).matrix = none ∧ s.tileEligible 0 c = true ∧ c.started = false ∧
     s.recordLost ⟨0, 0, 0⟩ c.ta = false) ∧
    (∀ op ∈ ([.mma16, .mopa, .mzero, .mprom, .trdv, .trdc, .twrv, .twrc, .tsave, .trest] : List TOp),
      let c : TCmd := { seq := 0, slot := 0, op := op, ta := 2, pieces := (List.range 8).map fun i => { loc := 2 ^ 63 + 256 * i }
                        masks := [1, 1, 1], sources := [1, 2] }
      let s := withMatrix c typed
      (s.cluster 0).matrix = some (0, c) ∧ s.tileCompletes 0 = true ∧ (s.thread ⟨0, 0, 0⟩).phase ≠ .retired ∧ c.tie = false ∧
      (s.thread ⟨0, 0, 0⟩).tile c.ta = .inSlot 5 ∧ (s.thread ⟨0, 0, 0⟩).kernel = none ∧ (s.tileOf ⟨0, 0, 0⟩ c.ta).counter = 0 ∧
      ∀ i < 8, s.readPoisoned { loc := 2 ^ 63 + 256 * i } 256 = false) ∧
    TOp.mma16.count = 16 := by decide

/-- Kernels that leave QUEUED: one held back, one with no control block, and blocks with a count and without; and HELD ones. -/
theorem witness_from_queued :
    (let x : Kernel := { aKernel .queued with holdDebug := true }
     let s := { withKernel x id with now := 16 }
     s.kernel 0 = some x ∧ x.acceptedAt + 16 ≤ s.now ∧ x.launcher = none ∧ x.word 6 = 0#64 ∧ x.heldBack = true) ∧
    (∀ n ∈ ([0, 1] : List Nat),
      let x : Kernel := { aKernel .queued with packet := (Vector.replicate 8 0#64).set 6 0x40#64 }
      let s := { withWords [(0x48, n)] id with kernels := [(0, x)], now := 16 }
      s.kernel 0 = some x ∧ x.heldBack = false ∧ s.pkg.boot = .rollCall ∧ s.pkg.drafts = [] ∧ x.asid = 0 ∧ (x.word 6).toNat % 64 = 0 ∧
      Memory.readNat 0x48 8 s.mem = n ∧ Memory.wf s.mem = true ∧ (∀ i < 64, s.behind .failed (0x40 + i) = false) ∧
      s.tcbOf { x with state := .held } = some (near 0x40) ∧ s.blockWordAt (near 0x40) 1 = BitVec.ofNat 64 n) ∧
    (let x : Kernel := aKernel .held
     (withKernel x id).tcbOf x = none ∧ x.parent = none) ∧
    (let x : Kernel := { aKernel .held with parent := some 1 }
     x.parent.isSome = true ∧ bit (x.word 2) 1 = false) := by decide

/-- A task control block whose line is not poisoned. -/
theorem witness_block_line : poisoned (withWords [(0x48, 1)] id) 0x40 64 = false := by decide

/-- A kernel that partition 0 dispatches, and a page that one waits for. -/
theorem witness_dispatch :
    (let s0 := sealedWith [(0, { resident := true })] [(0, { aKernel .ready with cores := [] })] fun t => { t with phase := .free }
     ∃ d x, s0.nextDispatch 0 = some (0, d) ∧ s0.kernel 0 = some x ∧ x.word 6 = 0#64) ∧
    (let m : Stream := { role := 1, base := 0x10000, length := 64 }
     let x : Kernel := { aKernel .ready with asid := 1, streams := (Vector.replicate 16 {}).set 0 m }
     let s := sealedWith [(0, { resident := true })] [(0, x)] id
     s.nextDispatch 0 = none ∧ s.residencyWalk 0 = some (0, x, 0x10000) ∧ (s.die (kernelDie 0)).walks = [] ∧
     (s.partition 0).stopped = []) ∧
    (let x := aKernel .placing
     let s := sealedWith [(0, { resident := true })] [(0, x)] id
     s.kernel 0 = some x ∧ x.state = .placing ∧ s.prepareDue 0 = true ∧ x.wholeClusters = false ∧ x.word 6 = 0#64 ∧ x.cores.Nodup ∧
     (s.core 0).localStore.waits = [] ∧ Memory.wf s.mem = true) :=
  ⟨⟨_, _, rfl, rfl, by decide⟩, by decide, by decide⟩

/-- A commit that starts and one that ends, and the entries of a successor list. -/
theorem witness_commits :
    (let s := sealedWith [] [(0, aKernel .done)] id
     s.kernel 0 = some (aKernel .done) ∧ (s.kernels.map fun q => q.1).Nodup ∧ s.pkg.ring = none ∧ s.commitDue 0 = true ∧
     (∀ q ∈ s.kernels, q.2.word 6 = 0#64 ∧ q.2.fromQueue = none ∧ q.2.parent = none)) ∧
    (let s0 := sealedWith [] [(0, aKernel .committing)] id
     let s := { s0 with pkg := { s0.pkg with sequencer := some 0 } }
     s.commitEndDue = true) ∧
    (let x : Kernel := { aKernel .committed with packet := (Vector.replicate 8 0#64).set 6 0x40#64, walkNext := some 0 }
     let s (n e : Nat) : State := { withWords [(0x50, 0x1000), (0x58, n), (0x1000, e), (0x2000, 1), (0x2008, 2)] id with kernels := [(0, x)] }
     (s 1 0).tcbOf x = some (near 0x40) ∧ (s 0 0).blockWordAt (near 0x40) 3 = 0#64 ∧ (s 1 0).blockWordAt (near 0x40) 3 = 1#64 ∧
     (s 1 0).devicePlace 0 false 0x1000#64 = some (near 0x1000) ∧ (s 1 0).blockWordAt (near 0x1000) 0 = 0#64 ∧
     (s 1 0x2000).blockWordAt (near 0x1000) 0 = 0x2000#64 ∧ (s 1 0x2000).tcbPlace 0 0x2000#64 = some (near 0x2000) ∧
     (s 1 0x2000).behind .failed 0x2000 = false ∧
     (HomeOp.tdep.apply (readPlace (s 1 0x2000) (near 0x2000) 0 16)).write = some (1 + 2 ^ 64) ∧
     readPlace (s 1 0x2000) (near 0x2000) 0 16 / 2 ^ 64 ≠ 1) := by decide

/-- The commit of a lone kernel with a task control block, from a queue and with a HELD child; and a step of its walk that is due. -/
theorem witness_lone_commits :
    let done (x : Kernel) (s : State) : Prop := s.kernel 0 = some x ∧ (s.kernels.map fun q => q.1).Nodup ∧ s.pkg.ring = none ∧
      s.commitEndDue = true ∧ s.pkg.sequencer = some 0 ∧ x.tag = none
    (let x : Kernel := { aKernel .committing with packet := (Vector.replicate 8 0#64).set 6 0x40#64 }
     let s0 := withWords [(0x40, 4)] id
     let s := { s0 with kernels := [(0, x)], pkg := { s0.pkg with sequencer := some 0 }, now := 2 ^ 25 }
     done x s ∧ Memory.wf s.mem = true ∧ s.pkg.boot = .rollCall ∧ s.pkg.drafts = [] ∧ x.asid = 0 ∧ x.word 6 ≠ 0#64 ∧ (x.word 6).toNat % 64 = 0 ∧
     (∀ i < 64, s.behind .failed (0x40 + i) = false) ∧ x.fromQueue = none ∧ ∀ e ∈ s.kernels, e.2.parent ≠ some 0) ∧
    (let x : Kernel := { aKernel .committing with fromQueue := some (5, 0) }
     let z : QueueSlot := { queue := 5, head := 1, tail := 1, word4 := 0x1000000#64 }
     let s0 := withQueue 0x1000000 1 1 [(0, z)] id
     let s := { s0 with kernels := [(0, x)], pkg := { s0.pkg with sequencer := some 0 }, now := 2 ^ 25 }
     done x s ∧ x.word 6 = 0#64 ∧ x.fromQueue = some (5, 0) ∧ (∀ e ∈ s.kernels, e.1 = 0) ∧ s.queueSlot 5 = some (0, z)) ∧
    (let x := aKernel .committing
     let y : Kernel := { aKernel .held with parent := some 0 }
     let s0 := sealedWith [] [(0, x), (1, y)] id
     let s := { s0 with pkg := { s0.pkg with sequencer := some 0 } }
     done x s ∧ x.word 6 = 0#64 ∧ s.kernel 1 = some y ∧ y.parent = some 0 ∧ y.state = .held ∧ y.holdDebug = false ∧ y.word 6 = 0#64) ∧
    (let x : Kernel := { aKernel .committed with packet := (Vector.replicate 8 0#64).set 6 0x40#64, walkNext := some 0 }
     let s := { withWords [(0x50, 0x1000), (0x58, 1), (0x1000, 0x2000), (0x2000, 1), (0x2008, 2)] id with kernels := [(0, x)] }
     s.kernel 0 = some x ∧ x.walkNext = some 0 ∧ s.walkStepDue 0 = true ∧ poisoned s 0x1000 8 = false ∧ poisoned s 0x2000 64 = false) := by decide

/-- Aborts that are retried and not, overflows with and without escalation, and an entry to release. -/
theorem witness_aborts :
    (let x (w2 : Word) : Kernel := { aKernel .aborting with packet := (Vector.replicate 8 0#64).set 2 w2, status := 0x42 }
     let s (w2 : Word) : State := sealedWith [] [(0, x w2)] id
     (s 0x4821).discardDue 0 = true ∧ (s 0x4821).mayLeave (x 0x4821) = true ∧ (x 0x4821).retried = true ∧
     (s 0x4800).discardDue 0 = true ∧ (s 0x4800).mayLeave (x 0x4800) = true ∧ (x 0x4800).retried = false) ∧
    (let x (w2 : Word) : Kernel := { aKernel .running with packet := (Vector.replicate 8 0#64).set 2 w2, tag := some 0, overflow := [0] }
     let y : Kernel := { aKernel .running with
       packet := (Vector.replicate 8 0#64).set 3 0xFFFFFFFF00000000#64, tag := some 1, part := 1, dispatchSeq := 1 }
     let s (w2 : Word) : State := sealedWith [] [(0, x w2), (1, y)] id
     (s 1).escalationDue 0 = true ∧ bit ((x 1).word 2) 2 = false ∧ (s 5).escalationDue 0 = true ∧ bit ((x 5).word 2) 2 = true ∧
     (∀ q ∈ (s 5).kernels, q.2.word 6 = 0#64 ∧ q.2.fromQueue = none)) ∧
    (sealedWith [] [(0, aKernel .committed)] id).releaseDue 0 = true := by decide

/-- The end of an abort of a kernel with a task control block, and of one whose kept stores have been performed. -/
theorem witness_abort_ends :
    (let x : Kernel := { aKernel .aborting with packet := ((Vector.replicate 8 0#64).set 2 0x4800#64).set 6 0x40#64, status := 0x42 }
     let s := { withWords [(0x40, 4)] id with kernels := [(0, x)], now := 2 ^ 25 }
     s.kernel 0 = some x ∧ s.pkg.ring = none ∧ s.pkg.drafts = [] ∧ s.discardDue 0 = true ∧ s.mayLeave x = true ∧ x.retried = false ∧
     x.cancelled = false ∧ x.tag = none ∧ x.fromQueue = none ∧ s.tcbOf x = some (near 0x40) ∧ Memory.wf s.mem = true ∧
     ∀ i < 64, s.behind .failed (0x40 + i) = false) ∧
    (let x (w : Word) : Kernel := { aKernel .aborting with packet := (Vector.replicate 8 0#64).set 2 w, status := 0x42 }
     let s (w : Word) : State := sealedWith [] [(0, x w)] id
     (s 0x4821).keptPerformed 0 (x 0x4821) = true ∧ (s 0x4800).keptPerformed 0 (x 0x4800) = true ∧ (x 0x4800).parent = none ∧
     ((s 0x4800).kernels.map fun q => q.1).Nodup ∧ ∀ q ∈ (s 0x4800).kernels, q.2.word 6 = 0#64 ∧ q.2.fromQueue = none) := by decide

/-- Partitions that wait: with nothing in their way, switched out, behind a busy one and behind an idle one. -/
theorem witness_partitions :
    (∀ sw ∈ [false, true], 
      let s := sealedWith [(0, { switched := sw })] [(0, aKernel .ready)] id
      s.switchDue 0 = true ∧ s.stateOwed 0 = none ∧ s.blockers 0 = [] ∧ (s.partition 0).switched = sw ∧ s.pkg.ptbase.toNat + 2048 ≤ 2 ^ 60 ∧
      ∀ q < 64, s.behind .failed (s.pkg.ptbase.toNat + 32 * q + 16) = false) ∧
    (let s0 := sealedWith [(0, {})] [] id
     let s := { s0 with mem := Memory.writeNat 0x2000010 0 8 s0.mem }
     s.switchDue 0 = true ∧ s.stateOwed 0 = some 3) ∧
    (∀ st ∈ [KState.running, KState.committed],
      let s := sealedWith [(0, {}), (1, { resident := true })] [(0, aKernel .ready), (1, { aKernel st with part := 1 })] id
      s.switchDue 0 = true ∧ s.stateOwed 0 = none ∧ s.blockers 0 = [1] ∧ s.partIdle 1 = (st == .committed) ∧
      (s.partition 1).inTransit = false ∧ (s.partition 0).switched = false ∧
      (s.pkg.partitions.map fun q => q.1).Pairwise (· < ·)) := by decide

/-- A bell that all of a partition's clusters reach and one that a cluster whose die's unit is not locked does not, the units of a save and
of a restore, a resume bell and a kill. -/
theorem witness_gang_switch :
    (let s := sealedWith [(0, { resident := true, bell := some 0 })] [] id
     s.bellDue 0 = true ∧ s.bellClusters 0 = [0] ∧ (s.cluster 0).matrix = none ∧ (s.cluster 0).engine = [] ∧ s.partClusters 0 = [0] ∧
     s.pkg.ptbase.toNat + 24 ≤ 2 ^ 60 ∧ s.behind .failed (s.pkg.ptbase.toNat + 16) = false ∧ Memory.wf s.mem = true ∧
     s.liveThreads 0 = [⟨0, 0, 0⟩]) ∧
    (let s0 := sealedWith [(0, { resident := true, bell := some 0 })] [] id
     let s := { s0 with mem := Memory.writeNat 0x2000000 0x4154 8 s0.mem }
     s.bellDue 0 = true ∧ s.partClusters 0 = [340, 352] ∧ s.bellClusters 0 = [340] ∧ (s.partition 0).stopped = []) ∧
    (let s := sealedWith [(0, { toSave := [.thread ⟨0, 0, 0⟩] })] [] fun t => { t with phase := .switched }
     s.saveDue 0 (.thread ⟨0, 0, 0⟩) = true) ∧
    (let s := sealedWith [(0, { toRestore := [.thread ⟨0, 0, 1⟩], savedThreads := [(⟨0, 0, 1⟩, {})] })] [] id
     (s.partition 0).savedThreads.find? (fun q => q.1 == ⟨0, 0, 1⟩) = some (⟨0, 0, 1⟩, {}) ∧ s.restoreDue 0 (.thread ⟨0, 0, 1⟩) = true ∧
     (s.partition 0).spoiled.contains (.thread ⟨0, 0, 1⟩) = false) ∧
    (let s := sealedWith [(0, { resumeBell := some 0 })] [] fun t => { t with phase := .switched, bellPrior := .ready }
     s.resumeDue 0 = true ∧ (s.kernels.map fun q => q.1).Nodup ∧ (s.thread ⟨0, 0, 0⟩).phase = .switched) ∧
    (let s := sealedWith [(0, { resident := true })] [] id
     s.killReaches 0 0 = true ∧ s.liveOn 0 0 = true ∧ (s.thread ⟨0, 0, 0⟩).phase ≠ .free) := by decide

/-- A save unit that is not spoiled. -/
theorem witness_save :
    let s := sealedWith [(0, { toSave := [.thread ⟨0, 0, 0⟩] })] [] fun t => { t with phase := .switched }
    s.saveDue 0 (.thread ⟨0, 0, 0⟩) = true ∧ (s.partition 0).spoiled.contains (.thread ⟨0, 0, 0⟩) = false := by decide

/-! ### Witnesses: links, power and the debugger -/

/-- Links in each state, and the channels at the ends of what exists. -/
theorem witness_links :
    let s (x : LinkInfo) : State := { machine id with pkg := { (machine id).pkg with links := [(Link.host, x)] } }
    (s {}).pkg.ring = none ∧ linkReal .host = true ∧ linkReal (.crossing 37 (boundaryChannels 37 - 1)) = true ∧
    linkReal (.crossing 37 (boundaryChannels 37)) = false ∧ linkReal (.crossing 38 0) = false ∧ (s {}).pkg.boot = .rollCall ∧ (s { state := .training, failedAttempts := 1 }).linkState .host = .training ∧
    ((s { state := .training, failedAttempts := 1 }).linkInfo .host).failedAttempts < 2 ∧
    2 ≤ ((s { state := .training, failedAttempts := 2 }).linkInfo .host).failedAttempts ∧ (s {}).linkState .host = .up ∧
    (s { state := .down }).linkState .host = .down ∧ (s { state := .failed }).linkState .host = .failed := by decide

/-- A unit at each message of an exchange, in each lock state, and after few and many missed exchanges. -/
theorem witness_package_time :
    let s (u : TimeUnit) : State := { (machine id).onDie 1 fun d => { d with time := u } with now := 2700 }
    (((s {}).die 1).time.t1 = none ∧ ((s {}).die 1).time.exchangeAt + 2700 ≤ (s {}).now) ∧
    (∀ k ∈ ([.unlocked, .locking, .locked] : List Lock), ∀ t4 ∈ ([100, 20000] : List Nat), ∀ n ∈ ([6, 7] : List Nat),
      let u : TimeUnit := { lock := k, t1 := some 100, t2 := some 100, t3 := some 100, t4 := some t4, good := n }
      ((s u).die 1).time = u ∧ ((s u).die (timeParent 1)).time.lock = .locked ∧
      (((timeDiff 100 100 - timeDiff t4 100).tdiv 2).natAbs ≤ 4096 ↔ t4 = 100)) ∧
    (2 < 3 ∧ 3 ≤ 3 ∧ 0 < 23 ∧ 23 < 24) := by decide

/-- Each message of an exchange is due. -/
theorem witness_messages :
    let s (u : TimeUnit) : State := { (machine id).onDie 1 fun d => { d with time := u } with now := 2700 }
    (s { t1 := some 1 }).syncDue 1 = true ∧ (s { t1 := some 1, t2 := some 1 }).followUpDue 1 = true ∧
    (s { t1 := some 1, t2 := some 1, t3 := some 1 }).delayRequestDue 1 = true ∧ (s {}).dieOpen (timeParent 1) 1 = true := by decide

/-- Accesses from outside that are served and refused. -/
theorem witness_outside :
    let s0 := machine id
    let s := { s0 with pkg := { s0.pkg with peerWindows := [(1, { base := 0, length := 64, read := true, write := true })] } }
    Memory.wf s.mem = true ∧ s.pkg.hostMode.isCxl = true ∧ s.decoderReaches 0 8 = true ∧ s.outsideReady [.host, .ioDie 0] 0 0 8 = true ∧
    s.behind .failed 0 = false ∧ s.tailsAt (2 ^ 60) 8 = [] ∧ s.running = true ∧ s.behind .failed 56 = false ∧
    s.peerMay 1 56 8 true false = true ∧ s.peerMay 1 56 8 false true = true ∧ s.peerMay 1 57 8 true false = false ∧
    s.peerMay 1 57 8 false true = false ∧ s.peerMay 1 56 8 true true = true ∧ s.peerReady 1 56 8 = true ∧ s.pkg.drafts = [] ∧
    s.readPoisoned { loc := 56 } 8 = false := by decide

/-- Snoops that are seen, unseen and held. -/
theorem witness_snoops :
    let s := machine id
    let held : State := { s with pkg := { s.pkg with links := [(.host, { state := .training })] } }
    let pcie : State := { s with pkg := { s.pkg with hostMode := .pcie60 } }
    s.snoops = .seen ∧ s.tailsAt (2 ^ 60) 8 = [] ∧ s.pkg.ring = none ∧ pcie.snoops = .unseen ∧ held.snoops = .held := by decide

/-- A ring that can be set, one that is set, and an event that waits for it. -/
theorem witness_event_ring :
    (let s := machine id
     s.pkg.ring = none ∧ s.pkg.boot ≠ .off ∧ s.pkg.lost < 2 ^ 64 ∧ (∀ i < 24, (s.die i).pending = [] ∧ (s.die i).lossy = false) ∧
     64 % 64 = 0) ∧
    (let e : Event := { ptime := 0, code := 8, die := 0, seq := 0, a := 1#64, b := 2#64 }
     let s0 := (machine id).onDie 0 fun d => { d with pending := [e] }
     let s := { s0 with pkg := { s0.pkg with ring := some (64, 64), ringTail := 64 } }
     (s.die 0).pending = [e] ∧ (∀ i < 24, (s.die i).lossy = false ∧ (i ≠ 0 → (s.die i).pending = [])) ∧
     s.hostCut 0 = false ∧ s.pkg.ringTail - 1 < 64 ∧ e.ptime < 2 ^ 64 ∧ e.die < 2 ^ 16 ∧
     e.code < 2 ^ 16) := by decide

/-- A ring whose lost events are still to be counted. -/
theorem witness_lost :
    let s0 := machine id
    let s := { s0 with pkg := { s0.pkg with ring := some (64, 64), ringTail := 64, lost := 5 } }
    s.pkg.ring = some (64, 64) ∧ s.pkg.lost ≠ 0 ∧ s.lostCount < 2 ^ 64 ∧ s.hostCut 0 = false ∧ 64 + 64 + 32 * 64 ≤ 2 ^ 60 ∧
    (∀ i < 24, (s.die i).pending = [] ∧ (s.die i).lossy = false) := by decide

/-- A machine that is off, one whose last link trains, and one that can be measured. -/
theorem witness_power :
    (let s := machine id
     { s with pkg := { s.pkg with boot := .off } }.pkg.boot = .off ∧ s.pkg.boot = .rollCall ∧ 1 ≤ 1 ∧ 6 ≤ 6) ∧
    (let s0 := machine id
     let s := { s0 with pkg := { s0.pkg with boot := .training, links := [(.host, { state := .training })] } }
     s.pkg.boot = .training ∧ linkReal .host = true ∧ s.linkState .host = .training ∧ ∀ p ∈ s.pkg.links, p.1 ≠ .host → p.2.state ≠ .training) := by
  decide

/-- Before the seal with a Seating Plan that fails its check, while the seal runs, and after it. -/
theorem witness_seal :
    (let s := machine id
     0x40#64 % 64#64 = 0#64 ∧ 0x41#64 % 64#64 ≠ 0#64 ∧ s.ctx.sys = true ∧ s.pkg.boot ≠ .sealed ∧ s.pkg.ring = none ∧ s.pkg.boot = .rollCall ∧ s.pkg.sealing = none ∧ s.seatOk = false ∧
     (s.die (dieOf s.cur)).pending.length < 64) ∧
    (let s := { machine id with pkg := { (machine id).pkg with sealing := some 0 }, now := 20000 }
     s.pkg.sealing = some 0 ∧ 0 + 20000 ≤ s.now) ∧
    (let s := sealedWith [] [] id
     s.pkg.boot = .sealed ∧ s.ctx.trapFatal = false ∧ ∃ word, encode (.csrw 0 1 0x10A) = some (word, none)) :=
  ⟨by decide, by decide, by decide, by decide, _, rfl⟩

/-- A legal selection at its bounds, and reductions of each kind. -/
theorem witness_reductions :
    (field 0x1411#64 12 11 ≤ 2 ∧ field 0x1411#64 10 8 ≤ 4 ∧ field 0x1411#64 7 0 ≤ 17) ∧
    (∀ k ∈ ([0, 1, 2] : List Nat),
      let ts : List ThreadRef := [⟨0, 0, 0⟩]
      let s := machine fun t => { t with reduceBy := (0, k), reducing := some (ts, [5#64]) }
      let x := s.thread s.cur
      let live := ts.filter fun u => (s.thread u).phase != .free && (s.thread u).kernel == x.kernel
      x.reducing = some (ts, [5#64]) ∧ x.phase ≠ .switched ∧ x.reduceBy.2 = k ∧ live.length ≤ 1 ∧ [5#64] ++ live.map (fun _ => 0#64) ≠ []) ∧
    (let s0 := machine id
     let ts : List ThreadRef := [⟨0, 0, 0⟩, ⟨0, 0, 1⟩]
     let s := { s0 with ctx := { s0.ctx with reducing := some (ts, []) }, others := [(⟨0, 0, 1⟩, { phase := .ready })] }
     (s.thread s.cur).reducing = some (ts, []) ∧
       (ts.filter fun u => (s.thread u).phase != .free && (s.thread u).kernel == (s.thread s.cur).kernel) = ts) := by decide

/-- A thread that can be stopped, and a stopped one. -/
theorem witness_debugger :
    ((machine id).thread ⟨0, 0, 0⟩).phase = .ready ∧ ((machine fun t => { t with phase := .stopped }).thread ⟨0, 0, 0⟩).phase = .stopped := by
  decide

/-- Recorded states that a frame's word 32 sets. -/
theorem witness_recorded : field 0x200#64 11 8 = 2 ∧ field 0x100#64 11 8 = 1 ∧ (machine fun t => { t with phase := .stopped }).cur = ⟨0, 0, 0⟩ := by decide

/-- A state whose step issues an instruction, one whose instruction waits for a register, and one whose words decode to nothing. -/
theorem witness_step :
    let s (w : Nat) (l : List PendingLoad) : State :=
      { machine fun t => { t with fetch := [{ base := 0, words := [.word w, .word 0, .word 0, .word 0] }], loads := l } with fresh := 1 }
    let ready (x : State) : Prop := x.agenda = [] ∧ x.pkg.boot = .rollCall ∧ x.ctx.phase = .ready ∧ x.eventTurn = false ∧
      x.ctx.parkFail = false ∧ x.held = false ∧ x.ctx.execMatch = false ∧ bit x.ctx.status 4 = false
    ready (s 0x058D7021 []) ∧ ready (s 0x058D7021 [{ aLoad with rd := 13 }]) ∧ ready (s 0 []) ∧
    (∀ w l, (s w l).dueBell = none) ∧
    ((s 0x058D7021 []).ctx.fetched = .words 0x058D7021 0 ∧ (s 0x058D7021 []).interlocked (.sub 12#5 13#5 14#5 1#1) = false) ∧
    ((s 0x058D7021 [{ aLoad with rd := 13 }]).ctx.fetched = .words 0x058D7021 0 ∧
      (s 0x058D7021 [{ aLoad with rd := 13 }]).interlocked (.sub 12#5 13#5 14#5 1#1) = true) ∧
    (s 0 []).ctx.fetched = .words 0 0 ∧ decodeWords 0x058D7021 0 = .ok (.sub 12#5 13#5 14#5 1#1) ∧ decodeWords 0 0 = .error .unassigned :=
  ⟨by decide, by decide, by decide, fun _ _ => rfl, ⟨rfl, rfl⟩, ⟨rfl, rfl⟩, rfl, rfl, rfl⟩

/-! ### Witnesses: the Seating Plan -/

/-- Entry l of a Seating Plan that seats every enabled cluster: 341 of each of the first sixteen dies, then 342. -/
def seat (l : Nat) : Nat := if l < 5456 then l / 341 * 512 + l % 341 else (16 + (l - 5456) / 342) * 512 + (l - 5456) % 342

/-- The machine with that plan at 0. -/
def seated : State := { machine id with mem := (List.range' 0 16384).map fun a => (a, BitVec.ofNat 8 (seat (a / 2) / 256 ^ (a % 2))) }

/-- A byte of a list of consecutive cells. -/
theorem read_range (f : Nat → Byte) (a n k : Nat) (h : k ≤ a ∧ a < k + n) : Memory.read a ((List.range' k n).map fun j => (j, f j)) = f a := by
  induction n generalizing k with
  | zero => omega
  | succ n ih =>
    rw [List.range'_succ, List.map_cons, Memory.read, if_neg (by omega)]
    split
    · next e => rw [e]
    · exact ih (k + 1) (by omega)

/-- An entry of the plan in memory. -/
theorem seated_entry (l : Nat) (h : l < 8192) : seated.seatEntry l = seat l := by
  have hs : seat l < 2 ^ 16 := by unfold seat; split <;> omega
  have byte (o : Nat) (ho : o < 2) : (readPlaceByte seated { loc := 2 * l } o).toNat = seat l / 256 ^ o % 256 := by
    have hp : Loc.isPhys (2 * l + o) = true := by simp [Loc.isPhys]; omega
    have hd : (2 * l + o) / 2 = l ∧ (2 * l + o) % 2 = o := by omega
    show (if Loc.isPhys (2 * l + o) then committedByte seated (2 * l + o) else _).toNat = _
    rw [if_pos hp]
    show (Memory.read (2 * l + o) seated.mem).toNat = _
    unfold seated
    rw [read_range _ _ _ _ (by omega), hd.1, hd.2, BitVec.toNat_ofNat]
  show readPlace seated { loc := (0 + 2 * l) % 2 ^ 60 } 0 2 = seat l
  rw [Nat.mod_eq_of_lt (by omega), Nat.zero_add]
  show (readPlaceByte seated _ 0).toNat + 256 * ((readPlaceByte seated _ 1).toNat + 256 * 0) = seat l
  rw [byte 0 (by omega), byte 1 (by omega)]
  omega

/-- The cluster that an entry seats. -/
def seatOf (l : Nat) : Nat := if l < 5456 then l / 341 * 352 + l % 341 else (16 + (l - 5456) / 342) * 352 + (l - 5456) % 342

/-- An entry of a die and a site below its enabled number. -/
theorem seat_cluster (d c : Nat) (hd : d < 24) (hc : c < 352) : seatCluster (d * 512 + c) = some (d * 352 + c) := by
  have h1 : (d * 512 + c) / 512 = d := by omega
  have h2 : (d * 512 + c) / 16 % 32 = c / 16 := by omega
  have h3 : (d * 512 + c) % 16 = c % 16 := by omega
  have h4 : (d * 512 + c) / 16384 = 0 := by omega
  have h5 : d * 352 + c / 16 * 16 + c % 16 = d * 352 + c := by omega
  simp only [seatCluster, Config.dies, Config.sites, h1, h2, h3, h4, h5]
  exact if_pos ⟨trivial, hd, by omega⟩

/-- A site below the enabled number of its die. -/
theorem site_enabled (d c : Nat) (hd : d < 24) (hc : c < 352 - Config.fusedOn d) : seated.enabled (d * 352 + c) = true := by
  have hs : (seated.cluster (d * 352 + c)).inService = true := by
    show (Table.get {} (d * 352 + c) [(0, { released := true })] : Cluster).inService = true
    unfold Table.get; split <;> rfl
  have h1 : (d * 352 + c) / 352 = d := by omega
  have h2 : (d * 352 + c) % 352 = c := by omega
  have hb : seated.siteBound d = min 352 (352 - Config.fusedOn d + 0) := rfl
  simp only [State.enabled, Config.sites, Config.dies, hs, h1, h2, hb, Bool.and_true, Bool.and_eq_true, decide_eq_true_eq]
  omega

theorem seats_cluster (l : Nat) (h : l < 8192) : seatCluster (seat l) = some (seatOf l) ∧ seated.enabled (seatOf l) = true := by
  unfold seat seatOf
  split
  · exact ⟨seat_cluster _ _ (by omega) (by omega), site_enabled _ _ (by omega) (by unfold Config.fusedOn; split <;> omega)⟩
  · exact ⟨seat_cluster _ _ (by omega) (by omega), site_enabled _ _ (by omega) (by unfold Config.fusedOn; split <;> omega)⟩

theorem seats_ascend (n l : Nat) (h : l + n = 8192) : ∀ last, (∀ p, last = some p → p < seatOf l) → seated.seatsAscend n l last = true := by
  induction n generalizing l with
  | zero => intros; rfl
  | succ n ih =>
    intro last hl
    have hc := seats_cluster l (by omega)
    unfold State.seatsAscend
    rw [seated_entry l (by omega), hc.1]
    have step : seatOf l < seatOf (l + 1) := by unfold seatOf; split <;> split <;> omega
    have rest := ih (l + 1) (by omega) (some (seatOf l)) (fun p e => by cases e; exact step)
    cases last with
    | none => simp [hc.2, rest]
    | some p => simp [hc.2, rest, hl p rfl]

/-- A Seating Plan that passes the check. -/
theorem witness_seat : seated.pkg.boot = .rollCall ∧ seated.pkg.sealing = none ∧ seated.seatOk = true := by
  refine ⟨rfl, rfl, ?_⟩
  unfold State.seatOk
  rw [seats_ascend 8192 0 rfl none (by simp)]
  decide

end Sys2Proof.Tests
end

section
/-! What "keeps memory canonical" says of an outcome, and the state in which each of the model's intermediate results
ends, so that a lemma about memory speaks of all of a result's cases at once (as `Checked.state` of Laws/Keep does). -/

namespace Sys2Proof.Machine
open Sys2Proof

/-- The outcome's next state, where there is one, has memory in its canonical form. -/
def KeepsMem : Host.Outcome State Fault Refusal → Prop
  | .next t => Memory.wf t.mem = true
  | _ => True

@[simp] theorem keepsMem_next (s : State) : KeepsMem (.next s) ↔ Memory.wf s.mem = true := Iff.rfl

@[simp] theorem keepsMem_ite (c : Prop) [Decidable c] (a b : Host.Outcome State Fault Refusal) (ha : KeepsMem a) (hb : KeepsMem b) :
    KeepsMem (if c then a else b) := by split <;> assumption

/-- A case of a result carries the memory fact of the whole result. -/
theorem keeps_of_eq {α : Type} (f : α → State) {x y : α} (e : x = y) (h : Memory.wf (f x).mem = true) :
    Memory.wf (f y).mem = true := e ▸ h

theorem map_getD_keeps (o : Option State) (f : State → State) (s : State)
    (hf : ∀ t, Memory.wf t.mem = true → Memory.wf (f t).mem = true)
    (h : Memory.wf (o.getD s).mem = true) (hs : Memory.wf s.mem = true) : Memory.wf ((o.map f).getD s).mem = true := by
  cases o with
  | none => exact hs
  | some t => exact hf t h

theorem elim_keeps {α : Type} (o : Option α) (g : α → State) (s : State) (h : ∀ x, Memory.wf (g x).mem = true)
    (hs : Memory.wf s.mem = true) : Memory.wf (o.elim s g).mem = true := by
  cases o with
  | none => exact hs
  | some x => exact h x

/-! ### The state in which a result ends -/

/-- The state in which an engine's read ends. -/
def EngineRead.state : EngineRead → State
  | .data _ s => s
  | .waits s => s
  | .dead s => s

@[simp] theorem EngineRead.state_data (b : Option (List Byte)) (s : State) : (EngineRead.data b s).state = s := rfl
@[simp] theorem EngineRead.state_waits (s : State) : (EngineRead.waits s).state = s := rfl
@[simp] theorem EngineRead.state_dead (s : State) : (EngineRead.dead s).state = s := rfl

/-- The state in which an engine's write ends. -/
def EngineWrite.state : EngineWrite → State
  | .done s => s
  | .denied s => s
  | .waits s => s
  | .dropped s => s

@[simp] theorem EngineWrite.state_done (s : State) : (EngineWrite.done s).state = s := rfl
@[simp] theorem EngineWrite.state_denied (s : State) : (EngineWrite.denied s).state = s := rfl
@[simp] theorem EngineWrite.state_waits (s : State) : (EngineWrite.waits s).state = s := rfl
@[simp] theorem EngineWrite.state_dropped (s : State) : (EngineWrite.dropped s).state = s := rfl

/-- The state in which the write of a frame's band ends. -/
def BandEnd.state : BandEnd → State
  | .done _ s => s
  | .waits _ _ s => s
  | .dropped s => s

@[simp] theorem BandEnd.state_done (b : Bool) (s : State) : (BandEnd.done b s).state = s := rfl
@[simp] theorem BandEnd.state_waits (b : Bool) (n : Nat) (s : State) : (BandEnd.waits b n s).state = s := rfl
@[simp] theorem BandEnd.state_dropped (s : State) : (BandEnd.dropped s).state = s := rfl

/-- The state in which a part of a frame's output ends. -/
def FrameEnd.state : FrameEnd → State
  | .done _ s => s
  | .waits _ s => s
  | .dropped s => s

@[simp] theorem FrameEnd.state_done (f : FrameWork) (s : State) : (FrameEnd.done f s).state = s := rfl
@[simp] theorem FrameEnd.state_waits (f : FrameWork) (s : State) : (FrameEnd.waits f s).state = s := rfl
@[simp] theorem FrameEnd.state_dropped (s : State) : (FrameEnd.dropped s).state = s := rfl

/-- The state in which the check of one unit of a vector access ends. -/
def UnitCheck.state : UnitCheck → State
  | .ok _ s => s
  | .walk _ s => s
  | .fail _ _ s => s

/-- The state in which the checks of a vector access end. -/
def ChecksEnd.state : ChecksEnd → State
  | .pass _ s => s
  | .walk _ s => s
  | .fail _ _ _ _ s => s

/-- The state in which the read of a packet's words ends. -/
def wordsState : Except State (List Word × State) → State
  | .error s => s
  | .ok r => r.2

@[simp] theorem wordsState_error (s : State) : wordsState (.error s) = s := rfl
@[simp] theorem wordsState_ok (r : List Word × State) : wordsState (.ok r) = r.2 := rfl

/-- The state in which the reading of a copy's source address ends. -/
def sourceState : Except EngineRead (Word × State) → State
  | .error r => r.state
  | .ok r => r.2

@[simp] theorem sourceState_error (r : EngineRead) : sourceState (.error r) = r.state := rfl
@[simp] theorem sourceState_ok (r : Word × State) : sourceState (.ok r) = r.2 := rfl

end Sys2Proof.Machine
end

section
/-! Laws/Keep carried on: each operation of the scalar instructions, of Machine/Fetch to Machine/Kernel, leaves memory as
it is (`_mem`) or keeps it canonical (`_keeps`). -/

namespace Sys2Proof.Machine
open Sys2Proof

/-! ### Operations of Machine/Fetch.lean -/

@[simp] theorem deliver_mem (s : State) (t : ThreadRef) (b : FetchBlock) : (s.deliver t b).mem = s.mem := by
  simp [State.deliver]
@[simp] theorem fillInstrLine_mem (s : State) (cl line : Nat) : (s.fillInstrLine cl line).mem = s.mem := by
  simp [State.fillInstrLine]

/-! ### Operations of Machine/Integer.lean -/

@[simp] theorem put_mem (s : State) (d : Nat) (v : Word) : (s.put d v).mem = s.mem := by
  simp [State.put]
@[simp] theorem intOp_keeps (f : Nat → Nat → Nat → Nat) (d a b : BitVec 5) (w : BitVec 1) (s : State) (h : Memory.wf s.mem = true) :
    KeepsMem (intOp f d a b w s) := by
  simp [intOp, h]
@[simp] theorem wordOp_keeps (f : Word → Word → Word) (d a b : BitVec 5) (s : State) (h : Memory.wf s.mem = true) :
    KeepsMem (wordOp f d a b s) := by
  simp [wordOp, h]
@[simp] theorem immOp_keeps (f : Word → Word → Word) (d a : BitVec 5) (i : Word) (s : State) (h : Memory.wf s.mem = true) :
    KeepsMem (immOp f d a i s) := by
  simp [immOp, h]

/-! ### Operations of Machine/LoadStore.lean -/

@[simp] theorem loadOp_keeps (sz : Nat) (d a : BitVec 5) (o : BitVec 13) (s : State) (h : Memory.wf s.mem = true) :
    KeepsMem (loadOp sz d a o s) := by
  unfold loadOp; dsimp only
  split
  · exact h
  · split
    · next e => exact keeps_of_eq Checked.state e (by simp [h])
    · next p s1 e =>
      have h1 : Memory.wf s1.mem = true := keeps_of_eq Checked.state e (by simp [h])
      simp [h1]
@[simp] theorem storeOp_keeps (sz : Nat) (v a : BitVec 5) (o : BitVec 13) (s : State) (h : Memory.wf s.mem = true) :
    KeepsMem (storeOp sz v a o s) := by
  unfold storeOp; dsimp only
  split
  · exact h
  · split
    · next e => exact keeps_of_eq Checked.state e (by simp [h])
    · next p s1 e =>
      have h1 : Memory.wf s1.mem = true := keeps_of_eq Checked.state e (by simp [h])
      simp [h1]
@[simp] theorem uncorrectable_keeps (s : State) (t : ThreadRef) (h : Memory.wf s.mem = true) :
    Memory.wf (s.uncorrectable t).mem = true := by
  unfold State.uncorrectable; split <;> simp [h]
@[simp] theorem poisonStop_keeps (s : State) (l : Nat) (h : Memory.wf s.mem = true) : Memory.wf (s.poisonStop l).mem = true := by
  unfold State.poisonStop; split <;> simp [h]
@[simp] theorem watchLoad_keeps (s : State) (t : ThreadRef) (pc a : Word) (h : Memory.wf s.mem = true) :
    Memory.wf (s.watchLoad t pc a).mem = true := by
  unfold State.watchLoad; split <;> simp [h]
@[simp] theorem loadRespond_keeps (s : State) (t : ThreadRef) (k : Nat) (h : Memory.wf s.mem = true) :
    Memory.wf (s.loadRespond t k).mem = true := by
  unfold State.loadRespond; dsimp only
  split
  · exact h
  · split
    · split
      · simp [h]
      · split
        · split
          · simp [h]
          · exact onRecorded_keeps _ _ _ (fun a ha => endStep_keeps _ _ _ ha) (by simp [h])
        · simp [h]
    · simp [h]
    · exact h
@[simp] theorem storePerform_keeps (s : State) (t : ThreadRef) (k : Nat) (h : Memory.wf s.mem = true) :
    Memory.wf (s.storePerform t k).mem = true := by
  unfold State.storePerform
  split
  · exact h
  · dsimp only
    split
    · next e => exact keeps_of_eq WriteEnd.state e (by simp [h])
    · next e => exact keeps_of_eq WriteEnd.state e (by simp [h])
    · next s1 e =>
      have h1 : Memory.wf s1.mem = true := keeps_of_eq WriteEnd.state e (by simp [h])
      simp [h1]

/-! ### Operations of Machine/Atomics.lean -/

@[simp] theorem armedReady_keeps (s : State) (p : Place) (h : Memory.wf s.mem = true) :
    Memory.wf (s.armedReady p).mem = true := by
  unfold State.armedReady; split <;> simp [h]
@[simp] theorem taskEffect_keeps (s : State) (op : HomeOp) (p : Place) (old : Nat) (h : Memory.wf s.mem = true) :
    Memory.wf (s.taskEffect op p old).mem = true := by
  unfold State.taskEffect
  split
  · split
    · exact armedReady_keeps _ _ h
    · exact h
  · split
    · exact writeWordAt_keeps _ _ _ _ (by simp [h])
    · exact h
  · exact h
@[simp] theorem homeWrite_keeps (s : State) (kernel : Option Nat) (p : Place) (n : Nat) (value : Option Nat)
    (h : Memory.wf s.mem = true) : Memory.wf (s.homeWrite kernel p n value).state.mem = true := by
  unfold State.homeWrite; split <;> simp [h]
@[simp] theorem homePerform_keeps (s : State) (t : ThreadRef) (l : PendingLoad) (op : HomeOp) (h : Memory.wf s.mem = true) :
    Memory.wf (s.homePerform t l op).mem = true := by
  unfold State.homePerform; dsimp only
  split
  · simp [h]
  · split
    · next e => exact keeps_of_eq WriteEnd.state e (by simp [h])
    · next e => exact keeps_of_eq WriteEnd.state e (by simp [h])
    · next s1 e =>
      have h1 : Memory.wf s1.mem = true := keeps_of_eq WriteEnd.state e (by simp [h])
      simp [h1]
@[simp] theorem atHome_keeps (s : State) (t : ThreadRef) (k : Nat) (h : Memory.wf s.mem = true) :
    Memory.wf (s.atHome t k).mem = true := by
  unfold State.atHome; repeat' split
  all_goals simp [h]
@[simp] theorem release_mem (s : State) (scope : Option Nat) : (s.release scope).mem = s.mem := by
  unfold State.release; split <;> simp
@[simp] theorem homeOp_keeps (op : HomeOp) (ea : Word) (rd pred : Nat) (acquire : Bool) (release : Option Nat) (s : State)
    (h : Memory.wf s.mem = true) : KeepsMem (homeOp op ea rd pred acquire release s) := by
  unfold homeOp; dsimp only
  split
  · exact h
  · split
    · next e => exact keeps_of_eq Checked.state e (by simp [h])
    · next p s1 e => exact keeps_of_eq Checked.state e (by simp [h])
@[simp] theorem amoOp_keeps (op : Nat) (d a b : BitVec 5) (z : BitVec 1) (o : BitVec 2) (c : BitVec 3) (s : State)
    (h : Memory.wf s.mem = true) : KeepsMem (amoOp op d a b z o c s) := by
  simp [amoOp, h]
@[simp] theorem execStrel_keeps (a b : BitVec 5) (z : BitVec 1) (c : BitVec 3) (s : State) (h : Memory.wf s.mem = true) :
    KeepsMem (execStrel a b z c s) := by
  unfold execStrel; dsimp only
  split
  · exact h
  · split
    · next e => exact keeps_of_eq Checked.state e (by simp [h])
    · next p s1 e => exact keeps_of_eq Checked.state e (by simp [h])

/-! ### Operations of Machine/Control.lean -/

@[simp] theorem branchOp_keeps (taken : Bool) (o : BitVec 13) (s : State) (h : Memory.wf s.mem = true) :
    KeepsMem (branchOp taken o s) := by
  simp [branchOp, h]
@[simp] theorem putP_mem (s : State) (d : Nat) (b : Bool) : (s.putP d b).mem = s.mem := by
  simp [State.putP]

/-! ### Operations of Machine/Csr.lean -/

@[simp] theorem startSeal_keeps (s : State) (h : Memory.wf s.mem = true) : Memory.wf s.startSeal.mem = true := by
  unfold State.startSeal; split <;> simp [h]
@[simp] theorem writePcsel_mem (s : State) (t : ThreadRef) (v : Word) : (s.writePcsel t v).mem = s.mem := by
  simp [State.writePcsel]
@[simp] theorem csrWrite_keeps (s : State) (n : Nat) (v : Word) (h : Memory.wf s.mem = true) :
    Memory.wf (s.csrWrite n v).mem = true := by
  unfold State.csrWrite; split <;> simp [h]
@[simp] theorem csrOp_keeps (d : BitVec 5) (c : BitVec 12) (word : Word) (writes : Bool) (f : Word → Word) (s : State)
    (h : Memory.wf s.mem = true) : KeepsMem (csrOp d c word writes f s) := by
  unfold csrOp; dsimp only; repeat' split
  all_goals simp [h]
@[simp] theorem seal_keeps (s : State) (h : Memory.wf s.mem = true) : Memory.wf s.seal.mem = true := by
  simp [State.seal, h]
@[simp] theorem endReduction_mem (s : State) (t : ThreadRef) (cs : List Word) : (s.endReduction t cs).mem = s.mem := by
  simp [State.endReduction]
@[simp] theorem reduce_mem (s : State) (t : ThreadRef) : (s.reduce t).mem = s.mem := by
  unfold State.reduce; dsimp only; repeat' split
  all_goals simp

/-! ### Operations of Machine/Kernel.lean -/

@[simp] theorem createKernel_mem (s : State) (entry : Nat) (x : Kernel) (p : Packet) :
    (s.createKernel entry x p).mem = s.mem := by
  simp [State.createKernel]
@[simp] theorem armOrReady_keeps (s : State) (k : Nat) (h : Memory.wf s.mem = true) : Memory.wf (s.armOrReady k).mem = true := by
  unfold State.armOrReady; split <;> simp [h]
@[simp] theorem readWords_keeps (s : State) (ea : Word) (n : Nat) (h : Memory.wf s.mem = true) :
    Memory.wf (wordsState (s.readWords ea n)).mem = true := by
  unfold State.readWords
  split
  · next s1 e =>
    have h1 : Memory.wf s1.mem = true := keeps_of_eq Prod.snd e (by simp [h])
    simp [h1]
  · next e => exact keeps_of_eq Prod.snd e (by simp [h])
  · next p s1 e =>
    have h1 : Memory.wf s1.mem = true := keeps_of_eq Prod.snd e (by simp [h])
    split
    · exact h1
    · split <;> simp [h1]
@[simp] theorem readStreams_keeps (s : State) (ea : Word) (n : Nat) (h : Memory.wf s.mem = true) :
    Memory.wf (wordsState (s.readStreams ea n)).mem = true := by
  induction n generalizing s ea with
  | zero => exact h
  | succ n ih =>
    unfold State.readStreams
    split
    · next e => exact keeps_of_eq wordsState e (readWords_keeps _ _ _ h)
    · next ws s1 e =>
      have h1 : Memory.wf s1.mem = true := keeps_of_eq wordsState e (readWords_keeps _ _ _ h)
      have h2 := ih s1 (ea + 32#64) h1
      split
      · next e => exact keeps_of_eq wordsState e h2
      · next r s2 e =>
        have h3 : Memory.wf s2.mem = true := keeps_of_eq wordsState e h2
        exact h3
@[simp] theorem launchWith_mem (s : State) (d : Nat) (a : Word) (p : Packet) : (s.launchWith d a p).mem = s.mem := by
  unfold State.launchWith; repeat' split
  all_goals simp
@[simp] theorem execLaunch_keeps (d a : BitVec 5) (s : State) (h : Memory.wf s.mem = true) : KeepsMem (execLaunch d a s) := by
  unfold execLaunch; dsimp only
  split
  · simp [h]
  · split
    · exact h
    · split
      · next e => exact keeps_of_eq wordsState e (by simp [h])
      · next ws s1 e =>
        have h1 : Memory.wf s1.mem = true := keeps_of_eq wordsState e (by simp [h])
        split
        · next e => exact keeps_of_eq wordsState e (by split <;> simp [h1])
        · next ts s2 e =>
          have h2 : Memory.wf s2.mem = true := keeps_of_eq wordsState e (by split <;> simp [h1])
          split
          · next e => exact keeps_of_eq wordsState e (by split <;> simp [h2])
          · next s3 e =>
            have h3 : Memory.wf s3.mem = true := keeps_of_eq wordsState e (by split <;> simp [h2])
            simp [h3]
@[simp] theorem execTake_keeps (d : BitVec 5) (p : BitVec 3) (s : State) (h : Memory.wf s.mem = true) :
    KeepsMem (execTake d p s) := by
  unfold execTake; repeat' split
  all_goals simp [h]
@[simp] theorem execWmark_keeps (a : BitVec 5) (b : BitVec 4) (s : State) (h : Memory.wf s.mem = true) :
    KeepsMem (execWmark a b s) := by
  unfold execWmark; dsimp only; repeat' split
  all_goals simp [h]
@[simp] theorem execWmread_keeps (d : BitVec 5) (b : BitVec 4) (s : State) (h : Memory.wf s.mem = true) :
    KeepsMem (execWmread d b s) := by
  unfold execWmread; split <;> simp [h]
@[simp] theorem taskAccess_keeps (s : State) (ea : Word) (h : Memory.wf s.mem = true) :
    Memory.wf (s.taskAccess ea).state.mem = true := by
  unfold State.taskAccess
  split
  · simp [h]
  · split
    · simp [h]
    · split
      · next e => exact keeps_of_eq Checked.state e (by simp [h])
      · next p s1 e =>
        have h1 : Memory.wf s1.mem = true := keeps_of_eq Checked.state e (by simp [h])
        split <;> simp [h1]
@[simp] theorem taskOp_keeps (op : HomeOp) (d : Nat) (ea : Word) (s : State) (h : Memory.wf s.mem = true) :
    KeepsMem (taskOp op d ea s) := by
  unfold taskOp
  split
  · exact h
  · split
    · next e => exact keeps_of_eq Checked.state e (by simp [h])
    · next e => exact keeps_of_eq Checked.state e (by simp [h])
@[simp] theorem cancelKernel_keeps (s : State) (k : Nat) (x : Kernel) (h : Memory.wf s.mem = true) :
    Memory.wf (s.cancelKernel k x).mem = true := by
  unfold State.cancelKernel; split <;> simp [h]
@[simp] theorem execKcancel_keeps (d a : BitVec 5) (s : State) (h : Memory.wf s.mem = true) : KeepsMem (execKcancel d a s) := by
  unfold execKcancel; repeat' split
  all_goals simp [h]
@[simp] theorem execKcancelTcb_keeps (d a : BitVec 5) (s : State) (h : Memory.wf s.mem = true) :
    KeepsMem (execKcancelTcb d a s) := by
  unfold execKcancelTcb
  split
  · next e => exact keeps_of_eq Checked.state e (by simp [h])
  · next p s1 e =>
    have h1 : Memory.wf s1.mem = true := keeps_of_eq Checked.state e (by simp [h])
    repeat' split
    all_goals simp [h1]

end Sys2Proof.Machine
end

section
/-! Laws/Keep carried on to the acceptance of system, vector, tile and full/empty instructions. -/

namespace Sys2Proof.Machine
open Sys2Proof

/-! ### Operations of Machine/VecRegs.lean -/

@[simp] theorem onCmd_mem (s : State) (k : Nat) (v : VCmd) (f : VCmd → VCmd) : (s.onCmd k v f).mem = s.mem := by
  simp [State.onCmd]
@[simp] theorem dropCmd_mem (s : State) (k : Nat) (v : VCmd) : (s.dropCmd k v).mem = s.mem := by
  simp [State.dropCmd]
@[simp] theorem acceptVector_mem (s : State) (t : ThreadRef) (c : VCmd) : (s.acceptVector t c).mem = s.mem := by
  simp [State.acceptVector]

/-! ### Operations of Machine/System.lean -/

@[simp] theorem execTrapret_keeps (s : State) (h : Memory.wf s.mem = true) : KeepsMem (execTrapret s) := by
  unfold execTrapret; split <;> simp [h]
@[simp] theorem execFetchFaultIssue_keeps (f : FetchFault) (s : State) (h : Memory.wf s.mem = true) :
    KeepsMem (execFetchFaultIssue f s) := by
  unfold execFetchFaultIssue; split <;> simp [h]
@[simp] theorem execWait_keeps (l x c t : BitVec 3) (s : State) (h : Memory.wf s.mem = true) : KeepsMem (execWait l x c t s) := by
  unfold execWait; repeat' split
  all_goals simp [h]
@[simp] theorem execExit_keeps (s : State) (h : Memory.wf s.mem = true) : KeepsMem (execExit s) := by
  unfold execExit; dsimp only; repeat' split
  all_goals simp [h]
@[simp] theorem execYieldw_keeps (d a : BitVec 5) (t : BitVec 12) (s : State) (h : Memory.wf s.mem = true) :
    KeepsMem (execYieldw d a t s) := by
  unfold execYieldw
  split
  · next e => exact keeps_of_eq Checked.state e (by simp [h])
  · next e => exact keeps_of_eq Checked.state e (by simp [h])
@[simp] theorem wakeUp_keeps (s : State) (t : ThreadRef) (h : Memory.wf s.mem = true) : Memory.wf (s.wakeUp t).mem = true := by
  unfold State.wakeUp; dsimp only
  split
  · exact h
  · exact onRecorded_keeps _ _ _ (fun a ha => endStep_keeps _ _ _ (by simpa using ha)) h
@[simp] theorem addWatch_mem (s : State) (t : ThreadRef) (line : Nat) : ((s.addWatch t line).getD s).mem = s.mem := by
  unfold State.addWatch; dsimp only; repeat' split
  all_goals simp
@[simp] theorem register_mem (s : State) (t : ThreadRef) : (s.register t).mem = s.mem := by
  unfold State.register
  split
  · rfl
  · next line _ =>
    have h1 := addWatch_mem s t line
    split
    · next e => rw [e] at h1; simpa using h1
    · simp
@[simp] theorem timeOut_mem (s : State) (t : ThreadRef) : (s.timeOut t).mem = s.mem := by
  simp [State.timeOut]

/-! ### Operations of Machine/VecOps.lean -/

@[simp] theorem vectorIssue_keeps (n : Nat) (c : VCmd) (s : State) (h : Memory.wf s.mem = true) :
    KeepsMem (vectorIssue n c s) := by
  simp [vectorIssue, h]
@[simp] theorem vectorOp_keeps (op : VOp) (vd va vb msk : Nat) (word : Word) (s : State) (h : Memory.wf s.mem = true) :
    KeepsMem (vectorOp op vd va vb msk word s) := by
  simp [vectorOp, h]

/-! ### Operations of Machine/TileOps.lean -/

@[simp] theorem onSlot_mem (s : State) (cl k : Nat) (f : TileSlot → TileSlot) : (s.onSlot cl k f).mem = s.mem := by
  simp [State.onSlot]
@[simp] theorem takeSlot_mem (s : State) (t : ThreadRef) (k name : Nat) (x : Tile) : (s.takeSlot t k name x).mem = s.mem := by
  simp [State.takeSlot]
@[simp] theorem bindTile_mem (s : State) (t : ThreadRef) (name : Nat) : ((s.bindTile t name).getD s).mem = s.mem := by
  simp [State.bindTile]
@[simp] theorem spill_keeps (s : State) (t : ThreadRef) (k : Nat) (h : Memory.wf s.mem = true) :
    Memory.wf (s.spill t k).mem = true := by
  unfold State.spill; dsimp only; repeat' split
  all_goals simp [h]
@[simp] theorem touchTile_keeps (s : State) (t : ThreadRef) (name : Nat) (h : Memory.wf s.mem = true) :
    Memory.wf (s.touchTile t name).mem = true := by
  unfold State.touchTile; repeat' split
  all_goals simp [h]
@[simp] theorem afterTouch_keeps (s1 s : State) (t : ThreadRef) (name : Nat) (h : Memory.wf s1.mem = true) :
    Memory.wf (State.afterTouch s1 s t name).mem = true := by
  unfold State.afterTouch; split <;> simp [h]
@[simp] theorem setTileOf_mem (s : State) (t : ThreadRef) (name : Nat) (x : Tile) : (s.setTileOf t name x).mem = s.mem := by
  unfold State.setTileOf; split <;> simp
@[simp] theorem unboundTile_keeps (s : State) (name : Nat) (h : Memory.wf s.mem = true) :
    Memory.wf (s.unboundTile name).mem = true := by
  simp [State.unboundTile, h]
@[simp] theorem acceptTile_mem (s : State) (n : Nat) (c : TCmd) (f : Thread → Thread) : (s.acceptTile n c f).mem = s.mem := by
  simp [State.acceptTile]
@[simp] theorem updateIssue_keeps (n : Nat) (c : TCmd) (s : State) (h : Memory.wf s.mem = true) :
    KeepsMem (updateIssue n c s) := by
  unfold updateIssue; split <;> simp [h]
@[simp] theorem tileMove_keeps (op : TOp) (ta v line m : Nat) (s : State) (h : Memory.wf s.mem = true) :
    KeepsMem (tileMove op ta v line m s) := by
  unfold tileMove; split <;> simp [h]
@[simp] theorem execTalloc_keeps (t : BitVec 4) (p : BitVec 3) (s : State) (h : Memory.wf s.mem = true) :
    KeepsMem (execTalloc t p s) := by
  unfold execTalloc
  split
  · exact h
  · split
    · next s1 e => exact keeps_of_eq (·.getD s) e (by split <;> simp [h])
    · exact h
@[simp] theorem unbindTile_keeps (s : State) (t : ThreadRef) (k : Nat) (h : Memory.wf s.mem = true) :
    Memory.wf (s.unbindTile t k).mem = true := by
  unfold State.unbindTile; split <;> simp [h]
@[simp] theorem tileRecord_keeps (op : TOp) (ta : Nat) (ea : Word) (s : State) (h : Memory.wf s.mem = true) :
    KeepsMem (tileRecord op ta ea s) := by
  unfold tileRecord
  split
  · simp [h]
  · split
    · simp [h]
    · split
      · exact h
      · split
        all_goals
          next s1 e =>
          have h1 : Memory.wf s1.mem = true := keeps_of_eq Prod.snd e (by simp [h])
          simp [h1]

/-! ### Operations of Machine/FullEmpty.lean -/

@[simp] theorem onStorage_mem (s : State) (l : Nat) (f : Storage → Storage) : (s.onStorage l f).mem = s.mem := by
  simp [State.onStorage]
@[simp] theorem clearCopyFault_mem (s : State) (g : Nat) : (s.clearCopyFault g).mem = s.mem := by
  simp [State.clearCopyFault]
@[simp] theorem completeFor_keeps (s : State) (t : ThreadRef) (f : Thread → Thread) (h : Memory.wf s.mem = true) :
    Memory.wf (s.completeFor t f).mem = true := by
  simp [State.completeFor, h]
@[simp] theorem feServe_keeps (s : State) (w : FeWait) (h : Memory.wf s.mem = true) : Memory.wf (s.feServe w).mem = true := by
  unfold State.feServe; split <;> simp [h]
@[simp] theorem feWake_keeps (g n : Nat) (s : State) (h : Memory.wf s.mem = true) :
    Memory.wf (State.feWake g n s).mem = true := by
  induction n generalizing s with
  | zero => exact h
  | succ n ih =>
    unfold State.feWake
    split
    · exact h
    · exact ih _ (feServe_keeps _ _ h)
@[simp] theorem feChange_keeps (s : State) (g : Nat) (full : Bool) (h : Memory.wf s.mem = true) :
    Memory.wf (s.feChange g full).mem = true := by
  simp [State.feChange, h]
@[simp] theorem releaseCluster_mem (s : State) (c : Nat) (pc : Word) : (s.releaseCluster c pc).mem = s.mem := by
  simp only [State.releaseCluster, setThread_mem, onCluster_mem]
  exact foldl_mem _ _ _ fun _ _ => rfl
@[simp] theorem feStore_keeps (s : State) (l : Nat) (v : Word) (h : Memory.wf s.mem = true) :
    Memory.wf (s.feStore l v).mem = true := by
  simp [State.feStore, h]
@[simp] theorem reportCopy_mem (s : State) (t : ThreadRef) (id : Nat) : (s.reportCopy t id).mem = s.mem := by
  simp [State.reportCopy]
@[simp] theorem feOp_keeps (a : BitVec 5) (o : BitVec 9) (try_ : Option Nat) (write release observes : Bool) (s : State)
    (effect : Nat → State → State) (he : ∀ l t, Memory.wf t.mem = true → Memory.wf (effect l t).mem = true)
    (h : Memory.wf s.mem = true) : KeepsMem (feOp a o try_ write release observes s effect) := by
  unfold feOp; dsimp only
  split
  · simp [h]
  · split
    · simp [h]
    · split
      · next e => exact keeps_of_eq Checked.state e (by simp [h])
      · next p s1 e =>
        have h1 : Memory.wf s1.mem = true := keeps_of_eq Checked.state e (by simp [h])
        repeat' split
        all_goals simp [h1, he]
@[simp] theorem feWait_mem (s : State) (l : Nat) (full : Bool) (op : FeOp) : (s.feWait l full op).mem = s.mem := by
  simp [State.feWait]
@[simp] theorem feLoad_keeps (d : BitVec 5) (clear : Bool) (try_ : Option Nat) (l : Nat) (s : State) (h : Memory.wf s.mem = true) :
    Memory.wf (feLoad d clear try_ l s).mem = true := by
  unfold feLoad; repeat' split
  all_goals simp [h]
@[simp] theorem feStoreAny_keeps (v : BitVec 5) (try_ : Option Nat) (l : Nat) (s : State) (h : Memory.wf s.mem = true) :
    Memory.wf (feStoreAny v try_ l s).mem = true := by
  simp [feStoreAny, h]
@[simp] theorem feStoreWhenEmpty_keeps (v : BitVec 5) (try_ : Option Nat) (l : Nat) (s : State) (h : Memory.wf s.mem = true) :
    Memory.wf (feStoreWhenEmpty v try_ l s).mem = true := by
  unfold feStoreWhenEmpty; repeat' split
  all_goals simp [h]
@[simp] theorem feMark_keeps (full : Bool) (try_ : Option Nat) (l : Nat) (s : State) (h : Memory.wf s.mem = true) :
    Memory.wf (feMark full try_ l s).mem = true := by
  simp [feMark, h]
@[simp] theorem execFetest_keeps (a : BitVec 5) (p : BitVec 3) (o : BitVec 9) (s : State) (h : Memory.wf s.mem = true) :
    KeepsMem (execFetest a p o s) :=
  feOp_keeps (he := fun l t ht => by rw [onCtx_mem]; exact ht) (h := h) ..
@[simp] theorem resend_mem (s : State) (t : ThreadRef) : (s.resend t).mem = s.mem := by
  simp [State.resend]

end Sys2Proof.Machine
end

section
/-! Laws/Keep carried on to the copy and decode engines and the queues. -/

namespace Sys2Proof.Machine
open Sys2Proof

/-! ### Operations of Machine/Engine.lean -/

@[simp] theorem onEngine_mem (s : State) (cl k : Nat) (f : EngineCmd → EngineCmd) : (s.onEngine cl k f).mem = s.mem := by
  simp [State.onEngine]
@[simp] theorem engineReach_mem (s : State) (cl : Nat) (e : EngineCmd) (write : Bool) (ea : Word) :
    (s.engineReach cl e write ea).2.mem = s.mem := by
  unfold State.engineReach; repeat' split
  all_goals simp
@[simp] theorem enginePoison_keeps (s : State) (e : EngineCmd) (l : Nat) (h : Memory.wf s.mem = true) :
    Memory.wf (s.enginePoison e l).state.mem = true := by
  unfold State.enginePoison; split <;> simp [h]
@[simp] theorem engineRead_keeps (s : State) (cl : Nat) (e : EngineCmd) (fuel : Nat) (ea : Word) (n : Nat)
    (h : Memory.wf s.mem = true) : Memory.wf (s.engineRead cl e fuel ea n).state.mem = true := by
  induction fuel generalizing s ea n with
  | zero => exact h
  | succ n ih =>
    unfold State.engineRead; dsimp only
    split
    · exact h
    · split
      · next e => exact keeps_of_eq Prod.snd e (by simp [h])
      · next e => exact keeps_of_eq Prod.snd e (by simp [h])
      · next p s1 e =>
        have h1 : Memory.wf s1.mem = true := keeps_of_eq Prod.snd e (by simp [h])
        have h2 := fun ea k => ih ((s1.touchBank p.loc).snoopRead p.loc) ea k (by simpa using h1)
        split
        · exact h1
        · split
          · simp [h1]
          · split
            · next r s2 e =>
              have h3 : Memory.wf s2.mem = true := keeps_of_eq EngineRead.state e (h2 _ _)
              exact h3
            · exact h2 _ _
@[simp] theorem sourceAddress_keeps (s : State) (cl : Nat) (e : EngineCmd) (h : Memory.wf s.mem = true) :
    Memory.wf (sourceState (s.sourceAddress cl e)).mem = true := by
  unfold State.sourceAddress
  split
  · split
    · next e => exact keeps_of_eq EngineRead.state e (by simp [h])
    · simp [h]
  · exact h
@[simp] theorem beatRead_keeps (s : State) (cl : Nat) (e : EngineCmd) (h : Memory.wf s.mem = true) :
    Memory.wf (s.beatRead cl e).state.mem = true := by
  unfold State.beatRead
  split
  · next x e => exact keeps_of_eq sourceState e (by simp [h])
  · next a s1 e =>
    have h1 : Memory.wf s1.mem = true := keeps_of_eq sourceState e (by simp [h])
    simp [h1]
@[simp] theorem fillGranules_keeps (s : State) (l n : Nat) (h : Memory.wf s.mem = true) :
    Memory.wf (s.fillGranules l n).mem = true := by
  unfold State.fillGranules
  split
  · exact foldl_keeps _ _ _ (fun _ _ ha => feChange_keeps _ _ _ (by simpa using ha)) h
  · exact h
@[simp] theorem engineWrite_keeps (s : State) (cl : Nat) (e : EngineCmd) (fe sh : Bool) (ea : Word) (b : List Byte)
    (h : Memory.wf s.mem = true) : Memory.wf (s.engineWrite cl e fe sh ea b).state.mem = true := by
  unfold State.engineWrite; dsimp only
  split
  · next e => exact keeps_of_eq Prod.snd e (by simp [h])
  · next e => exact keeps_of_eq Prod.snd e (by simp [h])
  · next p s1 e =>
    have h1 : Memory.wf s1.mem = true := keeps_of_eq Prod.snd e (by simp [h])
    split
    · exact h1
    · split
      · next e => exact keeps_of_eq WriteEnd.state e (by simp [h1])
      · next e => exact keeps_of_eq WriteEnd.state e (by simp [h1])
      · next s2 e =>
        have h2 : Memory.wf s2.mem = true := keeps_of_eq WriteEnd.state e (by simp [h1])
        split <;> simp [h2]
@[simp] theorem failDest_mem (s : State) (cl : Nat) (e : EngineCmd) (k : Nat) : (s.failDest cl e k).mem = s.mem := by
  unfold State.failDest; split <;> simp
@[simp] theorem listCopyFault_mem (s : State) (l n : Nat) (f : CopyFault) : (s.listCopyFault l n f).mem = s.mem := by
  simp [State.listCopyFault]
@[simp] theorem failPair_mem (s : State) (e : EngineCmd) (ea : Word) : (s.failPair e ea).mem = s.mem := by
  unfold State.failPair; split <;> simp
@[simp] theorem failAt_mem (s : State) (cl : Nat) (e : EngineCmd) (k : Nat) (ea : Word) : (s.failAt cl e k ea).mem = s.mem := by
  simp [State.failAt]
@[simp] theorem failPiece_mem (s : State) (cl : Nat) (e : EngineCmd) (k : Nat) (ea : Word) (n : Nat) :
    (s.failPiece cl e k ea n).state.mem = s.mem := by
  have hr := engineReach_mem s cl e true ea
  unfold State.failPiece; dsimp only
  split
  all_goals
    next e => rw [e] at hr; simpa using hr
@[simp] theorem copyStart_mem (s : State) (cl : Nat) : (s.copyStart cl).mem = s.mem := by
  unfold State.copyStart; split <;> simp
@[simp] theorem beatWrite_keeps (s : State) (cl k dst : Nat) (h : Memory.wf s.mem = true) :
    Memory.wf (s.beatWrite cl k dst).mem = true := by
  unfold State.beatWrite; dsimp only
  split
  · exact h
  · split
    · simp [h]
    · exact h
    · split
      all_goals
        next s1 e =>
        have h1 : Memory.wf s1.mem = true := keeps_of_eq EngineWrite.state e (by simp [h])
        simp [h1]
    · split
      all_goals
        next s1 e =>
        have h1 : Memory.wf s1.mem = true := keeps_of_eq EngineWrite.state e (by simp [h])
        simp [h1]
@[simp] theorem beat_keeps (s : State) (cl k dst : Nat) (h : Memory.wf s.mem = true) :
    Memory.wf (s.beat cl k dst).mem = true := by
  unfold State.beat
  split
  · exact h
  · split
    · simp [h]
    · split
      all_goals
        next s1 e =>
        have h1 : Memory.wf s1.mem = true := keeps_of_eq EngineRead.state e (by simp [h])
        simp [h1]
@[simp] theorem refuseArrival_keeps (s : State) (cl : Nat) (e : EngineCmd) (bar : Word) (h : Memory.wf s.mem = true) :
    Memory.wf (s.refuseArrival cl e bar).mem = true := by
  simp [State.refuseArrival, h]
@[simp] theorem engineArrive_keeps (s : State) (cl : Nat) (e : EngineCmd) (bar : Word) (h : Memory.wf s.mem = true) :
    Memory.wf (s.engineArrive cl e bar).state.mem = true := by
  unfold State.engineArrive
  split
  · simp [h]
  · split
    · next s1 e =>
      have h1 : Memory.wf s1.mem = true := keeps_of_eq Prod.snd e (by simp [h])
      simp [h1]
    · next e => exact keeps_of_eq Prod.snd e (by simp [h])
    · next p s1 e =>
      have h1 : Memory.wf s1.mem = true := keeps_of_eq Prod.snd e (by simp [h])
      split
      · exact h1
      · split
        · split
          · next e => exact keeps_of_eq EngineRead.state e (by simp [h1])
          · simp [h1]
        · split
          · simp [h1]
          · split
            · next e => exact keeps_of_eq WriteEnd.state e (by simp [h1])
            · next e => exact keeps_of_eq WriteEnd.state e (by simp [h1])
            · next s2 e =>
              have h2 : Memory.wf s2.mem = true := keeps_of_eq WriteEnd.state e (by simp [h1])
              simp [h2]
@[simp] theorem engineArrival_keeps (s : State) (cl k : Nat) (h : Memory.wf s.mem = true) :
    Memory.wf (s.engineArrival cl k).mem = true := by
  unfold State.engineArrival
  split
  · exact h
  · split
    all_goals
      next s1 e => exact keeps_of_eq EngineWrite.state e (by simp [h])
@[simp] theorem finishEngine_keeps (s : State) (cl k : Nat) (h : Memory.wf s.mem = true) :
    Memory.wf (s.finishEngine cl k).mem = true := by
  unfold State.finishEngine; repeat' split
  all_goals simp [h]
@[simp] theorem acceptEngine_mem (s : State) (k : Nat) (e : EngineCmd) : (s.acceptEngine k e).mem = s.mem := by
  simp [State.acceptEngine]
@[simp] theorem copyOp_keeps (words : Word) (e : EngineCmd) (s : State) (h : Memory.wf s.mem = true) :
    KeepsMem (copyOp words e s) := by
  unfold copyOp; repeat' split
  all_goals simp [h]
@[simp] theorem execPub_keeps (d g : BitVec 5) (c : BitVec 3) (s : State) (h : Memory.wf s.mem = true) :
    KeepsMem (execPub d g c s) := by
  unfold execPub; dsimp only; repeat' split
  all_goals simp [h]
@[simp] theorem onDecoder_mem (s : State) (die e : Nat) (f : DecodeEngine → DecodeEngine) :
    (s.onDecoder die e f).mem = s.mem := by
  simp [State.onDecoder]
@[simp] theorem execDec_keeps (d a : BitVec 5) (n : BitVec 2) (e : BitVec 1) (s : State) (h : Memory.wf s.mem = true) :
    KeepsMem (execDec d a n e s) := by
  unfold execDec; repeat' split
  all_goals simp [h]
@[simp] theorem endJob_keeps (s : State) (die e cl k : Nat) (failed : Bool) (h : Memory.wf s.mem = true) :
    Memory.wf (s.endJob die e cl k failed).mem = true := by
  simp [State.endJob, h]
@[simp] theorem jobStart_keeps (s : State) (die e : Nat) (h : Memory.wf s.mem = true) :
    Memory.wf (s.jobStart die e).mem = true := by
  unfold State.jobStart; dsimp only
  split
  · exact h
  · split
    all_goals
      next s1 e =>
      have h1 : Memory.wf s1.mem = true := keeps_of_eq EngineRead.state e (by simp [h])
      simp [h1]
@[simp] theorem bitstreamRead_keeps (s : State) (cl : Nat) (x : EngineCmd) (h : Memory.wf s.mem = true) :
    Memory.wf (s.bitstreamRead cl x).state.mem = true := by
  unfold State.bitstreamRead; dsimp only; split <;> simp [h]
@[simp] theorem bandWrite_keeps (s : State) (cl : Nat) (e : EngineCmd) (fe : Bool) (fuel : Nat) (ok : Bool) (written : Nat)
    (ea : Word) (b : List Byte) (h : Memory.wf s.mem = true) :
    Memory.wf (s.bandWrite cl e fe fuel ok written ea b).state.mem = true := by
  induction fuel generalizing s ok written ea b with
  | zero => exact h
  | succ n ih =>
    unfold State.bandWrite; dsimp only
    split
    · exact h
    · split
      all_goals
        next s1 e =>
        have h1 : Memory.wf s1.mem = true := keeps_of_eq EngineWrite.state e (by simp [h])
        simp [h1, ih]
@[simp] theorem bandsWrite_keeps (s : State) (cl : Nat) (e : EngineCmd) (f : FrameWork) (fuel : Nat) (h : Memory.wf s.mem = true) :
    Memory.wf (s.bandsWrite cl e f fuel).state.mem = true := by
  induction fuel generalizing s f with
  | zero => exact h
  | succ n ih =>
    unfold State.bandsWrite; dsimp only
    split
    · exact h
    · split
      · exact h
      · split
        · exact ih _ _ h
        · split
          all_goals
            next s1 e =>
            have h1 : Memory.wf s1.mem = true := keeps_of_eq BandEnd.state e (by simp [h])
            simp [h1, ih]
@[simp] theorem keepFrame_mem (s : State) (cl slot : Nat) (f : FrameWork) : (s.keepFrame cl slot f).mem = s.mem := by
  simp [State.keepFrame]
@[simp] theorem frameRecord_keeps (s : State) (cl : Nat) (x : EngineCmd) (f : FrameWork) (h : Memory.wf s.mem = true) :
    Memory.wf (s.frameRecord cl x f).state.mem = true := by
  unfold State.frameRecord
  split
  · exact h
  · split
    all_goals next e => exact keeps_of_eq EngineWrite.state e (by simp [h])
@[simp] theorem frameArrival_keeps (s : State) (cl : Nat) (x : EngineCmd) (f : FrameWork) (h : Memory.wf s.mem = true) :
    Memory.wf (s.frameArrival cl x f).state.mem = true := by
  unfold State.frameArrival
  split
  · exact h
  · split
    all_goals next e => exact keeps_of_eq EngineWrite.state e (by simp [h])
@[simp] theorem frameOutput_keeps (s : State) (cl : Nat) (x : EngineCmd) (f : FrameWork) (h : Memory.wf s.mem = true) :
    Memory.wf (s.frameOutput cl x f).state.mem = true := by
  unfold State.frameOutput
  split
  · next f1 s1 e =>
    have h1 : Memory.wf s1.mem = true := keeps_of_eq FrameEnd.state e (by simp [h])
    split
    · next f2 s2 e =>
      have h2 : Memory.wf s2.mem = true := keeps_of_eq FrameEnd.state e (by simp [h1])
      simp [h2]
    · simp [h1]
  · simp [h]
@[simp] theorem frameGoesOn_keeps (s : State) (die e cl : Nat) (x : EngineCmd) (f : FrameWork) (h : Memory.wf s.mem = true) :
    Memory.wf (s.frameGoesOn die e cl x f).mem = true := by
  unfold State.frameGoesOn; dsimp only
  split
  · next f1 s1 e =>
    have h1 : Memory.wf s1.mem = true := keeps_of_eq FrameEnd.state e (by simp [h])
    simp [h1]
  · next e => exact keeps_of_eq FrameEnd.state e (by simp [h])
  · next f1 s1 e =>
    have h1 : Memory.wf s1.mem = true := keeps_of_eq FrameEnd.state e (by simp [h])
    repeat' split
    all_goals simp [h1]
@[simp] theorem frameEnd_keeps (s : State) (die e : Nat) (r : FrameResult) (h : Memory.wf s.mem = true) :
    Memory.wf (s.frameEnd die e r).mem = true := by
  unfold State.frameEnd; dsimp only
  split
  · exact h
  · split
    · simp [h]
    · split
      · simp [h]
      · split
        all_goals
          next s1 e =>
          have h1 : Memory.wf s1.mem = true := keeps_of_eq EngineRead.state e (by simp [h])
          simp [h1]

/-! ### Operations of Machine/Queue.lean -/

@[simp] theorem ringWrite_keeps (s : State) (q k : Nat) (r : List Byte) (h : Memory.wf s.mem = true) :
    Memory.wf ((s.ringWrite q k r).getD s).mem = true := by
  simp [State.ringWrite, h]
@[simp] theorem joinWaiting_mem (s : State) (q : Nat) : (s.joinWaiting q).mem = s.mem := by
  simp [State.joinWaiting]
@[simp] theorem queuePush_keeps (s : State) (q : Nat) (r : List Byte) (h : Memory.wf s.mem = true) :
    Memory.wf ((s.queuePush q r).getD s).mem = true := by
  unfold State.queuePush
  split
  · exact h
  · split
    · split
      · simp [h]
      · exact map_getD_keeps _ _ _ (fun t ht => by simpa using ht) (ringWrite_keeps _ _ _ _ h) h
    · exact map_getD_keeps _ _ _ (fun t ht => by simp [ht]) (ringWrite_keeps _ _ _ _ h) h
@[simp] theorem writeHostHead_keeps (s : State) (q : Nat) (h : Memory.wf s.mem = true) :
    Memory.wf (s.writeHostHead q).mem = true := by
  simp [State.writeHostHead, h]
@[simp] theorem queuePop_keeps (s : State) (q : Nat) (h : Memory.wf s.mem = true) : Memory.wf (s.queuePop q).mem = true := by
  unfold State.queuePop; dsimp only; split <;> simp [h]
@[simp] theorem mapQueue_keeps (s : State) (die : Nat) (h : Memory.wf s.mem = true) : Memory.wf (s.mapQueue die).mem = true := by
  unfold State.mapQueue; dsimp only; repeat' split
  all_goals simp [h]
@[simp] theorem fetchArrive_keeps (s : State) (q : Nat) (h : Memory.wf s.mem = true) :
    Memory.wf (s.fetchArrive q).mem = true := by
  unfold State.fetchArrive
  split
  · exact h
  · dsimp only
    rw [onQueueSlot_mem]
    exact foldl_keeps _ _ _ (fun _ _ ha => by cases s.ringPlace q _ false <;> simp [ha]) h
@[simp] theorem writeBack_keeps (s : State) (q k : Nat) (records : List (List Byte)) (h : Memory.wf s.mem = true) :
    Memory.wf (s.writeBack q k records).mem = true := by
  induction records generalizing s k with
  | nil => exact h
  | cons r l ih => exact ih _ _ (ringWrite_keeps _ _ _ _ h)
@[simp] theorem unmapQueue_keeps (s : State) (q state : Nat) (h : Memory.wf s.mem = true) :
    Memory.wf (s.unmapQueue q state).mem = true := by
  unfold State.unmapQueue
  split
  · exact h
  · simp only [onDie_mem]
    refine writeQueueWord_keeps _ _ _ _ (writeQueueWord_keeps _ _ _ _ (writeQueueWord_keeps _ _ _ _ (writeQueueWord_keeps _ _ _ _ ?_)))
    split
    · exact writeHostHead_keeps _ _ h
    · exact writeBack_keeps _ _ _ _ h
@[simp] theorem quantumEnd_keeps (s : State) (q : Nat) (h : Memory.wf s.mem = true) : Memory.wf (s.quantumEnd q).mem = true := by
  simp [State.quantumEnd, h]
@[simp] theorem seeTail_keeps (s : State) (q tail : Nat) (h : Memory.wf s.mem = true) :
    Memory.wf (s.seeTail q tail).mem = true := by
  unfold State.seeTail
  split
  · exact h
  · split
    · refine postEvent_keeps _ _ _ _ _ ?_
      simp only [onDie_mem, onPkg_mem]
      split
      · exact unmapQueue_keeps _ _ _ (by simp [h])
      · exact writeQueueWord_keeps _ _ _ _ (by simp [h])
    · split
      · simp [h]
      · dsimp only
        split <;> simp [h]
@[simp] theorem execHostQueueControlSnoop_keeps (q : Nat) (tail : BitVec 64) (s : State) (h : Memory.wf s.mem = true) :
    KeepsMem (execHostQueueControlSnoop q tail s) := by
  unfold execHostQueueControlSnoop; split <;> simp [h]
@[simp] theorem seeTails_keeps (s : State) (qs : List Nat) (h : Memory.wf s.mem = true) :
    Memory.wf (s.seeTails qs).mem = true :=
  foldl_keeps _ _ _ (fun _ _ ha => seeTail_keeps _ _ _ ha) h
@[simp] theorem faultTcb_keeps (s : State) (asid : Nat) (tcb code : Word) (h : Memory.wf s.mem = true) :
    Memory.wf (s.faultTcb asid tcb code).mem = true := by
  unfold State.faultTcb; repeat' split
  all_goals simp [h]
@[simp] theorem refuseRecord_keeps (s : State) (q asid : Nat) (tcb code : Word) (h : Memory.wf s.mem = true) :
    Memory.wf (s.refuseRecord q asid tcb code).mem = true := by
  simp [State.refuseRecord, h]
@[simp] theorem takeRecord_keeps (s : State) (q : Nat) (h : Memory.wf s.mem = true) : Memory.wf (s.takeRecord q).mem = true := by
  unfold State.takeRecord; dsimp only
  split
  · refine noteEnded_keeps _ _ ?_
    have h1 := queuePop_keeps s q h
    split
    · exact refuseRecord_keeps _ _ _ _ _ h1
    · split
      · exact refuseRecord_keeps _ _ _ _ _ h1
      · split
        · exact refuseRecord_keeps _ _ _ _ _ h1
        · exact h1
  · exact h
@[simp] theorem mailWrite_keeps (s : State) (l x : Nat) (h : Memory.wf s.mem = true) :
    Memory.wf (s.mailWrite l x).mem = true := by
  simp [State.mailWrite, h]
theorem mailPush_keeps {s t : State} {b : BitVec 28} {v : Word} (e : s.mailPush b v = some t) (h : Memory.wf s.mem = true) :
    Memory.wf t.mem = true := by
  unfold State.mailPush at e
  obtain ⟨c, -, e⟩ := Option.bind_eq_some_iff.1 e
  dsimp only at e
  split at e
  · cases e
  · obtain ⟨rx, -, e⟩ := Option.bind_eq_some_iff.1 e
    split at e
    · cases e
    · rw [← Option.some.inj e]
      exact mailWrite_keeps _ _ _ (mailWrite_keeps _ _ _ h)
theorem mailPop_keeps {s t : State} {b : BitVec 28} {v : Word} (e : s.mailPop b = some (v, t)) (h : Memory.wf s.mem = true) :
    Memory.wf t.mem = true := by
  unfold State.mailPop at e
  dsimp only at e
  split at e
  · cases e
  · obtain ⟨-, e⟩ := Prod.mk.inj (Option.some.inj e)
    rw [← e]
    exact mailWrite_keeps _ _ _ h
@[simp] theorem unbind_mem (s : State) (q : Nat) : (s.unbind q).mem = s.mem := by
  simp [State.unbind]
@[simp] theorem execQbind_keeps (q : BitVec 4) (a : BitVec 5) (p : BitVec 3) (s : State) (h : Memory.wf s.mem = true) :
    KeepsMem (execQbind q a p s) := by
  unfold execQbind
  extract_lets c b s1 s2
  have h1 : Memory.wf s1.mem = true := by simpa [s1] using h
  split
  · refine (keepsMem_next _).2 ?_
    rw [onCtx_mem]
    unfold s2
    split
    · exact mailWrite_keeps _ _ _ (mailWrite_keeps _ _ _ h1)
    · exact h1
  · exact h
@[simp] theorem copyAccept_keeps (q : Nat) (ea : Word) (w : List Word) (full : State → State) (accepted : Thread → Thread) (s : State)
    (hf : ∀ t, Memory.wf t.mem = true → Memory.wf (full t).mem = true) (h : Memory.wf s.mem = true) :
    KeepsMem (copyAccept q ea w full accepted s) := by
  unfold copyAccept; dsimp only; repeat' split
  all_goals simp [h, hf]
@[simp] theorem copyPush_keeps (q : Nat) (ea : Word) (full : List Word → State → State) (accepted : Thread → Thread) (s : State)
    (hf : ∀ w t, Memory.wf t.mem = true → Memory.wf (full w t).mem = true) (h : Memory.wf s.mem = true) :
    KeepsMem (copyPush q ea full accepted s) := by
  unfold copyPush; dsimp only
  split
  · exact copyAccept_keeps _ _ _ _ _ _ (hf _) h
  · split
    · simp [h]
    · split
      · next s1 e =>
        have h1 : Memory.wf s1.mem = true := keeps_of_eq Prod.snd e (by simp [h])
        simp [h1]
      · next e => exact keeps_of_eq Prod.snd e (by simp [h])
      · next p s1 e =>
        have h1 : Memory.wf s1.mem = true := keeps_of_eq Prod.snd e (by simp [h])
        split
        · exact h1
        · split
          · simp [h1]
          · exact copyAccept_keeps _ _ _ _ _ _ (hf _) h1
@[simp] theorem copyPop_keeps (q d : Nat) (wait : State → State) (done : Thread → Thread) (s : State)
    (hw : ∀ t, Memory.wf t.mem = true → Memory.wf (wait t).mem = true) (h : Memory.wf s.mem = true) :
    KeepsMem (copyPop q d wait done s) := by
  unfold copyPop; repeat' split
  all_goals simp [h, hw]
@[simp] theorem holdPush_mem (s : State) (w : List Word) : (s.holdPush w).mem = s.mem := by
  simp [State.holdPush]
@[simp] theorem execQpush_keeps (q : BitVec 4) (a : BitVec 5) (s : State) (h : Memory.wf s.mem = true) :
    KeepsMem (execQpush q a s) := by
  unfold execQpush; split <;> simp [h]
@[simp] theorem execQpop_keeps (d : BitVec 5) (q : BitVec 4) (s : State) (h : Memory.wf s.mem = true) :
    KeepsMem (execQpop d q s) := by
  unfold execQpop
  split
  · exact copyPop_keeps _ _ _ _ _ (fun _ ht => ht) h
  · simp [h]
  · simp [h]
@[simp] theorem execQpusht_keeps (q : BitVec 4) (a : BitVec 5) (p : BitVec 3) (s : State) (h : Memory.wf s.mem = true) :
    KeepsMem (execQpusht q a p s) := by
  unfold execQpusht
  split
  · exact copyPush_keeps _ _ _ _ _ (fun _ _ ht => ht) h
  · split
    · exact h
    · dsimp only
      split
      · next s1 e => simpa using mailPush_keeps e (by simpa using h)
      · simp [h]
  · simp [h]
@[simp] theorem execQpopt_keeps (d : BitVec 5) (q : BitVec 4) (p : BitVec 3) (s : State) (h : Memory.wf s.mem = true) :
    KeepsMem (execQpopt d q p s) := by
  unfold execQpopt
  split
  · exact copyPop_keeps _ _ _ _ _ (fun _ ht => ht) h
  · split
    · next v s1 e => simpa using mailPop_keeps e h
    · exact h
  · simp [h]
@[simp] theorem execTqpush_keeps (q : BitVec 4) (a : BitVec 5) (p : BitVec 3) (s : State) (h : Memory.wf s.mem = true) :
    KeepsMem (execTqpush q a p s) := by
  unfold execTqpush; dsimp only
  split
  · simp [h]
  · split
    · simp [h]
    · split
      · exact h
      · split
        · next e => exact keeps_of_eq Checked.state e (by simp [h])
        · next m s1 e =>
          have h1 : Memory.wf s1.mem = true := keeps_of_eq Checked.state e (by simp [h])
          split
          · exact h1
          · split
            · simp [h1]
            · split
              · exact h1
              · split
                · next s2 e => exact keeps_of_eq (Option.getD · s1) e (by simp [h1])
                · exact h1
@[simp] theorem execTqpop_keeps (q : BitVec 4) (a : BitVec 5) (p : BitVec 3) (s : State) (h : Memory.wf s.mem = true) :
    KeepsMem (execTqpop q a p s) := by
  unfold execTqpop
  split
  · simp [h]
  · split
    · exact h
    · split
      · next e => exact keeps_of_eq Checked.state e (by simp [h])
      · next m s1 e =>
        have h1 : Memory.wf s1.mem = true := keeps_of_eq Checked.state e (by simp [h])
        split
        · exact h1
        · split <;> simp [h1]

end Sys2Proof.Machine
end

section
/-! Laws/Keep carried on to the pages, the fold of drafts, the errors and the vector unit. -/

namespace Sys2Proof.Machine
open Sys2Proof

/-! ### Operations of Machine/Page.lean -/

@[simp] theorem invalidate_mem (s : State) (f : TlbEntry → Bool) : ((s.invalidate f).getD s).mem = s.mem := by
  unfold State.invalidate; split <;> simp
@[simp] theorem privileged_keeps (word : Word) (s : State) (f : Host.Outcome State Fault Refusal) (hf : KeepsMem f)
    (h : Memory.wf s.mem = true) : KeepsMem (privileged word s f) := by
  unfold privileged
  split
  · exact hf
  · simp [h]
@[simp] theorem invalidateOp_keeps (f : TlbEntry → Bool) (s : State) (h : Memory.wf s.mem = true) :
    KeepsMem (invalidateOp f s) := by
  unfold invalidateOp
  split
  · exact h
  · split
    · next s1 e => exact keeps_of_eq (Option.getD · (s.flush s.cur 4)) e (by simp [h])
    · exact h
@[simp] theorem onMigrations_mem (s : State) (f : Nat) (g : List Migration → List Migration) :
    (s.onMigrations f g).mem = s.mem := by
  simp [State.onMigrations]
@[simp] theorem writeLeaf_keeps (s : State) (at0 : Nat) (leaf : Word) (h : Memory.wf s.mem = true) :
    Memory.wf (s.writeLeaf at0 leaf).mem = true := by
  simp [State.writeLeaf, h]
@[simp] theorem acceptMigration_keeps (s : State) (m : Migration) (h : Memory.wf s.mem = true) :
    Memory.wf (s.acceptMigration m).mem = true := by
  simp [State.acceptMigration, h]
@[simp] theorem migrateWith_keeps (s : State) (d : Nat) (p : Place) (w0 w1 w2 : Word) (h : Memory.wf s.mem = true) :
    Memory.wf (s.migrateWith d p w0 w1 w2).mem = true := by
  unfold State.migrateWith; dsimp only; repeat' split
  all_goals simp [h]
@[simp] theorem execMigrate_keeps (d a : BitVec 5) (s : State) (h : Memory.wf s.mem = true) : KeepsMem (execMigrate d a s) := by
  unfold execMigrate
  refine privileged_keeps _ _ _ ?_ h
  split
  · simp [h]
  · split
    · simp [h]
    · have h1 : Memory.wf ((s.flush s.cur 4).reach s.agent (.thread s.cur false) true false false (s.ctx.g a.toNat)).2.mem = true := by
        simp [h]
      split
      · next e => rw [e] at h1; simp [h1]
      · next e => rw [e] at h1; simp [h1]
      · next e =>
        rw [e] at h1
        split
        · simp [h1]
        · split <;> simp [h1]
@[simp] theorem foldLine_keeps (s : State) (g : Nat) (h : Memory.wf s.mem = true) : Memory.wf (s.foldLine g).mem = true := by
  unfold State.foldLine
  split
  · exact h
  · next d _ =>
    have hb := wf_writeCells (d.bytes.map fun b => (g * 256 + b.1, b.2)) s.mem h
    rwa [List.foldl_map] at hb
@[simp] theorem foldAll_keeps (s : State) (g n : Nat) (h : Memory.wf s.mem = true) : Memory.wf (s.foldAll g n).mem = true := by
  induction n generalizing s with
  | zero => exact h
  | succ n ih =>
    unfold State.foldAll
    split
    · exact ih _ (foldLine_keeps _ _ h)
    · exact h
@[simp] theorem foldPage_keeps (s : State) (page : Nat) (h : Memory.wf s.mem = true) :
    Memory.wf (s.foldPage page).mem = true :=
  foldl_keeps _ _ _ (fun a g ha => foldAll_keeps a g 64 ha) h
@[simp] theorem dropPage_mem (s : State) (page : Nat) : (s.dropPage page).mem = s.mem := by
  simp [State.dropPage]
@[simp] theorem migrationStart_keeps (s : State) (f : Nat) (h : Memory.wf s.mem = true) :
    Memory.wf (s.migrationStart f).mem = true := by
  unfold State.migrationStart; split <;> simp [h]
@[simp] theorem copyRange_keeps (s : State) (src dst n : Nat) (h : Memory.wf s.mem = true) :
    Memory.wf (copyRange s src dst n).mem = true := by
  simp [copyRange, h]
@[simp] theorem copyErrors_keeps (s : State) (src dst n : Nat) (h : Memory.wf s.mem = true) :
    Memory.wf (copyErrors s src dst n).mem = true := by
  have h1 := foldl_keeps (fun a i => a.errorAt (src + 64 * i)) (badLines s src n) s (fun _ _ ha => errorAt_keeps _ _ ha) h
  unfold copyErrors; dsimp only
  split
  · exact errorAt_keeps _ _ h1
  · exact h1
@[simp] theorem migrationCopy_keeps (s : State) (f : Nat) (h : Memory.wf s.mem = true) :
    Memory.wf (s.migrationCopy f).mem = true := by
  unfold State.migrationCopy; split <;> simp [h]
@[simp] theorem migrationEnd_keeps (s : State) (f : Nat) (h : Memory.wf s.mem = true) :
    Memory.wf (s.migrationEnd f).mem = true := by
  unfold State.migrationEnd
  split
  · exact h
  · refine postEvent_keeps _ _ _ _ _ ?_
    simp only [onMigrations_mem]
    split <;> simp [h]
@[simp] theorem setTest_mem (s : State) (r : Resource) (t : TestState) : (s.setTest r t).mem = s.mem := by
  simp [State.setTest]
@[simp] theorem startTest_mem (s : State) (r : Resource) : (s.startTest r).mem = s.mem := by
  unfold State.startTest; split <;> simp
@[simp] theorem setLink_mem (s : State) (l : Link) (x : LinkInfo) : (s.setLink l x).mem = s.mem := by
  simp [State.setLink]
@[simp] theorem reportLink_keeps (s : State) (l : Link) (st : LinkState) (h : Memory.wf s.mem = true) :
    Memory.wf (s.reportLink l st).mem = true := by
  simp [State.reportLink, h]
@[simp] theorem noteLane_mem (s : State) (l : Link) (n : Nat) (spare : Bool) : (s.noteLane l n spare).mem = s.mem := by
  simp [State.noteLane]
@[simp] theorem loseLane_keeps (s : State) (l : Link) (n : Nat) (spare width : Bool) (h : Memory.wf s.mem = true) :
    Memory.wf (s.loseLane l n spare width).mem = true := by
  unfold State.loseLane; split <;> simp [h]
@[simp] theorem abortOn_keeps (s : State) (c : Nat) (h : Memory.wf s.mem = true) : Memory.wf (s.abortOn c).mem = true :=
  foldl_keeps _ _ _ (fun _ _ ha => abortKernel_keeps _ _ _ _ ha) h
@[simp] theorem mark_mem (s : State) (l : Nat) : (s.mark l).mem = s.mem := by
  simp [State.mark]
@[simp] theorem corrupt_keeps (s : State) (r : Resource) (h : Memory.wf s.mem = true) : Memory.wf (s.corrupt r).mem = true := by
  unfold State.corrupt; split <;> simp [h]
theorem dram_memOk (r : Resource) (f : Nat → State) (s : State) (hf : ∀ a, (f a).MemOk) (h : s.MemOk) :
    State.MemOk (match r with
      | .dram a => f a
      | _ => s) := by
  split
  · exact hf _
  · exact h
theorem abortVersion_memOk (s : State) (o : Option (List (Nat × Kernel))) (h : s.MemOk) : State.MemOk (match o with
      | some ks => (ks.head?.map fun p => s.abortCohort KState.draftAbortable p.1 0x42 false).getD s
      | none => s) := by
  split
  · exact getD_map_keeps _ _ _ (fun p => abortCohort_keeps _ _ _ _ _ h) h
  · exact h
@[simp] theorem draftError_keeps (s : State) (r : Resource) (h : Memory.wf s.mem = true) :
    Memory.wf (s.draftError r).mem = true :=
  dram_memOk r _ s (fun _ => abortVersion_memOk s _ h) h
@[simp] theorem execUncorrectableError_keeps (r : Resource) (s : State) (h : Memory.wf s.mem = true) :
    KeepsMem (execUncorrectableError r s) :=
  postEvent_keeps _ _ _ _ _ (by simpa using draftError_keeps _ _ (corrupt_keeps _ _ h))
@[simp] theorem loseWay_mem (s : State) (die slice offset : Nat) : (s.loseWay die slice offset).mem = s.mem := by
  simp [State.loseWay]
@[simp] theorem retireResource_keeps (s : State) (r : Resource) (h : Memory.wf s.mem = true) :
    Memory.wf (s.retire_ r).mem = true := by
  unfold State.retire_; split <;> simp [h]
@[simp] theorem execSelfTestComplete_keeps (r : Resource) (pass : Bool) (s : State) (h : Memory.wf s.mem = true) :
    KeepsMem (execSelfTestComplete r pass s) := by
  unfold execSelfTestComplete; repeat' split
  all_goals simp [h]

/-! ### Operations of Machine/VecMem.lean -/

@[simp] theorem checkTouch_mem (s : State) (t : ThreadRef) (c : VCmd) (x : Touch) : (s.checkTouch t c x).state.mem = s.mem := by
  unfold State.checkTouch; dsimp only
  split
  · split <;> rfl
  · have hr := reach_mem s (s.cmdAgent t c) (.thread t false) false c.op.writesMemory false x.va
    split
    · next e => rw [e] at hr; exact hr
    · next e => rw [e] at hr; exact hr
    · next e =>
      rw [e] at hr
      repeat' split
      all_goals exact hr
@[simp] theorem checkTouches_mem (s : State) (t : ThreadRef) (c : VCmd) (touches : List Touch) :
    (s.checkTouches t c touches).state.mem = s.mem := by
  induction touches generalizing s c with
  | nil => rfl
  | cons x r ih =>
    have hx := checkTouch_mem s t c x
    unfold State.checkTouches
    split
    · next e => rw [e] at hx; rw [ih]; exact hx
    · exact hx
@[simp] theorem checkUnit_mem (s : State) (t : ThreadRef) (c : VCmd) (l : List Touch) :
    (s.checkUnit t c l).state.mem = s.mem := by
  have hx := checkTouches_mem s t c l
  unfold State.checkUnit
  split
  · rfl
  · split
    · rfl
    · split
      · next e => rw [e] at hx; split <;> exact hx
      · exact hx
@[simp] theorem checkUnits_mem (s : State) (t : ThreadRef) (c : VCmd) (units : List Nat) :
    (s.checkUnits t c units).state.mem = s.mem := by
  induction units generalizing s c with
  | nil => rfl
  | cons i r ih =>
    have hx := checkUnit_mem s t c (c.unitTouches (s.thread t) i)
    unfold State.checkUnits; dsimp only
    split
    · next e => rw [e] at hx; rw [ih]; exact hx
    · next e => rw [e] at hx; exact hx
    · next e => rw [e] at hx; exact hx
@[simp] theorem cutVector_mem (s : State) (t : ThreadRef) (c : VCmd) (i : Nat) : (s.cutVector t c i).2.mem = s.mem := by
  unfold State.cutVector; split <;> simp
@[simp] theorem park_keeps (s : State) (t : ThreadRef) (va : Word) (fetch : Bool) (h : Memory.wf s.mem = true) :
    Memory.wf (s.park t va fetch).mem = true :=
  onRecorded_keeps _ _ _ (fun a ha => by simpa using ha) h
@[simp] theorem trapOwed_keeps (s : State) (t : ThreadRef) (cause : Nat) (va : Word) (h : Memory.wf s.mem = true) :
    Memory.wf (s.trapOwed t cause va).mem = true := by
  unfold State.trapOwed
  split
  · exact onRecorded_keeps _ _ _ (fun a ha => by simpa using ha) h
  · simp [h]
@[simp] theorem passVector_keeps (s : State) (t : ThreadRef) (c : VCmd) (h : Memory.wf s.mem = true) :
    Memory.wf (s.passVector t c).mem = true :=
  onRecorded_keeps _ _ _ (fun a ha => endStep_keeps _ _ _ (by simpa using ha)) (by simpa using h)
@[simp] theorem stopVector_keeps (s : State) (t : ThreadRef) (c : VCmd) (i : Nat) (cause : Option Nat) (va : Word)
    (h : Memory.wf s.mem = true) : Memory.wf (s.stopVector t c i cause va).mem = true := by
  unfold State.stopVector; dsimp only; repeat' split
  all_goals simp [h]
@[simp] theorem runChecks_keeps (s : State) (t : ThreadRef) (h : Memory.wf s.mem = true) :
    Memory.wf (s.runChecks t).mem = true := by
  unfold State.runChecks
  split
  · simp [h]
  · split
    all_goals
      next s1 e =>
      have h1 : Memory.wf s1.mem = true := keeps_of_eq ChecksEnd.state e (by simp [h])
      simp [h1]
  · exact h
@[simp] theorem memoryIssue_keeps (c : VCmd) (s : State) (h : Memory.wf s.mem = true) : KeepsMem (memoryIssue c s) := by
  unfold memoryIssue; split <;> simp [h]
@[simp] theorem touchDone_mem (s : State) (t : ThreadRef) (c : VCmd) (x : Touch) : (s.touchDone t c x).mem = s.mem := by
  unfold State.touchDone; split <;> simp
@[simp] theorem touchWrite_keeps (s : State) (t : ThreadRef) (c : VCmd) (x : Touch) (v : Nat) (h : Memory.wf s.mem = true) :
    Memory.wf (s.touchWrite t c x v).state.mem = true := by
  unfold State.touchWrite
  split
  · split
    · next s1 e =>
      have h1 : Memory.wf s1.mem = true := keeps_of_eq WriteEnd.state e (by simp [h])
      simp [h1]
    · simp [h]
  · exact h
@[simp] theorem writeAll_keeps (s : State) (t : ThreadRef) (c : VCmd) (l : List (Touch × Nat)) (a : State)
    (h : Memory.wf s.mem = true) (ha : Memory.wf a.mem = true) : Memory.wf (s.writeAll t c l a).state.mem = true := by
  induction l generalizing a with
  | nil => exact ha
  | cons x r ih =>
    unfold State.writeAll
    split
    · next e => exact ih _ (keeps_of_eq WriteEnd.state e (by simp [ha]))
    · next b e =>
      split
      · next e => exact keeps_of_eq WriteEnd.state e (by simp [h])
      · exact keeps_of_eq WriteEnd.state e (by simp [ha])
    · split
      · next e => exact keeps_of_eq WriteEnd.state e (by simp [h])
      · next e => exact keeps_of_eq WriteEnd.state e (by simp [h])
      · exact h
@[simp] theorem loadUnit_mem (s : State) (t : ThreadRef) (c : VCmd) (i : Nat) : (s.loadUnit t c i).mem = s.mem := by
  simp [State.loadUnit]
@[simp] theorem storeUnit_keeps (s : State) (t : ThreadRef) (c : VCmd) (i : Nat) (h : Memory.wf s.mem = true) :
    Memory.wf (s.storeUnit t c i).state.mem = true :=
  writeAll_keeps _ _ _ _ _ h h
@[simp] theorem loadCell_mem (s : State) (t : ThreadRef) (c : VCmd) (e : Nat) : (s.loadCell t c e).mem = s.mem := by
  unfold State.loadCell; repeat' split
  all_goals simp
@[simp] theorem drainCell_keeps (s : State) (t : ThreadRef) (c : VCmd) (e : Nat) (h : Memory.wf s.mem = true) :
    Memory.wf (s.drainCell t c e).state.mem = true := by
  unfold State.drainCell; dsimp only
  split
  · split
    · next s1 e =>
      have h1 : Memory.wf s1.mem = true := keeps_of_eq WriteEnd.state e (by simp [h])
      simp [h1]
    · simp [h]
  · exact h

/-! ### Operations of Machine/VecUnit.lean -/

@[simp] theorem writeSample_keeps (s : State) (k : Nat) (c : VCmd) (h : Memory.wf s.mem = true) :
    Memory.wf (s.writeSample k c).mem = true := by
  simp [State.writeSample, h]
@[simp] theorem completeVector_keeps (s : State) (k : Nat) (c : VCmd) (h : Memory.wf s.mem = true) :
    Memory.wf (s.completeVector k c).mem = true := by
  unfold State.completeVector; split <;> simp [h]
@[simp] theorem settleCmd_keeps (s : State) (k : Nat) (c : VCmd) (h : Memory.wf s.mem = true) :
    Memory.wf (s.settleCmd k c).mem = true := by
  unfold State.settleCmd; split <;> simp [h]
@[simp] theorem letIn_mem (s : State) (cl : Nat) (now : List ThreadRef) : (s.letIn cl now).mem = s.mem := by
  unfold State.letIn; dsimp only; split <;> simp
@[simp] theorem startCmd_keeps (s : State) (k : Nat) (c : VCmd) (h : Memory.wf s.mem = true) :
    Memory.wf (s.startCmd k c).mem = true := by
  simp [State.startCmd, h]
@[simp] theorem resumeCmd_keeps (s : State) (k : Nat) (c : VCmd) (h : Memory.wf s.mem = true) :
    Memory.wf (s.resumeCmd k c).mem = true := by
  unfold State.resumeCmd
  split
  · simp [h]
  · split
    · simp [h]
    · exact h
@[simp] theorem dispatchChunk_keeps (s : State) (k g : Nat) (c : VCmd) (h : Memory.wf s.mem = true) :
    Memory.wf (s.dispatchChunk k g c).mem = true := by
  unfold State.dispatchChunk; dsimp only; split <;> simp [h]
@[simp] theorem bindGroups_keeps (s : State) (l : List (Nat × Nat × VCmd)) (groups : List Nat) (h : Memory.wf s.mem = true) :
    Memory.wf (s.bindGroups l groups).mem = true := by
  induction groups generalizing s with
  | nil => exact h
  | cons g r ih =>
    unfold State.bindGroups
    split
    · exact ih _ (dispatchChunk_keeps _ _ _ _ h)
    · exact h
@[simp] theorem emptyHead_keeps (s : State) (k : Nat) (c : VCmd) (h : Memory.wf s.mem = true) :
    Memory.wf (s.emptyHead k c).mem = true := by
  simp [State.emptyHead, h]
@[simp] theorem bindLanes_keeps (s : State) (cl : Nat) (h : Memory.wf s.mem = true) : Memory.wf (s.bindLanes cl).mem = true := by
  unfold State.bindLanes; dsimp only
  refine bindGroups_keeps _ _ _ ?_
  rw [letIn_mem, foldl_mem _ _ _ (fun a p => by simp)]
  exact foldl_keeps _ _ _ (fun _ _ ha => emptyHead_keeps _ _ _ ha) h
@[simp] theorem execWatermarkStallEnd_keeps (cl core k : Nat) (s : State) (h : Memory.wf s.mem = true) :
    KeepsMem (execWatermarkStallEnd cl core k s) := by
  unfold execWatermarkStallEnd; split <;> simp [h]
@[simp] theorem noteRun_mem (s : State) (k : Nat) (c : VCmd) (n f a b : Nat) : (s.noteRun k c n f a b).mem = s.mem := by
  simp [State.noteRun]
@[simp] theorem performLoad_keeps (s : State) (k : Nat) (c : VCmd) (f a b : Nat) (h : Memory.wf s.mem = true) :
    Memory.wf (s.performLoad k c f a b).mem = true := by
  unfold State.performLoad; dsimp only
  split
  · exact uncorrectable_keeps _ _ (foldl_keeps _ _ _ (fun _ _ ha => errorAt_keeps _ _ ha) h)
  · refine settleCmd_keeps _ _ _ ?_
    rw [noteRun_mem, foldl_mem _ _ _ fun a i => by
      split
      · rfl
      · split
        · exact loadCell_mem _ _ _ _
        · exact loadUnit_mem _ _ _ _]
    exact foldl_keeps _ _ _ (fun _ _ ha => errorAt_keeps _ _ ha) h
@[simp] theorem performStore_keeps (s : State) (k : Nat) (c : VCmd) (f b : Nat) (lines : List Nat) (n a : Nat)
    (h : Memory.wf s.mem = true) : Memory.wf (s.performStore k c f b lines n a).mem = true := by
  induction n generalizing s a with
  | zero => exact h
  | succ n ih =>
    unfold State.performStore; dsimp only
    split
    · simp [h]
    · split
      · exact h
      · split
        all_goals
          next s1 e =>
          have h1 : Memory.wf s1.mem = true := keeps_of_eq WriteEnd.state e (by split <;> simp [h])
          simp [h1, ih]
@[simp] theorem performArith_keeps (s : State) (k : Nat) (c : VCmd) (f a b : Nat) (h : Memory.wf s.mem = true) :
    Memory.wf (s.performArith k c f a b).mem = true := by
  simp [State.performArith, h]
@[simp] theorem performChunk_keeps (s : State) (k : Nat) (c : VCmd) (f : Nat) (h : Memory.wf s.mem = true) :
    Memory.wf (s.performChunk k c f).mem = true := by
  unfold State.performChunk; repeat' split
  all_goals simp [h]
@[simp] theorem execVectorChunkResult_keeps (cl core k : Nat) (s : State) (h : Memory.wf s.mem = true) :
    KeepsMem (execVectorChunkResult cl core k s) := by
  unfold execVectorChunkResult; split <;> simp [h]
@[simp] theorem completeWhole_keeps (s : State) (k : Nat) (c : VCmd) (h : Memory.wf s.mem = true) :
    Memory.wf (s.completeWhole k c).mem = true := by
  simp [State.completeWhole, h]
@[simp] theorem execWholeOperandComplete_keeps (cl core k : Nat) (s : State) (h : Memory.wf s.mem = true) :
    KeepsMem (execWholeOperandComplete cl core k s) := by
  unfold execWholeOperandComplete; split <;> simp [h]

end Sys2Proof.Machine
end

section
/-! Laws/Keep carried on to the tile unit, the walks, the debugger, the float instructions and the links. -/

namespace Sys2Proof.Machine
open Sys2Proof

/-! ### Operations of Machine/TileUnit.lean -/

@[simp] theorem admitTiles_mem (s : State) (cl : Nat) (now : List ThreadRef) : (s.admitTiles cl now).mem = s.mem := by
  unfold State.admitTiles; dsimp only; split <;> simp
@[simp] theorem startTile_keeps (s : State) (k : Nat) (c : TCmd) (h : Memory.wf s.mem = true) :
    Memory.wf (s.startTile k c).mem = true := by
  simp [State.startTile, h]
@[simp] theorem matrixStart_keeps (s : State) (cl : Nat) (h : Memory.wf s.mem = true) :
    Memory.wf (s.matrixStart cl).mem = true := by
  unfold State.matrixStart; dsimp only; split <;> simp [h]
@[simp] theorem admitHeads_mem (s : State) : s.admitHeads.mem = s.mem := by
  simp [State.admitHeads]
@[simp] theorem releaseMatrix_mem (s : State) (t : ThreadRef) (n : Nat) : (s.releaseMatrix t n).mem = s.mem := by
  simp [State.releaseMatrix]
@[simp] theorem tileTrap_keeps (s : State) (t : ThreadRef) (c : TCmd) (row col : Nat) (h : Memory.wf s.mem = true) :
    Memory.wf (s.tileTrap t c row col).mem = true := by
  simp [State.tileTrap, h]
@[simp] theorem tileDone_keeps (s : State) (t : ThreadRef) (c : TCmd) (h : Memory.wf s.mem = true) :
    Memory.wf (s.tileDone t c).mem = true := by
  unfold State.tileDone
  refine settleThread_keeps _ _ ?_
  split
  · exact onRecorded_keeps _ _ _ (fun a ha => endStep_keeps _ _ _ ha) h
  · exact h
@[simp] theorem updateDone_keeps (s : State) (t : ThreadRef) (c : TCmd) (h : Memory.wf s.mem = true) :
    Memory.wf (s.updateDone t c).mem = true := by
  unfold State.updateDone; dsimp only; split <;> simp [h]
@[simp] theorem promoteTile_mem (s : State) (t : ThreadRef) (c : TCmd) : (s.promoteTile t c).2.mem = s.mem := by
  simp [State.promoteTile]
@[simp] theorem mpromDone_keeps (s : State) (t : ThreadRef) (c : TCmd) (h : Memory.wf s.mem = true) :
    Memory.wf (s.mpromDone t c).mem = true := by
  unfold State.mpromDone; split <;> simp [h]
@[simp] theorem lineDone_keeps (s : State) (t : ThreadRef) (c : TCmd) (h : Memory.wf s.mem = true) :
    Memory.wf (s.lineDone t c).mem = true := by
  simp [State.lineDone, h]
@[simp] theorem saveFrom_keeps (s : State) (t : ThreadRef) (record g : Nat) (places : List Place) (h : Memory.wf s.mem = true) :
    Memory.wf (s.saveFrom t record g places).2.mem = true := by
  induction places generalizing s g with
  | nil => exact h
  | cons q r ih =>
    unfold State.saveFrom; dsimp only
    split
    all_goals
      next s1 e =>
      have h1 : Memory.wf s1.mem = true := keeps_of_eq WriteEnd.state e (by simp [h])
      simp [h1, ih]
@[simp] theorem saveDone_keeps (s : State) (t : ThreadRef) (c : TCmd) (h : Memory.wf s.mem = true) :
    Memory.wf (s.saveDone t c).mem = true := by
  unfold State.saveDone; dsimp only
  split
  · next e => exact keeps_of_eq Prod.snd e (by simp [h])
  · next g s1 e =>
    have h1 : Memory.wf s1.mem = true := keeps_of_eq Prod.snd e (by simp [h])
    split <;> simp [h1]
@[simp] theorem restoreDone_keeps (s : State) (t : ThreadRef) (c : TCmd) (h : Memory.wf s.mem = true) :
    Memory.wf (s.restoreDone t c).mem = true := by
  unfold State.restoreDone; dsimp only
  split
  · split <;> simp [h]
  · refine tileDone_keeps _ _ _ ?_
    rw [releaseMatrix_mem, foldl_mem _ _ _ (fun a p => by simp)]
    simpa using h
@[simp] theorem performTile_keeps (s : State) (t : ThreadRef) (c : TCmd) (h : Memory.wf s.mem = true) :
    Memory.wf (s.performTile t c).mem = true := by
  unfold State.performTile; split <;> simp [h]
@[simp] theorem execTileCommandComplete_keeps (cl : Nat) (s : State) (h : Memory.wf s.mem = true) :
    KeepsMem (execTileCommandComplete cl s) := by
  unfold execTileCommandComplete; split <;> simp [h]

/-! ### Operations of Machine/Walk.lean -/

@[simp] theorem releaseRequester_mem (s : State) (r : Requester) : (s.release_ r).mem = s.mem := by
  unfold State.release_; split <;> simp
@[simp] theorem walkServed_mem (s : State) (e : TlbEntry) (x : Waiter) : (s.walkServed e x).mem = s.mem := by
  unfold State.walkServed; split <;> simp
@[simp] theorem walkRefused_keeps (s : State) (va : Word) (r : Requester) (h : Memory.wf s.mem = true) :
    Memory.wf (s.walkRefused va r).2.mem = true := by
  unfold State.walkRefused; dsimp only; repeat' split
  all_goals simp [h]
@[simp] theorem walkFailed_keeps (s : State) (waiters : List Waiter) (h : Memory.wf s.mem = true) :
    Memory.wf (s.walkFailed waiters).2.mem = true := by
  induction waiters generalizing s with
  | nil => exact h
  | cons x r ih => exact ih _ (walkRefused_keeps _ _ _ h)
@[simp] theorem postFault_keeps (s : State) (die : Nat) (r : FaultRecord) (h : Memory.wf s.mem = true) :
    Memory.wf (s.postFault die r).mem = true := by
  unfold State.postFault
  extract_lets j a ws s1 s2
  have h1 : Memory.wf s1.mem = true := foldl_keeps _ _ _ (fun _ _ ha => storeBytes_keeps _ _ _ _ (by simpa using ha)) h
  have h2 : Memory.wf s2.mem = true := by simp [s2, h1]
  simp [h2]
@[simp] theorem postFaults_keeps (s : State) (die : Nat) (h : Memory.wf s.mem = true) :
    Memory.wf (s.postFaults die).mem = true :=
  foldl_keeps _ _ _ (fun _ _ ha => by split <;> simp [ha]) h
@[simp] theorem openFault_keeps (s : State) (die asid kind : Nat) (l : List Waiter) (h : Memory.wf s.mem = true) :
    Memory.wf (s.openFault die asid kind l).mem = true := by
  unfold State.openFault; split <;> simp [h]
@[simp] theorem noteParked_mem (s : State) (x : Waiter) : (s.noteParked x).mem = s.mem := by
  unfold State.noteParked; split <;> simp
@[simp] theorem rewalk_mem (s : State) (t : ThreadRef) : (s.rewalk t).mem = s.mem := by
  unfold State.rewalk; dsimp only; split <;> simp
@[simp] theorem walkTouch_keeps (s : State) (die : Nat) (w : Walk) (h : Memory.wf s.mem = true) :
    Memory.wf (s.walkTouch die w).mem = true := by
  unfold State.walkTouch; split <;> simp [h]
@[simp] theorem walkEnd_keeps (s : State) (die k : Nat) (h : Memory.wf s.mem = true) :
    Memory.wf (s.walkEnd die k).mem = true := by
  unfold State.walkEnd; dsimp only
  split
  · exact h
  · split
    · rw [foldl_mem _ _ _ (fun a x => by simp)]
      simp [h]
    · split
      · rw [foldl_mem _ _ _ (fun a x => by simp)]
        simp [h]
      · split
        · refine openFault_keeps _ _ _ _ _ ?_
          rw [foldl_mem _ _ _ (fun a x => by simp)]
          exact walkFailed_keeps _ _ (by simp [h])
        · exact h
@[simp] theorem failWaiter_keeps (s : State) (f : FaultRecord) (r : Requester) (h : Memory.wf s.mem = true) :
    Memory.wf (s.failWaiter f r).mem = true := by
  unfold State.failWaiter; dsimp only
  split
  · repeat' split
    all_goals simp [h]
  · simp [h]
  · split
    · simp [h]
    · split
      · exact postEvent_keeps _ _ _ _ _ (by simp [h])
      · simp [h]
@[simp] theorem retryWaiter_mem (s : State) (r : Requester) : (s.retryWaiter r).mem = s.mem := by
  unfold State.retryWaiter; split <;> simp
@[simp] theorem resolveFault_keeps (s : State) (die k : Nat) (h : Memory.wf s.mem = true) :
    Memory.wf (s.resolveFault die k).mem = true := by
  unfold State.resolveFault; dsimp only
  split
  · exact h
  · next f _ =>
    refine foldl_keeps _ _ _ (fun _ _ ha => by split <;> simp [ha]) ?_
    cases f.posted <;> simp [h]
@[simp] theorem fetchLost_keeps (s : State) (t : ThreadRef) (base line : Nat) (h : Memory.wf s.mem = true) :
    Memory.wf (s.fetchLost t base line).mem = true := by
  unfold State.fetchLost; split <;> simp [h]
@[simp] theorem grantGroup_keeps (s : State) (cl base : Nat) (ts : List ThreadRef) (h : Memory.wf s.mem = true) :
    Memory.wf (s.grantGroup cl base ts).mem = true := by
  unfold State.grantGroup
  extract_lets shared r
  have hr : Memory.wf r.2.2.mem = true := by
    refine List.foldlRecOn (motive := fun b : List ThreadRef × Option Nat × State => Memory.wf b.2.2.mem = true) ts _ h fun b hb
      t _ => ?_
    split
    · next s1 e =>
      have h1 : Memory.wf s1.mem = true := keeps_of_eq Prod.snd e (by simp [hb])
      simp [h1]
    · next s1 e =>
      have h1 : Memory.wf s1.mem = true := keeps_of_eq Prod.snd e (by simp [hb])
      exact h1
    · next p s1 e =>
      have h1 : Memory.wf s1.mem = true := keeps_of_eq Prod.snd e (by simp [hb])
      split
      · simp [h1]
      · split <;> simp [h1]
  split <;> simp [hr]
@[simp] theorem grantGroups_keeps (s : State) (cl n : Nat) (groups : List (ThreadRef × Nat × Nat)) (h : Memory.wf s.mem = true) :
    Memory.wf (s.grantGroups cl n groups).mem = true := by
  induction n generalizing s groups with
  | zero => exact h
  | succ n ih =>
    unfold State.grantGroups
    split
    · exact h
    · exact ih _ _ (grantGroup_keeps _ _ _ _ h)
@[simp] theorem lineArrives_keeps (s : State) (cl k : Nat) (h : Memory.wf s.mem = true) :
    Memory.wf (s.lineArrives cl k).mem = true := by
  unfold State.lineArrives; dsimp only
  split
  · exact h
  · split
    · exact foldl_keeps _ _ _ (fun _ _ ha => fetchLost_keeps _ _ _ _ ha) (by simpa using h)
    · exact foldl_keeps _ _ _ (fun _ _ ha => by repeat' split <;> simp [ha]) (by simp [h])

/-! ### Operations of Machine/Debug.lean -/

@[simp] theorem onDebugged_mem (s : State) (t : ThreadRef) (f : Thread → Thread) : (s.onDebugged t f).mem = s.mem := by
  simp [State.onDebugged]
@[simp] theorem writeRecorded_mem (s : State) (t : ThreadRef) (n : Nat) : (s.writeRecorded t n).mem = s.mem := by
  unfold State.writeRecorded; split <;> simp
@[simp] theorem writeTmap_keeps (s : State) (t : ThreadRef) (v : Word) (h : Memory.wf s.mem = true) :
    Memory.wf (s.writeTmap t v).mem = true :=
  foldl_keeps _ _ _ (fun _ _ ha => by repeat' split <;> simp [ha]) h
@[simp] theorem writeFrame_keeps (s : State) (t : ThreadRef) (w : Nat) (v : Word) (h : Memory.wf s.mem = true) :
    Memory.wf (s.writeFrame t w v).mem = true := by
  unfold State.writeFrame; dsimp only; split <;> simp [h]
@[simp] theorem asThread_keeps (s : State) (t : ThreadRef) (f : State → State)
    (hf : ∀ a, Memory.wf a.mem = true → Memory.wf (f a).mem = true) (h : Memory.wf s.mem = true) :
    Memory.wf (s.asThread t f).mem = true := by
  unfold State.asThread
  split
  · exact hf _ h
  · exact hf _ h
@[simp] theorem execDebugWrite_keeps (t : ThreadRef) (i : DebugItem) (v : BitVec 64) (s : State) (h : Memory.wf s.mem = true) :
    KeepsMem (execDebugWrite t i v s) := by
  unfold execDebugWrite
  refine (keepsMem_next _).2 ?_
  split
  · split
    · simp [h]
    · split
      · exact asThread_keeps _ _ _ (fun a ha => csrWrite_keeps _ _ _ ha) h
      · exact h
  · exact h
@[simp] theorem execDebuggerKernelRelease_keeps (k : Nat) (s : State) (h : Memory.wf s.mem = true) :
    KeepsMem (execDebuggerKernelRelease k s) := by
  unfold execDebuggerKernelRelease; repeat' split
  all_goals simp [h]

/-! ### Operations of Machine/Float.lean -/

@[simp] theorem fpEnd_keeps (s : State) (d : Nat) (v : Word) (c : Conds) (h : Memory.wf s.mem = true) :
    Memory.wf (s.fpEnd d v c).mem = true := by
  unfold State.fpEnd; split <;> simp [h]
@[simp] theorem fpPut_keeps (s : State) (d : Nat) (r : Nat × Conds) (h : Memory.wf s.mem = true) :
    Memory.wf (s.fpPut d r).mem = true := by
  simp [State.fpPut, h]
@[simp] theorem rounded_keeps (m : BitVec 3) (word : Word) (s : State) (f : Nat → State) (hf : ∀ rm, Memory.wf (f rm).mem = true)
    (h : Memory.wf s.mem = true) : KeepsMem (rounded m word s f) := by
  unfold rounded; split <;> simp [h, hf]
@[simp] theorem fpFlag_keeps (s : State) (d : Nat) (b : Bool) (c : Conds) (h : Memory.wf s.mem = true) :
    Memory.wf (s.fpFlag d b c).mem = true := by
  simp [State.fpFlag, h]

/-! ### Operations of Machine/Link.lean -/

@[simp] theorem onTime_mem (s : State) (die : Nat) (f : TimeUnit → TimeUnit) : (s.onTime die f).mem = s.mem := by
  simp [State.onTime]
@[simp] theorem releaseBoot_mem (s : State) : s.releaseBoot.mem = s.mem := by
  simp only [State.releaseBoot, onTime_mem, mapDies_mem, onCluster_mem]
  exact foldl_mem _ _ _ fun _ _ => rfl
@[simp] theorem bootOn_mem (s : State) : s.bootOn.mem = s.mem := by
  simp [State.bootOn]
@[simp] theorem trainingEnds_keeps (s : State) (l : Link) (r : TrainingResult) (h : Memory.wf s.mem = true) :
    Memory.wf (s.trainingEnds l r).mem = true := by
  unfold State.trainingEnds; split <;> simp [h]
@[simp] theorem execLinkManagementReset_keeps (l : Link) (s : State) (h : Memory.wf s.mem = true) :
    KeepsMem (execLinkManagementReset l s) := by
  unfold execLinkManagementReset; repeat' split
  all_goals simp [h]
@[simp] theorem setLock_keeps (s : State) (die : Nat) (l : Lock) (report : Bool) (h : Memory.wf s.mem = true) :
    Memory.wf (s.setLock die l report).mem = true := by
  simp [State.setLock, h]
@[simp] theorem unlock_keeps (s : State) (n die : Nat) (h : Memory.wf s.mem = true) : Memory.wf (s.unlock n die).mem = true := by
  induction n generalizing s die with
  | zero => exact h
  | succ n ih =>
    unfold State.unlock
    split
    · exact h
    · exact foldl_keeps _ _ _ (fun _ _ ha => ih _ _ ha) (by simp [h])
@[simp] theorem relock_keeps (s : State) (die : Nat) (good : Bool) (h : Memory.wf s.mem = true) :
    Memory.wf (s.relock die good).mem = true := by
  unfold State.relock; dsimp only; split <;> simp [h]
@[simp] theorem execDelayResponse_keeps (die : Nat) (s : State) (h : Memory.wf s.mem = true) :
    KeepsMem (execDelayResponse die s) := by
  unfold execDelayResponse; dsimp only; split <;> simp [h]
@[simp] theorem execSyncExchangeMissed_keeps (die : Nat) (s : State) (h : Memory.wf s.mem = true) :
    KeepsMem (execSyncExchangeMissed die s) := by
  unfold execSyncExchangeMissed; dsimp only; repeat' split
  all_goals simp [h]
@[simp] theorem outsideWrite_keeps (s : State) (l : Nat) (data : List Byte) (h : Memory.wf s.mem = true) :
    Memory.wf (s.outsideWrite l data).mem = true := by
  simp [State.outsideWrite, h]
@[simp] theorem noteBad_keeps (s : State) (bad : Bool) (l n : Nat) (h : Memory.wf s.mem = true) :
    Memory.wf (s.noteBad bad l n).mem = true := by
  simp [State.noteBad, h]
@[simp] theorem report_mem (s : State) (r : Report) : (s.report r).mem = s.mem := by
  simp [State.report]
@[simp] theorem execHostMemoryRequest_keeps (wr : Bool) (a : Nat) (data : List (BitVec 8)) (s : State) (h : Memory.wf s.mem = true) :
    KeepsMem (execHostMemoryRequest wr a data s) := by
  unfold execHostMemoryRequest; split <;> simp [h]
@[simp] theorem drainAll_keeps (s : State) (h : Memory.wf s.mem = true) : Memory.wf s.drainAll.mem = true :=
  foldl_keeps _ _ _ (fun _ _ ha => drainEvents_keeps _ _ ha) h
@[simp] theorem seeHead_keeps (s : State) (l n : Nat) (h : Memory.wf s.mem = true) : Memory.wf (s.seeHead l n).mem = true := by
  unfold State.seeHead; split <;> simp [h]
@[simp] theorem execHostLineSnoop_keeps (a : Nat) (data : List (BitVec 8)) (s : State) (h : Memory.wf s.mem = true) :
    KeepsMem (execHostLineSnoop a data s) := by
  have h1 := writeDirect_keeps s (Loc.host a) data.length (leNat data) h
  unfold execHostLineSnoop
  refine (keepsMem_next _).2 ?_
  split
  · exact seeHead_keeps _ _ _ (seeTails_keeps _ _ (by simpa using h1))
  · exact h1
  · exact h
@[simp] theorem execPeerRequest_keeps (ep : Nat) (r : PeerRequest) (s : State) (h : Memory.wf s.mem = true) :
    KeepsMem (execPeerRequest ep r s) := by
  unfold execPeerRequest; dsimp only; repeat' split
  all_goals simp [h]
@[simp] theorem execEventRingHeadMove_keeps (head : BitVec 64) (s : State) (h : Memory.wf s.mem = true) :
    KeepsMem (execEventRingHeadMove head s) := by
  unfold execEventRingHeadMove
  refine (keepsMem_next _).2 ?_
  split
  · exact h
  · exact drainAll_keeps _ (by simpa using writeDirect_keeps _ _ _ _ h)
@[simp] theorem execEventRingSetup_keeps (base k : Nat) (s : State) (h : Memory.wf s.mem = true) :
    KeepsMem (execEventRingSetup base k s) := by
  unfold execEventRingSetup; dsimp only
  split
  · exact h
  · refine (keepsMem_next _).2 (drainAll_keeps _ ?_)
    rw [onPkg_mem, wakeWatches_mem]
    exact writeDirect_keeps _ _ _ _ (writeDirect_keeps _ _ _ _ (writeDirect_keeps _ _ _ _ (writeDirect_keeps _ _ _ _ h)))
@[simp] theorem cold_keeps (s : State) (boot : Boot) (h : Memory.wf s.mem = true) : Memory.wf (s.cold boot).mem = true :=
  wf_filter _ _ h
@[simp] theorem markPresent_keeps (s : State) (c : Nat) (h : Memory.wf s.mem = true) :
    Memory.wf (s.markPresent c).mem = true := by
  simp [State.markPresent, h]
@[simp] theorem execPowerUp_keeps (b : BootImage) (s : State) (h : Memory.wf s.mem = true) : KeepsMem (execPowerUp b s) := by
  unfold execPowerUp
  split
  · exact h
  · split
    · simp [h]
    · exact foldl_keeps _ _ _ (fun _ _ ha => markPresent_keeps _ _ ha) (by simp [h])

end Sys2Proof.Machine
end

section
/-! Laws/Keep carried on to the Timetable, the partition switch and the scheduler. -/

namespace Sys2Proof.Machine
open Sys2Proof

/-! ### Operations of Machine/Timetable.lean -/

@[simp] theorem launchQueued_keeps (s : State) (k : Nat) (h : Memory.wf s.mem = true) :
    Memory.wf (s.launchQueued k).mem = true := by
  unfold State.launchQueued
  split
  · exact h
  · extract_lets s1 s2
    have h1 : Memory.wf s1.mem = true := writeTcb_keeps _ _ _ _ (writeTcb_keeps _ _ _ _ h)
    have h2 : Memory.wf s2.mem = true := by simp only [s2]; split <;> simp [h1]
    split <;> simp [h2]
@[simp] theorem dispatchKernel_keeps (s : State) (k : Nat) (d : DispatchPlan) (h : Memory.wf s.mem = true) :
    Memory.wf (s.dispatchKernel k d).mem = true := by
  unfold State.dispatchKernel; split <;> simp [h]
@[simp] theorem dispatchOne_keeps (s : State) (p : Nat) (h : Memory.wf s.mem = true) :
    Memory.wf (s.dispatchOne p).mem = true := by
  unfold State.dispatchOne; repeat' split
  all_goals simp [h]
@[simp] theorem residencyStart_keeps (s : State) (k : Nat) (h : Memory.wf s.mem = true) :
    Memory.wf (s.residencyStart k).mem = true := by
  unfold State.residencyStart
  split
  · extract_lets line entry s1
    have h1 : Memory.wf s1.mem = true := by
      refine writeWordAt_keeps _ _ _ _ ?_
      rw [dropCached_mem]
      exact noteRead_keeps _ _ _ (noteRead_keeps _ _ _ h)
    split <;> simp [h1]
  · exact h
@[simp] theorem zeroStorage_keeps (s : State) (l n : Nat) (h : Memory.wf s.mem = true) :
    Memory.wf (s.zeroStorage l n).mem = true := by
  unfold State.zeroStorage; dsimp only
  refine foldl_keeps _ _ _ (fun _ _ ha => feWake_keeps _ _ _ ha) ?_
  rw [wakeWatches_mem, onStorage_mem]
  refine emptyGranules_keeps _ _ _ ?_
  show Memory.wf (ite _ _ _) = true
  split
  · exact wf_writeNat _ _ _ _ (wf_clear _ _ _ h)
  · exact wf_clear _ _ _ h
@[simp] theorem bindTiles_mem (s : State) (t : ThreadRef) (n : Nat) : (s.bindTiles t n).mem = s.mem := by
  simp [State.bindTiles]
@[simp] theorem prepareCore_keeps (s : State) (k : Nat) (h : Memory.wf s.mem = true) :
    Memory.wf (s.prepareCore k).mem = true := by
  simp [State.prepareCore, h]
@[simp] theorem prepareScratch_keeps (s : State) (c : Nat) (h : Memory.wf s.mem = true) :
    Memory.wf (s.prepareScratch c).mem = true := by
  unfold State.prepareScratch
  rw [onCluster_mem]
  exact zeroStorage_keeps _ _ _ h
@[simp] theorem prepare_keeps (s : State) (k : Nat) (h : Memory.wf s.mem = true) : Memory.wf (s.prepare k).mem = true := by
  unfold State.prepare; dsimp only
  split
  · exact h
  · refine enterState_keeps _ _ _ ?_
    rw [foldl_mem _ _ _ (fun a p => by simp)]
    have h1 := fun l => foldl_keeps State.prepareCore l s (fun _ _ ha => prepareCore_keeps _ _ ha) h
    split
    · exact foldl_keeps _ _ _ (fun _ _ ha => prepareScratch_keeps _ _ ha) (h1 _)
    · exact h1 _
@[simp] theorem dropClean_mem (s : State) (gs : List Nat) : (s.dropClean gs).mem = s.mem := by
  simp [State.dropClean]
@[simp] theorem commitStart_keeps (s : State) (k : Nat) (h : Memory.wf s.mem = true) :
    Memory.wf (s.commitStart k).mem = true := by
  unfold State.commitStart; dsimp only
  split
  · exact h
  · rw [dropClean_mem]
    exact foldl_keeps _ _ _ (fun _ _ ha => enterState_keeps _ _ _ (by simpa using ha)) (by simpa using h)
@[simp] theorem retag_mem (s : State) (v : Nat) (keep : Bool) : (s.retag v keep).mem = s.mem := by
  simp [State.retag]
@[simp] theorem freeTag_mem (s : State) (v : Nat) : (s.freeTag v).mem = s.mem := by
  simp [State.freeTag]
@[simp] theorem commitLines_mem (s : State) (v csn newTag : Nat) : (s.commitLines v csn newTag).mem = s.mem := by
  simp [State.commitLines]
@[simp] theorem releaseChildren_keeps (s : State) (k : Nat) (h : Memory.wf s.mem = true) :
    Memory.wf (s.releaseChildren k).mem = true := by
  unfold State.releaseChildren; dsimp only
  have h1 : ∀ l : List (Nat × Kernel), Memory.wf (l.foldl (fun (a : State) p =>
      if p.2.parent == some k then a.onKernel p.1 fun y => { y with parent := none } else a) s).mem = true := fun l =>
    foldl_keeps _ _ _ (fun _ _ ha => by split <;> simp [ha]) h
  split
  · exact h1 _
  · exact foldl_keeps _ _ _ (fun _ _ ha => by repeat' split <;> simp [ha]) (h1 _)
@[simp] theorem commitMember_keeps (s : State) (k csn : Nat) (h : Memory.wf s.mem = true) :
    Memory.wf (s.commitMember k csn).mem = true := by
  unfold State.commitMember
  split
  · exact h
  · extract_lets walks s1 s2
    have h1 : Memory.wf s1.mem = true := enterState_keeps _ _ _ (writeTcb_keeps _ _ _ _ h)
    have h2 : Memory.wf (s2.noteKernelEnded k).mem = true := by simp [s2, h1]
    simp [h2]
@[simp] theorem commitEnd_keeps (s : State) (h : Memory.wf s.mem = true) : Memory.wf s.commitEnd.mem = true := by
  unfold State.commitEnd; dsimp only
  split
  · exact h
  · split
    · rw [freeTag_mem]
      exact foldl_keeps _ _ _ (fun _ _ ha => commitMember_keeps _ _ _ ha) (by simp [h])
    · exact foldl_keeps _ _ _ (fun _ _ ha => commitMember_keeps _ _ _ ha) (by simp [h])
@[simp] theorem walkReady_keeps (s : State) (k : Nat) (p : Place) (h : Memory.wf s.mem = true) :
    Memory.wf (s.walkReady k p).mem = true := by
  unfold State.walkReady; repeat' split
  all_goals simp [h]
@[simp] theorem walkTask_keeps (s : State) (k : Nat) (p : Place) (h : Memory.wf s.mem = true) :
    Memory.wf (s.walkTask k p).mem = true := by
  unfold State.walkTask
  extract_lets old
  split
  · exact h
  · extract_lets s1
    have h1 : Memory.wf s1.mem = true := by
      simp only [s1, wakeWatches_mem]
      refine storeBytes_keeps _ _ _ _ ?_
      simp [h]
    split <;> simp [h1]
@[simp] theorem walkEntry_keeps (s : State) (k : Nat) (x : Kernel) (entry : Option Word) (h : Memory.wf s.mem = true) :
    Memory.wf (s.walkEntry k x entry).mem = true := by
  unfold State.walkEntry; repeat' split
  all_goals simp [h]
@[simp] theorem walkStep_keeps (s : State) (k : Nat) (h : Memory.wf s.mem = true) : Memory.wf (s.walkStep k).mem = true := by
  unfold State.walkStep; dsimp only
  split
  · exact h
  · split
    · split
      · simp [h]
      · rw [onKernel_mem]
        exact walkEntry_keeps _ _ _ _ (elim_keeps _ _ _ (fun q => noteRead_keeps _ _ _ h) h)
    · simp [h]
@[simp] theorem discard_mem (s : State) (k v : Nat) : (s.discard k v).mem = s.mem := by
  simp [State.discard]
@[simp] theorem relaunch_keeps (s : State) (k : Nat) (h : Memory.wf s.mem = true) : Memory.wf (s.relaunch k).mem = true := by
  simp [State.relaunch, h]
@[simp] theorem leaveAborting_keeps (s : State) (k : Nat) (x : Kernel) (h : Memory.wf s.mem = true) :
    Memory.wf (s.leaveAborting k x).mem = true := by
  unfold State.leaveAborting; repeat' split
  all_goals simp [h]
@[simp] theorem discardEnd_keeps (s : State) (k : Nat) (h : Memory.wf s.mem = true) : Memory.wf (s.discardEnd k).mem = true := by
  unfold State.discardEnd; repeat' split
  all_goals simp [h]
@[simp] theorem undraft_mem (s : State) (v : Nat) : (s.undraft v).mem = s.mem := by
  simp [State.undraft]
@[simp] theorem escalate_mem (s : State) (k : Nat) (x : Kernel) : (s.escalate k x).mem = s.mem := by
  unfold State.escalate; split <;> simp
@[simp] theorem overflowAct_keeps (s : State) (k : Nat) (h : Memory.wf s.mem = true) :
    Memory.wf (s.overflowAct k).mem = true := by
  unfold State.overflowAct; split <;> simp [h]

/-! ### Operations of Machine/Switch.lean -/

@[simp] theorem writePartState_keeps (s : State) (p v : Nat) (h : Memory.wf s.mem = true) :
    Memory.wf (s.writePartState p v).mem = true := by
  simp [State.writePartState, h]
@[simp] theorem refreshOut_mem (s : State) (p : Nat) : (s.refreshOut p).mem = s.mem := by
  simp [State.refreshOut]
@[simp] theorem makeResident_keeps (s : State) (p : Nat) (h : Memory.wf s.mem = true) :
    Memory.wf (s.makeResident p).mem = true := by
  simp [State.makeResident, h]
@[simp] theorem startResume_mem (s : State) (p : Nat) : (s.startResume p).mem = s.mem := by
  simp [State.startResume]
@[simp] theorem admitPartition_keeps (s : State) (p : Nat) (h : Memory.wf s.mem = true) :
    Memory.wf (s.admitPartition p).mem = true := by
  simp [State.admitPartition, h]
@[simp] theorem releasePartition_keeps (s : State) (r : Nat) (h : Memory.wf s.mem = true) :
    Memory.wf (s.releasePartition r).mem = true := by
  simp [State.releasePartition, h]
@[simp] theorem giveWay_keeps (s : State) (p r : Nat) (h : Memory.wf s.mem = true) : Memory.wf (s.giveWay p r).mem = true := by
  simp [State.giveWay, h]
@[simp] theorem switchDecide_keeps (s : State) (p : Nat) (h : Memory.wf s.mem = true) :
    Memory.wf (s.switchDecide p).mem = true := by
  unfold State.switchDecide; dsimp only
  split
  · simp [h]
  · have h1 := foldl_keeps (fun a r => a.giveWay p r) (s.blockers p) s (fun _ _ ha => giveWay_keeps _ _ _ ha) h
    split
    · exact admitPartition_keeps _ _ h1
    · exact h1
@[simp] theorem boundary_mem (s : State) (k : Nat) (c : VCmd) : (s.boundary k c).mem = s.mem := by
  unfold State.boundary; repeat' split
  all_goals simp
@[simp] theorem stopChunks_mem (s : State) (k : Nat) : (s.stopChunks k).mem = s.mem := by
  simp [State.stopChunks]
@[simp] theorem requeueTile_mem (s : State) (cl k : Nat) (c : TCmd) : (s.requeueTile cl k c).mem = s.mem := by
  simp [State.requeueTile]
@[simp] theorem stopUpdate_keeps (s : State) (cl k : Nat) (c : TCmd) (h : Memory.wf s.mem = true) :
    Memory.wf (s.stopUpdate cl k c).mem = true := by
  unfold State.stopUpdate; dsimp only; split <;> simp [h]
@[simp] theorem stopMatrix_keeps (s : State) (cl : Nat) (h : Memory.wf s.mem = true) :
    Memory.wf (s.stopMatrix cl).mem = true := by
  unfold State.stopMatrix; dsimp only; repeat' split
  all_goals simp [h]
@[simp] theorem expelGuests_mem (s : State) (x : Storage) : (s.expelGuests x).mem = s.mem := by
  simp [State.expelGuests]
@[simp] theorem stopBeats_keeps (s : State) (c : Nat) (h : Memory.wf s.mem = true) : Memory.wf (s.stopBeats c).mem = true :=
  foldl_keeps _ _ _ (fun _ _ ha => foldl_keeps _ _ _ (fun _ _ hb => beatWrite_keeps _ _ _ _ hb) ha) h
@[simp] theorem stopFrame_keeps (s : State) (c e : Nat) (h : Memory.wf s.mem = true) :
    Memory.wf (s.stopFrame c e).mem = true := by
  unfold State.stopFrame; dsimp only; split <;> simp [h]
@[simp] theorem takeJobs_mem (s : State) (c : Nat) : (s.takeJobs c).mem = s.mem := by
  simp [State.takeJobs]
@[simp] theorem suspendEngine_mem (s : State) (c : Nat) : (s.suspendEngine c).mem = s.mem := by
  simp [State.suspendEngine]
@[simp] theorem stopCluster_keeps (s : State) (p c : Nat) (h : Memory.wf s.mem = true) :
    Memory.wf (s.stopCluster p c).mem = true := by
  unfold State.stopCluster; dsimp only
  rw [onCluster_mem, suspendEngine_mem, takeJobs_mem, leaveWaiters_mem, foldl_mem _ _ _ (fun a t => by simp),
    foldl_mem _ _ _ (fun a k => by simp), foldl_mem _ _ _ (fun a k => by simp), expelGuests_mem, foldl_mem _ _ _ (fun a t => by simp)]
  exact stopFrame_keeps _ _ _ (stopFrame_keeps _ _ _ (by simp [h]))
@[simp] theorem holdPacket_mem (s : State) (p i : Nat) (h : HeldPacket) (b : Nat) : (s.holdPacket p i h b).mem = s.mem := by
  unfold State.holdPacket; dsimp only; split <;> simp
@[simp] theorem fillDrain_mem (s : State) (p : Nat) : (s.fillDrain p).mem = s.mem := by
  simp [State.fillDrain]
@[simp] theorem bellEnd_keeps (s : State) (p : Nat) (h : Memory.wf s.mem = true) : Memory.wf (s.bellEnd p).mem = true := by
  simp [State.bellEnd, h]
@[simp] theorem ringBell_keeps (s : State) (p : Nat) (h : Memory.wf s.mem = true) : Memory.wf (s.ringBell p).mem = true := by
  have h1 := foldl_keeps (fun a c => a.stopCluster p c) (s.bellClusters p) s (fun _ _ ha => stopCluster_keeps _ _ _ ha) h
  unfold State.ringBell; dsimp only
  split <;> simp [h1]
@[simp] theorem saveBytes_mem (s : State) (p l n : Nat) : (s.saveBytes p l n).mem = s.mem := by
  simp [State.saveBytes]
@[simp] theorem saveUnit_mem (s : State) (p : Nat) (u : SwitchUnit) : (s.saveUnit p u).mem = s.mem := by
  unfold State.saveUnit; split <;> simp
@[simp] theorem loseKernels_keeps (s : State) (l : List Nat) (h : Memory.wf s.mem = true) :
    Memory.wf (s.loseKernels l).mem = true :=
  foldl_keeps _ _ _ (fun _ _ ha => abortKernel_keeps _ _ _ _ ha) h
@[simp] theorem saved_keeps (s : State) (p : Nat) (u : SwitchUnit) (h : Memory.wf s.mem = true) :
    Memory.wf (s.saved p u).mem = true := by
  simp [State.saved, h]
@[simp] theorem restoreBytes_keeps (s : State) (p l n : Nat) (h : Memory.wf s.mem = true) :
    Memory.wf (s.restoreBytes p l n).mem = true := by
  simp [State.restoreBytes, h]
@[simp] theorem restoreUnit_keeps (s : State) (p : Nat) (u : SwitchUnit) (h : Memory.wf s.mem = true) :
    Memory.wf (s.restoreUnit p u).mem = true := by
  unfold State.restoreUnit; dsimp only; repeat' split
  all_goals simp [h]
@[simp] theorem restored_keeps (s : State) (p : Nat) (u : SwitchUnit) (h : Memory.wf s.mem = true) :
    Memory.wf (s.restored p u).mem = true := by
  simp [State.restored, h]
@[simp] theorem execRestoreUnitComplete_keeps (p : Nat) (u : SwitchUnit) (s : State) (h : Memory.wf s.mem = true) :
    KeepsMem (execRestoreUnitComplete p u s) := by
  unfold execRestoreUnitComplete; split <;> simp [h]
@[simp] theorem resumeCluster_mem (s : State) (p c : Nat) : (s.resumeCluster p c).mem = s.mem := by
  simp [State.resumeCluster]
@[simp] theorem resumeThread_mem (s : State) (t : ThreadRef) : (s.resumeThread t).mem = s.mem := by
  simp [State.resumeThread]
@[simp] theorem resume_keeps (s : State) (p : Nat) (h : Memory.wf s.mem = true) : Memory.wf (s.resume p).mem = true := by
  unfold State.resume
  refine foldl_keeps _ _ _ (fun _ _ ha => by split <;> simp [ha]) ?_
  simp [h]
@[simp] theorem killThread_mem (s : State) (t : ThreadRef) : (s.killThread t).mem = s.mem := by
  simp [State.killThread]
@[simp] theorem killKernels_keeps (s : State) (p : Nat) (h : Memory.wf s.mem = true) :
    Memory.wf (s.killKernels p).mem = true := by
  have h1 := foldl_keeps (fun a (q : Nat × Kernel) => a.abortKernel q.1 0x43 false) (s.kernels.filter fun q => q.2.part == p) s
    (fun _ _ ha => abortKernel_keeps _ _ _ _ ha) h
  unfold State.killKernels; dsimp only
  split <;> simp [h1]
@[simp] theorem killCluster_keeps (s : State) (p c : Nat) (h : Memory.wf s.mem = true) :
    Memory.wf (s.killCluster p c).mem = true := by
  simp [State.killCluster, h]

/-! ### Operations of Machine/Sched.lean -/

@[simp] theorem mapNext_keeps (f : State → State) (o : Host.Outcome State Fault Refusal)
    (hf : ∀ s, Memory.wf s.mem = true → Memory.wf (f s).mem = true) (ho : KeepsMem o) : KeepsMem (mapNext f o) := by
  cases o with
  | next s => exact hf s ho
  | fault r => trivial
  | refused r => trivial
@[simp] theorem ringWake_mem (s : State) : s.ringWake.mem = s.mem := by
  unfold State.ringWake; split <;> simp
@[simp] theorem pass_mem (s : State) : s.pass.mem = s.mem := by
  simp [State.pass]
@[simp] theorem tick_mem (s : State) : s.tick.mem = s.mem := by
  simp [State.tick]
@[simp] theorem focus_mem (s : State) (t : ThreadRef) : (s.focus t).mem = s.mem := by
  simp [State.focus]
@[simp] theorem rotate_mem (s : State) : s.rotate.mem = s.mem := by
  unfold State.rotate; split <;> simp
@[simp] theorem retryAll_mem (s : State) : s.retryAll.mem = s.mem := by
  simp [State.retryAll]
@[simp] theorem noteIssue_mem (s : State) : s.noteIssue.mem = s.mem := by
  simp [State.noteIssue]
@[simp] theorem stepDone_keeps (s : State) (b : Thread) (h : Memory.wf s.mem = true) : Memory.wf (s.stepDone b).mem = true := by
  unfold State.stepDone; repeat' split
  all_goals simp [h]
@[simp] theorem restHeld_mem (s : State) : s.restHeld.mem = s.mem := by
  simp [State.restHeld]
@[simp] theorem finish_keeps (b : Thread) (s : State) (h : Memory.wf s.mem = true) : Memory.wf (State.finish b s).mem = true := by
  simp [State.finish, h]
@[simp] theorem afterEvent_mem (s : State) : s.afterEvent.mem = s.mem := by
  simp [State.afterEvent]

end Sys2Proof.Machine
end

section
/-! Every instruction, every issue turn and every step keeps memory canonical; the obligation on the step. -/

namespace Sys2Proof.Machine
open Sys2Proof

/-- Each instruction is one of the operations that the lemmas above are about, or a few of them in a row. -/
theorem exec_keeps (i : Instr) (s : State) (h : Memory.wf s.mem = true) : KeepsMem (exec i s) := by
  cases i <;> dsimp only [exec]
  case add | sub | sll | srl | sra | mul | div | divu | rem | remu | clz | ctz | popc | rol | ror =>
    exact intOp_keeps (h := h) ..
  case and | or | xor | slt | sltu | min | max | minu | maxu | mulh | mulhu | andn =>
    exact wordOp_keeps (h := h) ..
  case addi | andi | ori | xori | slti | sltiu | slli | srli | srai | rori =>
    exact immOp_keeps (h := h) ..
  case lui | addpc | liw | lih =>
    simp [execLui, execAddpc, execLiw, execLih, h]
  case lb | lbu | lh | lhu | lw | lwu | ld =>
    exact loadOp_keeps (h := h) ..
  case sb | sh | sw | sd =>
    exact storeOp_keeps (h := h) ..
  case beq | bne | blt | bge | bltu | bgeu | bp | bnp =>
    exact branchOp_keeps (h := h) ..
  case jal | jalr | pcmp | pand | por | pxor | pnot | sel | pmovFromPredicates | pmovToPredicates =>
    simp [execJal, execJalr, execPcmp, execPand, execPor, execPxor, execPnot, execSel, execPmovFromPredicates,
      execPmovToPredicates, h]
  case fadd | fsub | fmul | fdiv | fsqrt | fmin | fmax | feq | flt | fle | fclass | fsgnj | fsgnjn | fsgnjx | fcvtFi | fcvtFn |
    fcvtIf | fcvtNf | fcvtFf | fma | fms | fnma | fnms =>
    simp [execFadd, execFsub, execFmul, execFdiv, execFsqrt, execFmin, execFmax, execFeq, execFlt, execFle, execFclass, execFsgnj,
      execFsgnjn, execFsgnjx, execFcvtFi, execFcvtFn, execFcvtIf, execFcvtNf, execFcvtFf, execFma, execFms, execFnma, execFnms, h]
  case csrr | csrw | csrs | csrc =>
    exact csrOp_keeps (h := h) ..
  case syscall | brk | fence | time | yield | isync | yieldWake | yieldwWatchRegistration | yieldwTimeout | illegalWord =>
    simp [execSyscall, execBrk, execFence, execTime, execYield, execIsync, execYieldWake, execYieldwWatchRegistration,
      execYieldwTimeout, execIllegalWord, h]
  case wait => exact execWait_keeps (h := h) ..
  case yieldw => exact execYieldw_keeps (h := h) ..
  case strel => exact execStrel_keeps (h := h) ..
  case qbind => exact execQbind_keeps (h := h) ..
  case qpush => exact execQpush_keeps (h := h) ..
  case qpop => exact execQpop_keeps (h := h) ..
  case qpusht => exact execQpusht_keeps (h := h) ..
  case qpopt => exact execQpopt_keeps (h := h) ..
  case tqpush => exact execTqpush_keeps (h := h) ..
  case tqpop => exact execTqpop_keeps (h := h) ..
  case launch => exact execLaunch_keeps (h := h) ..
  case take => exact execTake_keeps (h := h) ..
  case wmark => exact execWmark_keeps (h := h) ..
  case wmread => exact execWmread_keeps (h := h) ..
  case kcancel => exact execKcancel_keeps (h := h) ..
  case kcancelTcb => exact execKcancelTcb_keeps (h := h) ..
  case fetest => exact execFetest_keeps (h := h) ..
  case migrate => exact execMigrate_keeps (h := h) ..
  case talloc => exact execTalloc_keeps (h := h) ..
  case pub => exact execPub_keeps (h := h) ..
  case dec => exact execDec_keeps (h := h) ..
  case trapret => exact execTrapret_keeps (h := h) ..
  case exit => exact execExit_keeps (h := h) ..
  case vectorChunkResult => exact execVectorChunkResult_keeps (h := h) ..
  case wholeOperandComplete => exact execWholeOperandComplete_keeps (h := h) ..
  case tileCommandComplete => exact execTileCommandComplete_keeps (h := h) ..
  case watermarkStallEnd => exact execWatermarkStallEnd_keeps (h := h) ..
  case restoreUnitComplete => exact execRestoreUnitComplete_keeps (h := h) ..
  case hostQueueControlSnoop => exact execHostQueueControlSnoop_keeps (h := h) ..
  case uncorrectableError => exact execUncorrectableError_keeps (h := h) ..
  case selfTestComplete => exact execSelfTestComplete_keeps (h := h) ..
  case linkManagementReset => exact execLinkManagementReset_keeps (h := h) ..
  case delayResponse => exact execDelayResponse_keeps (h := h) ..
  case syncExchangeMissed => exact execSyncExchangeMissed_keeps (h := h) ..
  case hostMemoryRequest => exact execHostMemoryRequest_keeps (h := h) ..
  case peerRequest => exact execPeerRequest_keeps (h := h) ..
  case eventRingHeadMove => exact execEventRingHeadMove_keeps (h := h) ..
  case eventRingSetup => exact execEventRingSetup_keeps (h := h) ..
  case powerUp => exact execPowerUp_keeps (h := h) ..
  case debugWrite => exact execDebugWrite_keeps (h := h) ..
  case fetchFaultIssue => exact execFetchFaultIssue_keeps (h := h) ..
  case debuggerKernelRelease => exact execDebuggerKernelRelease_keeps (h := h) ..
  case hostLineSnoop => exact execHostLineSnoop_keeps (h := h) ..
  case amoadd | amoand | amoor | amoxor | amomin | amomax | amominu | amomaxu | amoswap | amocas | amofadd =>
    exact amoOp_keeps (h := h) ..
  case lda | barinit | bararr | bartest | bardrop | rdvput | rdvget =>
    exact homeOp_keeps (h := h) ..
  case qunbind | qstat | taskRecordTake | queueMap | queueFetchArrival | queueQuantumEnd | hostQueuePciePoll =>
    simp [execQunbind, execQstat, execTaskRecordTake, execQueueMap, execQueueFetchArrival, execQueueQuantumEnd,
      execHostQueuePciePoll, h]
  case tdep | tarm =>
    exact taskOp_keeps (h := h) ..
  case kstat | kabort =>
    simp [execKstat, execKabort, h]
  case ldf | ldfTry | ldfc | ldfcTry =>
    exact feOp_keeps (he := fun l t ht => feLoad_keeps (h := ht) ..) (h := h) ..
  case stf | stfTry =>
    exact feOp_keeps (he := fun l t ht => feStoreAny_keeps (h := ht) ..) (h := h) ..
  case stfw | stfwTry =>
    exact feOp_keeps (he := fun l t ht => feStoreWhenEmpty_keeps (h := ht) ..) (h := h) ..
  case feset | fesetTry | feclr | feclrTry =>
    exact feOp_keeps (he := fun l t ht => feMark_keeps (h := ht) ..) (h := h) ..
  case tlbinv | tlbinva | pgprobe | migrationEntry | migrationStep | migrationComplete | correctedError =>
    simp [execTlbinv, execTlbinva, execPgprobe, execMigrationEntry, execMigrationStep, execMigrationComplete,
      execCorrectedError, h]
  case vcfg | setvl =>
    simp [execVcfg, execSetvl, h]
  case vld | vlds | vldx | vlseg | vldff | vldp | vst | vsts | vstx | vsseg | vstp | tst | tstx | tld =>
    exact memoryIssue_keeps (h := h) ..
  case vadd | vsub | vmul | vmulh | vmin | vmax | vminu | vmaxu | vand | vor | vxor | vsll | vsrl | vsra | vsadd | vssub | vsaddu
    | vssubu | vmacc | vdot4 | vfadd | vfsub | vfmul | vfma | vfms | vfnma | vfdiv | vfsqrt | vfmin | vfmax | vfsgnj | vfsgnjn |
    vcmp | vfeq | mand | mor | mxor | mandn | mpopc | mfirst | mset | vmerge | vmv | vgath | vcomp | viota | vredsum | vredmin |
    vredmax | vredand | vredor | vfredsum | vfredmax | vfredmin | vcvt | vqnt | vdqnt | vrot | vplx | vpli =>
    exact vectorOp_keeps (h := h) ..
  case vmvs | vext | vins | vslup | vslupImm | vsldn | vsldnImm =>
    exact vectorIssue_keeps (h := h) ..
  case lvLongForm =>
    simp [execLvLongForm, h]
  case mopa | mops | mopan | mma16 | mma16s =>
    exact updateIssue_keeps (h := h) ..
  case mprom | mzero | tfree =>
    simp [execMprom, execMzero, execTfree, h]
  case tsave | trest =>
    exact tileRecord_keeps (h := h) ..
  case trdv | trdc | twrv | twrc =>
    exact tileMove_keeps (h := h) ..
  case cpy | cpyx | cpym =>
    exact copyOp_keeps (h := h) ..
  case decst | copyStart | copyBeatArrival | copyComplete | engineBarrierArrival | decJobStart | decFrameComplete =>
    simp [execDecst, execCopyStart, execCopyBeatArrival, execCopyComplete, execEngineBarrierArrival, execDecJobStart,
      execDecFrameComplete, h]
  case fetchGrant | instructionLineFill | walkComplete | faultQueueHeadAdvance | faultResolve | bankIdleTimerExpiry | bankRefresh =>
    simp [execFetchGrant, execInstructionLineFill, execWalkComplete, execFaultQueueHeadAdvance, execFaultResolve,
      execBankIdleTimerExpiry, execBankRefresh, h]
  case loadResponse | storeVisible =>
    simp [execLoadResponse, execStoreVisible, h]
  case amoAtHome =>
    simp [execAmoAtHome, h]
  case vectorChecksEnd =>
    simp [execVectorChecksEnd, h]
  case laneGroupBind =>
    simp [execLaneGroupBind, h]
  case matrixUnitStart =>
    simp [execMatrixUnitStart, h]
  case feRequestResend =>
    simp [execFeRequestResend, h]
  case launchQueued | dispatch | placementPrepared | commitStart | commitPhase2End | successorWalkStep | abortDiscardEnd |
    draftEscalation | draftFold | kernelEntryRelease | residencyMigrationStart =>
    simp [execLaunchQueued, execDispatch, execPlacementPrepared, execCommitStart, execCommitPhase2End, execSuccessorWalkStep,
      execAbortDiscardEnd, execDraftEscalation, execDraftFold, execKernelEntryRelease, execResidencyMigrationStart, h]
  case partitionSwitchDecision | bell | saveUnitComplete | resumeBell | killArrival =>
    simp [execPartitionSwitchDecision, execBell, execSaveUnitComplete, execResumeBell, execKillArrival, h]
  case linkTrainingEnd | linkIdleTimeout | syncExchangeTimer | sync | followUp | delayRequest | spdmMeasurement | powerOff =>
    simp [execLinkTrainingEnd, execLinkIdleTimeout, execSyncExchangeTimer, execSync, execFollowUp, execDelayRequest,
      execSpdmMeasurement, execPowerOff, h]
  case rcstateSeal | sealComplete | pcselWrite | pcReductionComplete =>
    simp [execRcstateSeal, execSealComplete, execPcselWrite, execPcReductionComplete, h]
  case debugOwn | debugRelease | debugStop | debugResume | debugRead | debugStep | debugHoldchild =>
    simp [execDebugOwn, execDebugRelease, execDebugStop, execDebugResume, execDebugRead, execDebugStep, execDebugHoldchild, h]

theorem runWords_keeps (w x : Nat) (s : State) (h : Memory.wf s.mem = true) : KeepsMem (runWords w x s) := by
  unfold runWords
  split
  · split
    · simp [h]
    · exact exec_keeps _ _ h
  · exact exec_keeps _ _ h

theorem mapNext_finish_keeps (b : Thread) (o : Host.Outcome State Fault Refusal) (ho : KeepsMem o) :
    KeepsMem (mapNext (State.finish b) o) :=
  mapNext_keeps _ _ (finish_keeps b) ho

theorem mapNext_afterEvent_keeps (i : Instr) (s : State) (h : Memory.wf s.mem = true) :
    KeepsMem (mapNext State.afterEvent (exec i s)) :=
  mapNext_keeps _ _ (fun t ht => by rw [afterEvent_mem]; exact ht) (exec_keeps i s h)

theorem issue_keeps (s : State) (h : Memory.wf s.mem = true) : KeepsMem (issue s) := by
  unfold issue
  split
  · simp [h]
  · extract_lets a
    have ha : Memory.wf a.mem = true := by rw [onCtx_mem]; exact h
    split
    · simp [h]
    · split
      · simp [ha]
      · split
        · simp [h]
        · exact mapNext_finish_keeps _ _ (exec_keeps _ _ ha)
        · exact mapNext_finish_keeps _ _ (runWords_keeps _ _ _ ha)

theorem step_keeps (s : State) (h : Memory.wf s.mem = true) : KeepsMem (step s) := by
  unfold step
  split
  · exact mapNext_afterEvent_keeps _ _ h
  · split
    · split
      · exact mapNext_afterEvent_keeps _ _ h
      · exact h
    · cases s.coreTurn _ with
      | none => exact h
      | some u => rw [Option.elim_some, keepsMem_next, focus_mem]; exact h
    · split
      · trivial
      · split
        · exact issue_keeps s h
        · split
          · exact mapNext_afterEvent_keeps _ _ h
          · split
            · exact issue_keeps s h
            · simp [h]

/-- Settles O60: every operation that a step is made of keeps memory canonical, so the step's next state does. -/
theorem stepKeepsMemory : Obligations.StepKeepsMemory := by
  intro s t h e
  have hs := step_keeps s h
  rw [e] at hs
  exact hs

end Sys2Proof.Machine
end

section
/-! The obligation on g0, p0 and m0. -/

namespace Sys2Proof.Machine
open Sys2Proof

@[simp] theorem setG_zero (t : Thread) (v : Word) : t.setG 0 v = t := if_pos rfl

@[simp] theorem setP_zero (t : Thread) (b : Bool) : t.setP 0 b = t := if_pos rfl

@[simp] theorem setM_zero (t : Thread) (r : Nat) : t.setM 0 r = t := if_pos rfl

@[simp] theorem maskBit_zero (t : Thread) (i : Nat) : t.maskBit 0 i = true := Bool.true_or _

/-- Settles O55: each of the three assignments takes the branch of number 0, and so does each of the three reads. -/
theorem discardingRegisters : Obligations.DiscardingRegisters := by
  intro t v b r i
  exact ⟨setG_zero t v, setP_zero t b, setM_zero t r, g_zero t, p_zero t, maskBit_zero t i⟩

end Sys2Proof.Machine
end

section
/-! What a byte list that has no entry for a location, and a selection of a byte list, read as. -/

namespace Sys2Proof.Machine
open Sys2Proof

/-- A location that no entry names reads as its initial byte, whether or not the list is canonical. -/
theorem read_unlisted (l : Nat) (m : List Host.Cell) (h : ∀ c ∈ m, c.1 ≠ l) : Memory.read l m = Memory.initial l := by
  induction m with
  | nil => rfl
  | cons d r ih =>
    obtain ⟨hd, hr⟩ := List.forall_mem_cons.1 h
    rw [Memory.read, if_neg (Ne.symm hd), ih hr, ite_self]

/-- A selection that keeps every entry of a location leaves its byte as it was. -/
theorem read_filter (f : Host.Cell → Bool) (l : Nat) (m : List Host.Cell) (h : Memory.wf m = true)
    (hf : ∀ b, f (l, b) = true) : Memory.read l (m.filter f) = Memory.read l m := by
  induction m with
  | nil => rfl
  | cons d r ih =>
    obtain ⟨k, b⟩ := d
    obtain ⟨hbelow, -, hr⟩ := (wf_cons k b r).1 h
    rw [List.filter_cons]
    split
    · simp only [Memory.read, ih hr]
    · next hk =>
      have hne : l ≠ k := fun e => hk (e ▸ hf b)
      rw [ih hr, Memory.read, if_neg hne]
      split
      · exact read_below l r fun c hc => by have := hbelow c hc; omega
      · rfl

/-- What a write leaves listed is what was listed, or stands at a location below the storage of fused clusters. -/
theorem mem_write (l : Nat) (b : Byte) (m : List Host.Cell) (c : Host.Cell) (h : c ∈ Memory.write l b m) :
    (c.1 = l ∧ l < Loc.void) ∨ c ∈ m := by
  unfold Memory.write at h
  split at h
  · exact .inr h
  · next hl =>
    split at h
    · exact .inr (mem_remove l m c h)
    · exact (mem_insert l b m c h).imp_left fun e => ⟨congrArg Prod.fst e, by omega⟩

theorem mem_writeNat (l x n : Nat) (m : List Host.Cell) (c : Host.Cell) (h : c ∈ Memory.writeNat l x n m) :
    (l ≤ c.1 ∧ c.1 < l + n ∧ c.1 < Loc.void) ∨ c ∈ m := by
  induction n generalizing l x m with
  | zero => exact .inr h
  | succ n ih =>
    rcases ih _ _ _ h with hc | hc
    · exact .inl (by omega)
    · exact (mem_write _ _ _ _ hc).imp_left (by omega)

/-! ### The regions of the location map -/

theorem isStorage_iff (l : Nat) : Loc.isStorage l = true ↔ 2 ^ 62 ≤ l ∧ l < 2 ^ 64 := by
  simp [Loc.isStorage]

theorem not_isStorage_of_host_or_peer (l : Nat) (h : Loc.isHost l = true ∨ Loc.isPeer l = true) : ¬ 2 ^ 62 ≤ l := by
  simp only [Loc.isHost, Loc.isPeer, Bool.and_eq_true, decide_eq_true_eq] at h
  omega

end Sys2Proof.Machine
end

section
/-! Power: what a cold module keeps (01_module R33), and that marking the clusters that take the place of fused ones writes storage
alone (16_link R422). -/

namespace Sys2Proof.Machine
open Sys2Proof

/-! ### What outlives a loss of power -/

theorem mem_cold (s : State) (b : Boot) (c : Host.Cell) (h : c ∈ (s.cold b).mem) : Loc.isHost c.1 = true ∨ Loc.isPeer c.1 = true :=
  Bool.or_eq_true_iff.1 (List.mem_filter.1 h).2

/-- The memory of the module itself is gone. -/
theorem read_cold_module (s : State) (b : Boot) (l : Nat) (hh : Loc.isHost l = false) (hp : Loc.isPeer l = false) :
    Memory.read l (s.cold b).mem = Memory.initial l :=
  read_unlisted l _ fun c hc e => by simpa [e, hh, hp] using mem_cold s b c hc

/-- The memory of the host and of the peers stands. -/
theorem read_cold_outside (s : State) (b : Boot) (hs : s.MemOk) (l : Nat) (h : Loc.isHost l = true ∨ Loc.isPeer l = true) :
    Memory.read l (s.cold b).mem = Memory.read l s.mem :=
  read_filter _ l _ hs fun _ => Bool.or_eq_true_iff.2 h

/-! ### The presence granules of clusters that take the place of fused ones -/

/-- t has s's package, running context and kernels, and its memory differs from that of s in scratchpads and local stores alone. That
no new entry is listed elsewhere (`listed`) holds of every list; that the other bytes stand (`below`), of a canonical one. -/
structure StorageWritten (s t : State) : Prop where
  pkg     : t.pkg = s.pkg
  ctx     : t.ctx = s.ctx
  kernels : t.kernels = s.kernels
  listed  : ∀ c ∈ t.mem, Loc.isStorage c.1 = true ∨ c ∈ s.mem
  memOk   : s.MemOk → t.MemOk
  below   : s.MemOk → ∀ l, ¬ 2 ^ 62 ≤ l → Memory.read l t.mem = Memory.read l s.mem

theorem StorageWritten.refl (s : State) : StorageWritten s s :=
  ⟨rfl, rfl, rfl, fun _ => .inr, id, fun _ _ _ => rfl⟩

theorem StorageWritten.trans {s t u : State} (h : StorageWritten s t) (k : StorageWritten t u) : StorageWritten s u where
  pkg := k.pkg.trans h.pkg
  ctx := k.ctx.trans h.ctx
  kernels := k.kernels.trans h.kernels
  listed c hc := (k.listed c hc).elim .inl (h.listed c)
  memOk hs := k.memOk (h.memOk hs)
  below hs l hl := (k.below (h.memOk hs) l hl).trans (h.below hs l hl)

@[simp] theorem setFe_pkg (s : State) (g : Nat) (full : Bool) : (s.setFe g full).pkg = s.pkg := by
  unfold State.setFe; repeat' split
  all_goals rfl
@[simp] theorem setFe_ctx (s : State) (g : Nat) (full : Bool) : (s.setFe g full).ctx = s.ctx := by
  unfold State.setFe; repeat' split
  all_goals rfl
@[simp] theorem setFe_kernels (s : State) (g : Nat) (full : Bool) : (s.setFe g full).kernels = s.kernels := by
  unfold State.setFe; repeat' split
  all_goals rfl

theorem writeDirect_pkg (s : State) (l n x : Nat) (h : s.pkg.drafts = []) : (writeDirect s l n x).pkg = s.pkg := by
  simp [writeDirect, h]

theorem le_scratch (c o : Nat) : 2 ^ 62 ≤ Loc.scratch c o := by
  unfold Loc.scratch; omega

theorem setFe_storageWritten (s : State) (g : Nat) (full : Bool) : StorageWritten s (s.setFe g full) where
  pkg := setFe_pkg ..
  ctx := setFe_ctx ..
  kernels := setFe_kernels ..
  listed c hc := .inr (by simpa using hc)
  memOk hs := by simpa [State.MemOk] using hs
  below _ l _ := by rw [setFe_mem]

theorem writeDirect_storageWritten (s : State) (l n x : Nat) (hd : s.pkg.drafts = []) (hl : 2 ^ 62 ≤ l) :
    StorageWritten s (writeDirect s l n x) where
  pkg := writeDirect_pkg s l n x hd
  ctx := rfl
  kernels := rfl
  listed c hc := (mem_writeNat l x n s.mem c hc).imp_left fun ⟨hc, _, hv⟩ => (isStorage_iff _).2 ⟨by omega, hv⟩
  memOk hs := writeDirect_keeps s l n x hs
  below hs k hk := read_writeNat_other k l x n s.mem hs (.inl (by omega))

theorem markPresent_storageWritten (s : State) (c : Nat) (hd : s.pkg.drafts = []) : StorageWritten s (s.markPresent c) :=
  (writeDirect_storageWritten s _ _ _ hd (le_scratch c _)).trans (setFe_storageWritten ..)

theorem foldl_markPresent_storageWritten (cs : List Nat) (s : State) (hd : s.pkg.drafts = []) :
    StorageWritten s (cs.foldl State.markPresent s) := by
  induction cs generalizing s with
  | nil => exact .refl s
  | cons c cs ih =>
    have h := markPresent_storageWritten s c hd
    exact h.trans (ih _ (by rw [h.pkg, hd]))

/-! ### The bundle's peer windows and the links that train -/

/-- A peer window lies in near or in far memory (16_link R414). -/
theorem windowInRange_iff (w : PeerWindow) : windowInRange w = true ↔ w.base + w.length ≤ 0x14000000000 ∨
    (0x20000000000 ≤ w.base ∧ w.base < 0x40000000000 ∧ w.base + w.length ≤ 0x40000000000) := by
  simp [windowInRange, physFar, and_assoc]

theorem mem_allLinks (l : Link) (h : linkReal l = true) : l ∈ allLinks := by
  cases l with
  | crossing b c => simpa [allLinks, linkReal] using h
  | nearDie k | farDie k | ioDie k | port k => simpa [allLinks, linkReal] using h
  | host => simp [allLinks]

/-- Where every link of a list is entered with one record, each of them has its state. -/
theorem linkState_of_links_map (s : State) (ls : List Link) (x : LinkInfo) (e : s.pkg.links = ls.map fun l => (l, x)) (l : Link)
    (h : l ∈ ls) : s.linkState l = x.state := by
  obtain ⟨k, hk⟩ := Option.isSome_iff_exists.1 (List.find?_isSome (p := (· == l)) |>.2 ⟨l, h, beq_self_eq_true l⟩)
  have hfind : s.pkg.links.find? (fun p => p.1 == l) = some (k, x) :=
    calc s.pkg.links.find? (fun p => p.1 == l)
      _ = (ls.find? (· == l)).map fun l => (l, x) := by rw [e, List.find?_map]; rfl
      _ = some (k, x) := congrArg (Option.map fun l => (l, x)) hk
  exact congrArg (fun o => (o.map fun p : Link × LinkInfo => p.2.state).getD .up) hfind

/-! ### Boot from OFF -/

/-- A module in which the bundle has been accepted, before spare clusters are marked (16_link R414, R419; 01_module R26). -/
def State.coldTraining (s : State) (p : Option Nat) (windows : List (Nat × PeerWindow)) : State :=
  (s.cold .training).onPkg fun g => { g with
    draftPool := p.getD 8, peerWindows := windows.filter fun w => decide (w.1 < 1024) && windowInRange w.2
    links := allLinks.map fun l => (l, { state := .training }) }

theorem execPowerUp_accepted (s : State) (p : Option Nat) (ws : List (Nat × PeerWindow)) (h : s.pkg.boot = .off) :
    execPowerUp (.accepted p ws) s = .next ((s.coldTraining p ws).spares.foldl State.markPresent (s.coldTraining p ws)) := by
  simp [execPowerUp, h, State.coldTraining]

theorem execPowerUp_rejected (s : State) (cause : BootFailure) (h : s.pkg.boot = .off) :
    execPowerUp (.rejected cause) s = .next ((s.cold .bootFail).report (.bootFail cause (Config.digest 1))) := by
  simp [execPowerUp, h]

theorem linkState_coldTraining (s t : State) (p : Option Nat) (ws : List (Nat × PeerWindow)) (ht : t.pkg = (s.coldTraining p ws).pkg)
    (l : Link) (h : linkReal l = true) : t.linkState l = .training :=
  linkState_of_links_map t allLinks { state := .training } (congrArg Package.links ht) l (mem_allLinks l h)

end Sys2Proof.Machine
end

section
/-! What the posting of an event may change (16_link R416-R418), and with it the end of a boot's last training (R398, R419). -/

namespace Sys2Proof.Machine
open Sys2Proof

/-! ### The frame of an event -/

/-- t differs from s in nothing but what the posting of events writes: memory, the dies' pending events, and the ring's TAIL and LOST. -/
def Posted (s t : State) : Prop :=
  ∃ mem dies tail lost, t = { s with mem := mem, dies := dies, pkg := { s.pkg with ringTail := tail, lost := lost } }

theorem Posted.refl (s : State) : Posted s s := ⟨_, _, _, _, rfl⟩

theorem Posted.trans {s t u : State} (h : Posted s t) (k : Posted t u) : Posted s u := by
  obtain ⟨_, _, _, _, rfl⟩ := h
  obtain ⟨_, _, _, _, rfl⟩ := k
  exact ⟨_, _, _, _, rfl⟩

theorem Posted.boot {s t : State} (h : Posted s t) : t.pkg.boot = s.pkg.boot := by obtain ⟨_, _, _, _, rfl⟩ := h; rfl
theorem Posted.links {s t : State} (h : Posted s t) : t.pkg.links = s.pkg.links := by obtain ⟨_, _, _, _, rfl⟩ := h; rfl
theorem Posted.clusters {s t : State} (h : Posted s t) : t.clusters = s.clusters := by obtain ⟨_, _, _, _, rfl⟩ := h; rfl

theorem onDie_posted (s : State) (d : Nat) (f : Die → Die) : Posted s (s.onDie d f) := ⟨_, _, _, _, rfl⟩

theorem drainList_posted (base size : Nat) (l : List Event) (s : State) : Posted s (drainList base size l s).1 := by
  induction l generalizing s with
  | nil => exact .refl s
  | cons e r ih =>
    have he : Posted s (writeEvent s base size e) := ⟨_, _, _, _, rfl⟩
    unfold drainList
    split
    · exact he.trans (ih _)
    · exact .refl s

theorem writeLost_posted (s : State) (die : Nat) : Posted s (s.writeLost die) := by
  unfold State.writeLost
  split
  · split
    · exact .refl s
    · exact ⟨_, _, _, _, rfl⟩
  · exact .refl s

theorem addLost_posted (s : State) (die : Nat) : Posted s (s.addLost die) :=
  Posted.trans ⟨_, _, _, _, rfl⟩ (writeLost_posted ..)

theorem drainEvents_posted (s : State) (die : Nat) : Posted s (s.drainEvents die) := by
  unfold State.drainEvents
  split
  · exact .refl s
  · next base size _ =>
    split
    · exact .refl s
    · have h1 := (writeLost_posted s die).trans (drainList_posted base size (s.die die).pending _)
      dsimp only
      split
      · exact (h1.trans (drainList_posted ..)).trans (onDie_posted ..)
      · exact h1.trans (onDie_posted ..)

theorem postEvent_posted (s : State) (die code : Nat) (a b : Word) : Posted s (s.postEvent die code a b) := by
  unfold State.postEvent
  split
  · exact .refl s
  · dsimp only
    split
    · exact ((onDie_posted ..).trans (onDie_posted ..)).trans (drainEvents_posted ..)
    · exact (onDie_posted ..).trans (addLost_posted ..)

/-! ### A link's entry -/

theorem mem_setLink_links (s : State) (l : Link) (x : LinkInfo) (p : Link × LinkInfo) (h : p ∈ (s.setLink l x).pkg.links) :
    p = (l, x) ∨ (p.1 ≠ l ∧ p ∈ s.pkg.links) := by
  rcases List.mem_append.1 h with h | h
  · obtain ⟨hp, hl⟩ := List.mem_filter.1 h
    exact .inr ⟨by simpa using hl, hp⟩
  · split at h
    · simp at h
    · exact .inl (List.mem_singleton.1 h)

theorem reportLink_boot (s : State) (l : Link) (st : LinkState) : (s.reportLink l st).pkg.boot = s.pkg.boot :=
  (postEvent_posted ..).boot
theorem reportLink_clusters (s : State) (l : Link) (st : LinkState) : (s.reportLink l st).clusters = s.clusters :=
  (postEvent_posted ..).clusters
theorem reportLink_links (s : State) (l : Link) (st : LinkState) :
    (s.reportLink l st).pkg.links = (s.setLink l { s.linkInfo l with state := st }).pkg.links :=
  (postEvent_posted ..).links

/-! ### The release of the boot thread -/

theorem siteBound_congr {s t : State} (h : t.clusters = s.clusters) (d : Nat) : t.siteBound d = s.siteBound d := by
  simp only [State.siteBound, State.fusedNow, State.newlyFused, h]

theorem enabled_congr {s t : State} (h : t.clusters = s.clusters) (c : Nat) : t.enabled c = s.enabled c := by
  simp only [State.enabled, siteBound_congr h, State.cluster, h]

/-- Which cluster is the lowest enabled one is a fact about the clusters alone. -/
theorem firstCluster_congr {s t : State} (h : t.clusters = s.clusters) : t.firstCluster = s.firstCluster := by
  simp only [State.firstCluster, enabled_congr h]

theorem trained_iff (s : State) : s.trained = true ↔ s.pkg.boot = .training ∧ ∀ p ∈ s.pkg.links, p.2.state ≠ .training := by
  simp [State.trained]

theorem bootOn_trained (s : State) (h : s.trained = true) : s.bootOn = s.releaseBoot.onPkg fun g => { g with boot := .rollCall } :=
  if_pos h

@[simp] theorem releaseBoot_cur (s : State) : s.releaseBoot.cur = ⟨s.firstCluster, 0, 0⟩ := rfl
@[simp] theorem releaseBoot_ctx (s : State) : s.releaseBoot.ctx = Thread.boot 0#64 := rfl

theorem trainingEnds_full (s : State) (l : Link) (m : HostMode) :
    s.trainingEnds l (.full m) = (s.setLink l {}).reportLink l .up := rfl

/-- The last link of a boot that trains at full width ends the training. -/
theorem trainingEnds_full_trained (s : State) (l : Link) (m : HostMode) (hb : s.pkg.boot = .training)
    (ho : ∀ p ∈ s.pkg.links, p.1 ≠ l → p.2.state ≠ .training) : (s.trainingEnds l (.full m)).trained = true := by
  rw [trained_iff]
  refine ⟨(reportLink_boot ..).trans hb, fun p hp => ?_⟩
  rw [trainingEnds_full, reportLink_links] at hp
  rcases mem_setLink_links _ _ _ _ hp with rfl | ⟨hl, hp⟩
  · simp
  · rcases mem_setLink_links _ _ _ _ hp with rfl | ⟨-, hp⟩
    · simp
    · exact ho p hp hl

theorem trainingEnds_full_clusters (s : State) (l : Link) (m : HostMode) : (s.trainingEnds l (.full m)).clusters = s.clusters :=
  (reportLink_clusters ..).trans rfl

/-- The state with the host link's mode set where the link is the host's: what a training's end at full width starts from (R408). -/
def State.hostTrained (s : State) (l : Link) (m : HostMode) : State :=
  if l = .host then s.onPkg fun g => { g with hostMode := m } else s

theorem hostTrained_boot (s : State) (l : Link) (m : HostMode) : (s.hostTrained l m).pkg.boot = s.pkg.boot := by
  unfold State.hostTrained; split <;> rfl
theorem hostTrained_links (s : State) (l : Link) (m : HostMode) : (s.hostTrained l m).pkg.links = s.pkg.links := by
  unfold State.hostTrained; split <;> rfl
theorem hostTrained_clusters (s : State) (l : Link) (m : HostMode) : (s.hostTrained l m).clusters = s.clusters := by
  unfold State.hostTrained; split <;> rfl

theorem execLinkTrainingEnd_full (s : State) (l : Link) (m : HostMode) (hlive : s.linkLive l = true) (ht : s.linkState l = .training) :
    execLinkTrainingEnd l (.full m) s = .next ((s.hostTrained l m).trainingEnds l (.full m)).bootOn := by
  simp [execLinkTrainingEnd, hlive, ht, State.hostTrained, TrainingResult.mode]

end Sys2Proof.Machine
end

section
/-! The obligation on power, boot and attestation. -/

namespace Sys2Proof.Machine
open Sys2Proof

theorem exec_powerOff (s : State) : exec .powerOff s = execPowerOff s := rfl
theorem exec_powerUp (b : BootImage) (s : State) : exec (.powerUp b) s = execPowerUp b s := rfl
theorem exec_linkTrainingEnd (l : Link) (r : TrainingResult) (s : State) : exec (.linkTrainingEnd l r) s = execLinkTrainingEnd l r s := rfl
theorem exec_spdmMeasurement (i : Nat) (s : State) : exec (.spdmMeasurement i) s = execSpdmMeasurement i s := rfl

theorem powerOff_completes (s : State) : Completes .powerOff s fun t => t = s.cold .off :=
  ⟨_, exec_powerOff s, rfl⟩

/-- An accepted bundle leaves the module cold, with the bundle's values and every link in training, and storage written at most. -/
theorem powerUp_accepted_completes (s : State) (p : Option Nat) (ws : List (Nat × PeerWindow)) (h : s.pkg.boot = .off) :
    Completes (.powerUp (.accepted p ws)) s fun t => StorageWritten (s.coldTraining p ws) t :=
  ⟨_, (exec_powerUp ..).trans (execPowerUp_accepted s p ws h), foldl_markPresent_storageWritten _ _ rfl⟩

theorem linkTrainingEnd_last_completes (s : State) (l : Link) (m : HostMode) (hb : s.pkg.boot = .training) (hl : linkReal l = true)
    (ht : s.linkState l = .training) (ho : ∀ p ∈ s.pkg.links, p.1 ≠ l → p.2.state ≠ .training) :
    Completes (.linkTrainingEnd l (.full m)) s fun t =>
      t.pkg.boot = .rollCall ∧ t.cur = ⟨s.firstCluster, 0, 0⟩ ∧ t.ctx = Thread.boot 0#64 := by
  have hlive : s.linkLive l = true := by simp [State.linkLive, hl, hb]
  have hdone : ((s.hostTrained l m).trainingEnds l (.full m)).trained = true :=
    trainingEnds_full_trained _ l m (by rw [hostTrained_boot, hb]) (by rwa [hostTrained_links])
  have hfirst : ((s.hostTrained l m).trainingEnds l (.full m)).firstCluster = s.firstCluster :=
    firstCluster_congr ((trainingEnds_full_clusters ..).trans (hostTrained_clusters ..))
  refine ⟨_, (exec_linkTrainingEnd ..).trans (execLinkTrainingEnd_full s l m hlive ht), ?_⟩
  rw [bootOn_trained _ hdone]
  exact ⟨rfl, by rw [onPkg_cur, releaseBoot_cur, hfirst], rfl⟩

theorem execSpdmMeasurement_running (s : State) (i : Nat) (h1 : 1 ≤ i) (h6 : i ≤ 6) (hb : s.pkg.boot = .rollCall ∨ s.pkg.boot = .sealed) :
    execSpdmMeasurement i s = .next ((s.report (.measurement i (s.pkg.measurements.toArray.getD (i - 1) 0#256)
      (Config.spdmSignature s.pkg.signatures))).onPkg fun g => { g with signatures := g.signatures + 1 }) := by
  have hoff : s.pkg.boot ≠ .off := by rcases hb with h | h <;> simp [h]
  have hfail : s.pkg.boot ≠ .bootFail := by rcases hb with h | h <;> simp [h]
  exact if_neg (by simp only [hoff, hfail, false_and, or_false]; omega)

/-- Settles O50. Power off and boot both go through the cold state, of which only host and peer memory is left; boot adds writes of
storage alone; the last training's end posts an event, which touches neither the clusters nor the links. -/
theorem powerAndAttestation : Obligations.PowerAndAttestation := by
  intro s i
  refine ⟨?_, fun hoff => ⟨fun p ws => ?_, fun cause => ?_⟩, fun l m hb hl ht ho => ?_, fun h1 h6 hb => ?_⟩
  · obtain ⟨t, he, rfl⟩ := powerOff_completes s
    exact ⟨_, he, rfl, ⟨read_cold_module s .off, read_cold_outside s .off⟩, rfl, rfl, rfl⟩
  · obtain ⟨t, he, ht⟩ := powerUp_accepted_completes s p ws hoff
    refine ⟨t, he, fun w => ?_, by rw [ht.pkg]; rfl, by rw [ht.pkg]; rfl, by rw [ht.ctx]; rfl, by rw [ht.kernels]; rfl,
      linkState_coldTraining s t p ws ht.pkg, fun l hh hp hst => ?_, fun hs l hl => ?_⟩
    · rw [ht.pkg]
      simp [State.coldTraining, List.mem_filter, windowInRange_iff]
    · refine read_unlisted l _ fun c hc e => ?_
      rcases ht.listed c hc with h | h
      · simp [e, hst] at h
      · simpa [e, hh, hp] using mem_cold s .training c h
    · exact (ht.below (cold_keeps s .training hs) l (not_isStorage_of_host_or_peer l hl)).trans (read_cold_outside s .training hs l hl)
  · exact ⟨_, (exec_powerUp ..).trans (execPowerUp_rejected s cause hoff), rfl, rfl, rfl⟩
  · obtain ⟨t, he, hboot, hcur, hctx⟩ := linkTrainingEnd_last_completes s l m hb hl ht ho
    refine ⟨t, he, hboot, hcur, ?_⟩
    rw [hctx]
    exact ⟨rfl, rfl, rfl, rfl⟩
  · exact ⟨_, (exec_spdmMeasurement ..).trans (execSpdmMeasurement_running s i h1 h6 hb), ⟨_, rfl⟩, rfl, rfl⟩

end Sys2Proof.Machine
end

section
/-! Bit strings (02_numbers R35): what an element reads after one is put, the bits of strings laid end to end, and the patterns
of a string as signed words. -/

namespace Sys2Proof.Machine
open Sys2Proof

/-! ### An element read back -/

theorem testBit_slice (r lo w n : Nat) : (slice r lo w).testBit n = (decide (n < w) && r.testBit (n + lo)) := by
  rw [slice, Nat.testBit_mod_two_pow, Nat.testBit_div_two_pow]

/-- A splice puts the bits of x in their place and leaves the others. -/
theorem testBit_splice (r lo w x n : Nat) :
    (splice r lo w x).testBit n = if lo ≤ n ∧ n < lo + w then x.testBit (n - lo) else r.testBit n := by
  have e : splice r lo w x = 2 ^ lo * (2 ^ w * (r / 2 ^ (lo + w)) + x % 2 ^ w) + r % 2 ^ lo := by
    rw [splice, Nat.pow_add, Nat.mul_add]; ac_rfl
  rw [e, Nat.testBit_two_pow_mul_add _ (Nat.mod_lt _ (Nat.two_pow_pos lo)),
    Nat.testBit_two_pow_mul_add _ (Nat.mod_lt _ (Nat.two_pow_pos w)), Nat.testBit_mod_two_pow, Nat.testBit_mod_two_pow,
    Nat.testBit_div_two_pow]
  rcases Nat.lt_or_ge n lo with h | h
  · simp [h, Nat.not_le.2 h]
  · rcases Nat.lt_or_ge n (lo + w) with h' | h'
    · simp [h, h', Nat.not_lt.2 h, show n - lo < w by omega]
    · simp [h, Nat.not_lt.2 h, Nat.not_lt.2 h', show ¬ n - lo < w by omega, show n - lo - w + (lo + w) = n by omega]

@[simp] theorem elem_putElem_same (r w k x : Nat) : elem (putElem r w k x) w k = x % 2 ^ w := by
  refine Nat.eq_of_testBit_eq fun n => ?_
  rw [elem, putElem, testBit_slice, testBit_splice, Nat.testBit_mod_two_pow]
  by_cases h : n < w
  · rw [if_pos (by omega), Nat.add_sub_cancel]
  · simp [h]

theorem elem_putElem_of_ne (r w x : Nat) {k l : Nat} (h : k ≠ l) : elem (putElem r w k x) w l = elem r w l := by
  refine Nat.eq_of_testBit_eq fun n => ?_
  rw [elem, elem, putElem, testBit_slice, testBit_slice, testBit_splice]
  by_cases hn : n < w
  · have apart : w * k + w ≤ w * l ∨ w * l + w ≤ w * k :=
      (Nat.lt_or_gt_of_ne h).imp (fun h => Nat.mul_le_mul_left w h) fun h => Nat.mul_le_mul_left w h
    rw [if_neg (by omega)]
  · simp [hn]

/-! ### Strings laid end to end -/

/-- Fields laid end to end, each a width and a value, the first lowest. -/
def pack : List (Nat × Nat) → Nat
  | [] => 0
  | (w, v) :: r => v + 2 ^ w * pack r

/-- Where no field overflows its width, each is read back above the widths of those before it. -/
theorem slice_pack {fs : List (Nat × Nat)} (h : ∀ f ∈ fs, f.2 < 2 ^ f.1) {n o w v : Nat} (hf : fs[n]? = some (w, v))
    (ho : ((fs.take n).map Prod.fst).sum = o) : slice (pack fs) o w = v := by
  subst ho
  induction fs generalizing n with
  | nil => simp at hf
  | cons f r ih =>
    obtain ⟨hv, hr⟩ := List.forall_mem_cons.1 h
    cases n with
    | zero =>
      obtain rfl : f = (w, v) := by simpa using hf
      rw [List.take_zero, List.map_nil, List.sum_nil, pack, slice, Nat.pow_zero, Nat.div_one, Nat.add_mul_mod_self_left,
        Nat.mod_eq_of_lt hv]
    | succ n =>
      obtain ⟨w', v'⟩ := f
      rw [← ih hr hf, List.take_succ_cons, List.map_cons, List.sum_cons, pack, slice, slice, Nat.pow_add, ← Nat.div_div_eq_div_mul,
        Nat.add_mul_div_left _ _ (Nat.two_pow_pos w'), Nat.div_eq_of_lt hv, Nat.zero_add]

/-! ### Patterns as signed words -/

theorem toSigned_eq_toInt (x n : Nat) : toSigned x n = (BitVec.ofNat n x).toInt := by
  rw [toSigned, BitVec.toInt_eq_toNat_cond, BitVec.toNat_ofNat]
  split <;> split <;> omega

theorem ofNat_wrap (v : Int) (n : Nat) : BitVec.ofNat n (wrap v n) = BitVec.ofInt n v :=
  BitVec.eq_of_toNat_eq (by
    have hpos : 0 < ((2 ^ n : Nat) : Int) := Int.natCast_pos.2 (Nat.two_pow_pos n)
    have hlt := Int.emod_lt_of_pos v hpos
    rw [BitVec.toNat_ofNat, BitVec.toNat_ofInt, wrap, Nat.mod_eq_of_lt (by omega)])

theorem ofNat_mod_two_pow (n x : Nat) : BitVec.ofNat n (x % 2 ^ n) = BitVec.ofNat n x :=
  BitVec.eq_of_toNat_eq (by simp)

/-! ### Integers as values -/

/-- The value of an integer. -/
def FVal.ofInt (v : Int) : FVal := .fin (decide (v < 0)) v.natAbs 0

theorem operandValue_zero (x : Nat) : operandValue 0 x = FVal.ofInt (toSigned x 8) := rfl

@[simp] theorem intOfVal_neg (v : FVal) : intOfVal v.neg = -intOfVal v := by
  rcases v with _ | _ | ⟨_ | _, m, e⟩ <;> simp [FVal.neg, intOfVal]

theorem intOfVal_fin (s : Bool) (m : Nat) : intOfVal (.fin s m 0) = if s then -(m : Int) else m := by
  simp only [intOfVal, Int.toNat_zero, Nat.pow_zero, Nat.mul_one]

theorem intOfVal_ofInt (a : Int) : intOfVal (.ofInt a) = a := by
  rw [FVal.ofInt, intOfVal_fin]
  simp only [decide_eq_true_eq]
  split <;> omega

theorem intOfVal_mul_fin (s t : Bool) (m n : Nat) :
    intOfVal (FVal.mul (.fin s m 0) (.fin t n 0)).1 = intOfVal (.fin s m 0) * intOfVal (.fin t n 0) := by
  change intOfVal (.fin (s != t) (m * n) 0) = _
  rw [intOfVal_fin, intOfVal_fin, intOfVal_fin, Int.natCast_mul]
  cases s <;> cases t <;>
    simp only [bne_self_eq_false, Bool.bne_true, Bool.bne_false, Bool.not_false, Bool.false_eq_true, if_true, if_false, Int.neg_mul,
      Int.mul_neg, Int.neg_neg]

/-- The product of two integers is exact. -/
theorem intOfVal_mul_ofInt (a b : Int) : intOfVal (FVal.mul (.ofInt a) (.ofInt b)).1 = a * b := by
  rw [FVal.ofInt, FVal.ofInt, intOfVal_mul_fin]
  exact congr (congrArg _ (intOfVal_ofInt a)) (intOfVal_ofInt b)

/-! ### A fold that visits a cell once -/

theorem foldl_unchanged {α β γ : Type} (f : β → α → β) (get : β → γ) (h : ∀ b c, get (f b c) = get b) (l : List α) (b : β) :
    get (l.foldl f b) = get b :=
  List.foldlRecOn (motive := fun x => get x = get b) l f rfl fun _ e c _ => (h _ c).trans e

/-- What a fold makes of the part that only its step at c changes. -/
theorem foldl_visits {α β γ : Type} (f : β → α → β) (get : β → γ) (g : γ → γ) (c : α)
    (hsame : ∀ b, get (f b c) = g (get b))
    (l : List α) (hother : ∀ b, ∀ d ∈ l, d ≠ c → get (f b d) = get b) (hl : l.Nodup) (hc : c ∈ l) (b : β) :
    get (l.foldl f b) = g (get b) := by
  induction l generalizing b with
  | nil => simp at hc
  | cons d r ih =>
    obtain ⟨hd, hr⟩ := List.nodup_cons.1 hl
    rw [List.foldl_cons]
    rcases List.mem_cons.1 hc with rfl | hc
    · rw [← hsame]
      exact List.foldlRecOn (motive := fun x => get x = get (f b c)) r f rfl
        fun _ e a ha => (hother _ a (.tail _ ha) fun h => hd (h ▸ ha)).trans e
    · rw [ih (fun b a ha => hother b a (.tail _ ha)) hr hc, hother b d (.head _) fun h => hd (h ▸ hc)]

end Sys2Proof.Machine
end

section
/-! Tiles: a step of an update cell by cell, a promotion cell by cell, and the record (02_numbers R49-R55; 09_tile R229, R236-R241). -/

namespace Sys2Proof.Machine
open Sys2Proof

/-! ### The 256 cells -/

theorem cellsOf_append {a b c : Nat} (hab : a ≤ b) (hbc : b ≤ c) : cellsOf a b ++ cellsOf b c = cellsOf a c := by
  rw [cellsOf, cellsOf, cellsOf, show 16 * (c - a) = 16 * (b - a) + 16 * (c - b) by omega, List.range_add, List.map_append,
    List.map_map]
  refine congrArg _ (List.map_congr_left fun k _ => Prod.ext ?_ ?_) <;> simp only [Function.comp_apply] <;> omega

theorem cellsOf_nodup : (cellsOf 0 16).Nodup :=
  List.pairwise_map.2 <| List.nodup_range.imp fun hne h => hne <| by
    obtain ⟨hrow, hcol⟩ := Prod.mk.inj h
    omega

theorem mem_cellsOf {i j : Nat} (hi : i < 16) (hj : j < 16) : (i, j) ∈ cellsOf 0 16 :=
  List.mem_map.2 ⟨16 * i + j, List.mem_range.2 (by omega), Prod.ext (by simp only; omega) (by simp only; omega)⟩

/-- Two cells of the tile stand apart in its planes. -/
theorem cellIndex_ne {c : Nat × Nat} {i j : Nat} (hc : c ∈ cellsOf 0 16) (hj : j < 16) (h : c ≠ (i, j)) :
    16 * c.1 + c.2 ≠ 16 * i + j := by
  obtain ⟨k, -, rfl⟩ := List.mem_map.1 hc
  exact fun e => h (Prod.ext (by simp only at *; omega) (by simp only at *; omega))

/-- The 24-bit partial of cell (i, j), as a pattern. -/
def Tile.partialCell (t : Tile) (i j : Nat) : Nat := elem t.partialPlane 24 (16 * i + j)

@[simp] theorem Tile.setCell_partialPlane (t : Tile) (i j x : Nat) : (t.setCell i j x).partialPlane = t.partialPlane := by
  simp only [Tile.setCell]
@[simp] theorem Tile.setCell_counter (t : Tile) (i j x : Nat) : (t.setCell i j x).counter = t.counter := by
  simp only [Tile.setCell]
@[simp] theorem Tile.setCell_kind (t : Tile) (i j x : Nat) : (t.setCell i j x).kind = t.kind := by
  simp only [Tile.setCell]

theorem Tile.cell_setCell_same (t : Tile) (i j x : Nat) : (t.setCell i j x).cell i j = x % 2 ^ 32 := elem_putElem_same ..

theorem Tile.cell_setCell_of_ne (t : Tile) (x : Nat) {k l i j : Nat} (h : 16 * k + l ≠ 16 * i + j) :
    (t.setCell k l x).cell i j = t.cell i j := elem_putElem_of_ne _ _ _ h

/-! ### A cell of a step -/

/-- What a step makes of the old contents of a cell that it updates: its wide word or its partial (02_numbers R50-R52). -/
def StepArgs.addTo (x : StepArgs) (i j old : Nat) : Nat :=
  match x.path with
  | .wide => (floatResult fmtF32 0 false (FVal.add 0 (decodeFloat fmtF32 old) (x.product i j).1)).1
  | .part .np24 => (floatResult fmtNP24 0 false (FVal.add 0 (decodeFloat fmtNP24 old) (x.product i j).1)).1
  | .part _ => wrap (toSigned old 24 + intOfVal (x.product i j).1) 24

/-- The tile with a partial put at cell (i, j), which the run then reaches. -/
def Tile.setPartial (t : Tile) (i j v : Nat) : Tile :=
  { t with partialPlane := putElem t.partialPlane 24 (16 * i + j) v, reach := putBit t.reach (16 * i + j) true }

@[simp] theorem Tile.setPartial_wide (t : Tile) (i j v : Nat) : (t.setPartial i j v).wide = t.wide := by
  simp only [Tile.setPartial]
@[simp] theorem Tile.setPartial_counter (t : Tile) (i j v : Nat) : (t.setPartial i j v).counter = t.counter := by
  simp only [Tile.setPartial]
@[simp] theorem Tile.setPartial_kind (t : Tile) (i j v : Nat) : (t.setPartial i j v).kind = t.kind := by
  simp only [Tile.setPartial]

theorem Tile.partialCell_setPartial_same (t : Tile) (i j v : Nat) : (t.setPartial i j v).partialCell i j = v % 2 ^ 24 :=
  elem_putElem_same ..

theorem Tile.partialCell_setPartial_of_ne (t : Tile) (v : Nat) {k l i j : Nat} (h : 16 * k + l ≠ 16 * i + j) :
    (t.setPartial k l v).partialCell i j = t.partialCell i j := elem_putElem_of_ne _ _ _ h

theorem StepArgs.cell_wide (x : StepArgs) (h : x.path = .wide) (t : Tile) (i j : Nat) :
    (x.cell t i j).1 = t.setCell i j (x.addTo i j (t.cell i j)) := by
  simp only [StepArgs.cell, StepArgs.addTo, h]

theorem StepArgs.cell_part (x : StepArgs) {k : RunKind} (h : x.path = .part k) (t : Tile) (i j : Nat) :
    (x.cell t i j).1 = t.setPartial i j (x.addTo i j (t.partialCell i j)) := by
  cases k <;> simp only [StepArgs.cell, StepArgs.addTo, h] <;> rfl

/-! ### The cells of a step, one after another -/

/-- A step at one cell: it is updated unless it is masked. -/
def StepArgs.visit (x : StepArgs) (a : Tile × Conds) (c : Nat × Nat) : Tile × Conds :=
  if x.picks c.1 c.2 then ((x.cell a.1 c.1 c.2).1, a.2 ||| (x.cell a.1 c.1 c.2).2) else a

/-- A step at all cells. -/
def StepArgs.update (x : StepArgs) (t : Tile) : Tile × Conds := (cellsOf 0 16).foldl x.visit (t, 0#7)

theorem StepArgs.visit_picked (x : StepArgs) (a : Tile × Conds) (i j : Nat) :
    (x.visit a (i, j)).1 = if x.picks i j then (x.cell a.1 i j).1 else a.1 := by
  rw [StepArgs.visit]; split <;> rfl

theorem StepArgs.update_unchanged {γ : Type} (x : StepArgs) (get : Tile → γ) (h : ∀ t i j, get (x.cell t i j).1 = get t) (t : Tile) :
    get (x.update t).1 = get t :=
  foldl_unchanged x.visit (fun a => get a.1) (fun a c => by
    rw [StepArgs.visit]; split
    · exact h ..
    · rfl) _ _

/-- The part of the tile that the step's cell (i, j) alone reads and changes. -/
theorem StepArgs.update_at {x : StepArgs} {i j : Nat} (hi : i < 16) (hj : j < 16) (get : Tile → Nat) (g : Nat → Nat)
    (hsame : ∀ t, get (x.cell t i j).1 = g (get t))
    (hother : ∀ t k l, 16 * k + l ≠ 16 * i + j → get (x.cell t k l).1 = get t) (t : Tile) :
    get (x.update t).1 = if x.picks i j then g (get t) else get t :=
  foldl_visits x.visit (fun a => get a.1) (fun v => if x.picks i j then g v else v) (i, j)
    (fun a => by simp only [x.visit_picked, apply_ite get, hsame]) _
    (fun a c hc hne => by
      simp only [x.visit_picked a c.1 c.2, apply_ite get, hother _ _ _ (cellIndex_ne hc hj hne), ite_self])
    cellsOf_nodup (mem_cellsOf hi hj) _

section
variable {x : StepArgs} (t : Tile) {i j : Nat}

theorem StepArgs.update_cell_of_wide (h : x.path = .wide) (hi : i < 16) (hj : j < 16) :
    (x.update t).1.cell i j = if x.picks i j then x.addTo i j (t.cell i j) % 2 ^ 32 else t.cell i j :=
  update_at hi hj (Tile.cell · i j) (x.addTo i j · % 2 ^ 32) (fun t => by rw [x.cell_wide h, t.cell_setCell_same])
    (fun t k l hne => by rw [x.cell_wide h, t.cell_setCell_of_ne _ hne]) t

theorem StepArgs.update_partialCell_of_part {k : RunKind} (h : x.path = .part k) (hi : i < 16) (hj : j < 16) :
    (x.update t).1.partialCell i j = if x.picks i j then x.addTo i j (t.partialCell i j) % 2 ^ 24 else t.partialCell i j :=
  update_at hi hj (Tile.partialCell · i j) (x.addTo i j · % 2 ^ 24) (fun t => by rw [x.cell_part h, t.partialCell_setPartial_same])
    (fun t k l hne => by rw [x.cell_part h, t.partialCell_setPartial_of_ne _ hne]) t

theorem StepArgs.update_partialPlane_of_wide (h : x.path = .wide) : (x.update t).1.partialPlane = t.partialPlane :=
  x.update_unchanged Tile.partialPlane (fun t i j => by rw [x.cell_wide h, t.setCell_partialPlane]) t

theorem StepArgs.update_wide_of_part {k : RunKind} (h : x.path = .part k) : (x.update t).1.wide = t.wide :=
  x.update_unchanged Tile.wide (fun t i j => by rw [x.cell_part h, t.setPartial_wide]) t

/-- The counter and the run's kind are the step's end alone to change. -/
theorem StepArgs.update_run : (x.update t).1.counter = t.counter ∧ (x.update t).1.kind = t.kind :=
  Prod.ext_iff.1 <| x.update_unchanged (fun t => (t.counter, t.kind)) (fun t i j => by
    cases h : x.path with
    | wide => simp [x.cell_wide h]
    | part k => simp [x.cell_part h]) t

end

/-! ### A step that meets no trap -/

/-- No cell of the step is an invalid operation that FCTL.TIE would trap (02_numbers R56). -/
def StepArgs.Untrapped (x : StepArgs) : Prop := x.tie = true → ∀ t i j, x.invalid t i j = false

theorem StepArgs.slice_of_untrapped {x : StepArgs} (hx : x.Untrapped) (k s : Nat) (u : UpdateEnd) :
    x.slice k s u = { u with
      tile := ((cellsOf (4 * s) (4 * s + 4)).foldl x.visit (u.tile, u.conds)).1
      conds := ((cellsOf (4 * s) (4 * s + 4)).foldl x.visit (u.tile, u.conds)).2, slices := u.slices + 1 } := by
  have hnone : (if x.tie then (cellsOf (4 * s) (4 * s + 4)).find? fun c => x.invalid u.tile c.1 c.2 else none) = none := by
    split
    · next ht => exact List.find?_eq_none.2 fun c _ => by simp [hx ht]
    · rfl
  rw [StepArgs.slice]
  simp only [hnone]
  rfl

theorem StepArgs.slicesFrom_of_untrapped {x : StepArgs} (hx : x.Untrapped) (k room n s : Nat) (u : UpdateEnd) (ht : u.trap = none)
    (hr : u.rest = none) (hs : s + n ≤ 4) (hroom : u.slices + n ≤ room) :
    x.slicesFrom k room n s u = { u with
      tile := ((cellsOf (4 * s) (4 * (s + n))).foldl x.visit (u.tile, u.conds)).1
      conds := ((cellsOf (4 * s) (4 * (s + n))).foldl x.visit (u.tile, u.conds)).2, slices := u.slices + n } := by
  induction n generalizing s u with
  | zero => simp [StepArgs.slicesFrom, cellsOf]
  | succ n ih =>
    have hopen : ¬ (4 ≤ s ∨ u.trap.isSome ∨ u.rest.isSome) := by
      simp only [ht, hr, Option.isSome_none, Bool.false_eq_true, or_false]
      omega
    have hcells := cellsOf_append (a := 4 * s) (b := 4 * s + 4) (c := 4 * (s + 1 + n)) (by omega) (by omega)
    rw [StepArgs.slicesFrom, if_neg hopen, if_neg (by omega), slice_of_untrapped hx, ih,
      show s + (n + 1) = s + 1 + n by omega, ← hcells, List.foldl_append, show u.slices + (n + 1) = u.slices + 1 + n by omega]
    · rfl
    · exact ht
    · exact hr
    · omega
    · change u.slices + 1 + n ≤ room
      omega

/-- A step that promotes no run first and meets no trap goes through all cells and closes. -/
theorem StepArgs.step_of_untrapped {x : StepArgs} (hx : x.Untrapped) (t : Tile) (ho : x.opens t = false) :
    x.step 0 64 0 { tile := t } = x.close { tile := (x.update t).1, conds := (x.update t).2, slices := 4 } := by
  have h : x.slicesFrom 0 64 4 0 { tile := t } = { tile := (x.update t).1, conds := (x.update t).2, slices := 4 } :=
    slicesFrom_of_untrapped hx 0 64 4 0 { tile := t } rfl rfl (Nat.le_refl 4) (by simp only; omega)
  simp [StepArgs.step, ho, h]

theorem StepArgs.close_wide {x : StepArgs} (h : x.path = .wide) (u : UpdateEnd) : x.close u = u := by
  simp only [StepArgs.close, h]

/-- Below its promotion a step on a partial path records and counts the run (02_numbers R53). -/
theorem StepArgs.close_part {x : StepArgs} {k : RunKind} (h : x.path = .part k) (u : UpdateEnd) (hc : u.tile.counter + 1 ≠ x.run) :
    x.close u = { u with
      tile := { u.tile with kind := k, rowScale := x.rowScale, colScale := x.colScale, counter := u.tile.counter + 1 } } := by
  simp only [StepArgs.close, h, hc, if_false]

/-! ### A command of one update -/

/-- The command is a MOPA, MOPS or MOPAN on a and b under its masks, from its first slice. -/
structure OneUpdate (c : TCmd) (a b mr mc : Nat) : Prop where
  update  : c.update = 0
  slice   : c.slice = 0
  sources : c.sources = [a, b]
  rows    : c.masks.getD 0 0 = mr
  cols    : c.masks.getD 1 0 = mc
  depth   : (c.masks.getD 2 0).testBit 0 = true
  op      : c.op = .mopa ∨ c.op = .mops ∨ c.op = .mopan

/-- The arguments of its one step. -/
def TCmd.stepOn (c : TCmd) (p : Path) (a b mr mc : Nat) : StepArgs :=
  { path := p, minus := c.op = .mops, fmt := c.fmt, a := a, b := b, rowScale := unitScales, colScale := unitScales
    mr := mr, mc := mc, tie := c.tie, run := c.run, sat := c.sat }

section
variable {c : TCmd} {a b mr mc : Nat} {p : Path} {k : RunKind}

theorem OneUpdate.args (h : OneUpdate c a b mr mc) (hp : c.op.path c.fmt = some p) :
    c.args 0 = some (c.stepOn p a b mr mc, true) := by
  have hop : c.op ≠ .mma16s := by rcases h.op with e | e | e <;> simp [e]
  rw [TCmd.args, hp, h.sources, h.rows, h.cols, if_neg hop, if_neg hop, bitAt, h.depth]
  rfl

theorem OneUpdate.run (h : OneUpdate c a b mr mc) (hp : c.op.path c.fmt = some p) (x : Tile) :
    c.run_ 64 x = (c.stepOn p a b mr mc).step 0 64 0 { tile := x } := by
  have hcount : c.op.count = 1 := by rcases h.op with e | e | e <;> rw [e] <;> rfl
  simp [TCmd.run_, hcount, h.update, h.slice, TCmd.updates, h.args hp]

theorem OneUpdate.run_wide (h : OneUpdate c a b mr mc) (hp : c.op.path c.fmt = some .wide)
    (hu : (c.stepOn .wide a b mr mc).Untrapped) (x : Tile) (hk : x.kind = .none) :
    c.run_ 64 x = { tile := ((c.stepOn .wide a b mr mc).update x).1, conds := ((c.stepOn .wide a b mr mc).update x).2, slices := 4 } := by
  rw [h.run hp, StepArgs.step_of_untrapped hu x (by simp [StepArgs.opens, TCmd.stepOn, hk]), StepArgs.close_wide rfl]

/-- A step that opens a run or goes on with one of its kind and scales, below the promotion. -/
theorem OneUpdate.run_part (h : OneUpdate c a b mr mc) (hp : c.op.path c.fmt = some (.part k))
    (hu : (c.stepOn (.part k) a b mr mc).Untrapped) (x : Tile)
    (ho : x.kind = .none ∨ (x.kind = k ∧ x.rowScale = unitScales ∧ x.colScale = unitScales)) (hc : x.counter + 1 ≠ c.run) :
    c.run_ 64 x =
      { tile := { ((c.stepOn (.part k) a b mr mc).update x).1 with
          kind := k, rowScale := unitScales, colScale := unitScales, counter := x.counter + 1 }
        conds := ((c.stepOn (.part k) a b mr mc).update x).2, slices := 4 } := by
  have hopens : (c.stepOn (.part k) a b mr mc).opens x = false := by
    rcases ho with hk | ⟨hk, hrow, hcol⟩
    · simp [StepArgs.opens, TCmd.stepOn, hk]
    · simp [StepArgs.opens, TCmd.stepOn, hk, hrow, hcol]
  obtain ⟨hcount, -⟩ := (c.stepOn (.part k) a b mr mc).update_run x
  rw [h.run hp, StepArgs.step_of_untrapped hu x hopens, StepArgs.close_part rfl _ (by rw [hcount]; exact hc), hcount]
  rfl

/-- A step on a partial path at cell (i, j). -/
theorem OneUpdate.run_part_at (h : OneUpdate c a b mr mc) (hp : c.op.path c.fmt = some (.part k))
    (hu : (c.stepOn (.part k) a b mr mc).Untrapped) (x : Tile)
    (ho : x.kind = .none ∨ (x.kind = k ∧ x.rowScale = unitScales ∧ x.colScale = unitScales)) (hc : x.counter + 1 ≠ c.run)
    {i j : Nat} (hi : i < 16) (hj : j < 16) :
    BitVec.ofNat 24 ((c.run_ 64 x).tile.partialCell i j) = (if (mr.testBit i && mc.testBit j) = true then
      BitVec.ofNat 24 ((c.stepOn (.part k) a b mr mc).addTo i j (x.partialCell i j)) else BitVec.ofNat 24 (x.partialCell i j)) ∧
    (c.run_ 64 x).tile.wide = x.wide ∧ (c.run_ 64 x).tile.counter = x.counter + 1 ∧ (c.run_ 64 x).tile.kind = k ∧
    (c.run_ 64 x).trap = none ∧ (c.run_ 64 x).rest = none := by
  have hcell := StepArgs.update_partialCell_of_part (x := c.stepOn (.part k) a b mr mc) x rfl hi hj
  rw [h.run_part hp hu x ho hc]
  refine ⟨?_, StepArgs.update_wide_of_part x rfl, rfl, rfl, rfl, rfl⟩
  rw [← ofNat_mod_two_pow 24 (StepArgs.addTo ..), ← apply_ite]
  exact congrArg (BitVec.ofNat 24) hcell

/-- A step on the wide path at cell (i, j). -/
theorem OneUpdate.run_wide_at (h : OneUpdate c a b mr mc) (hp : c.op.path c.fmt = some .wide)
    (hu : (c.stepOn .wide a b mr mc).Untrapped) (x : Tile) (hk : x.kind = .none) {i j : Nat} (hi : i < 16) (hj : j < 16) :
    BitVec.ofNat 32 ((c.run_ 64 x).tile.cell i j) = (if (mr.testBit i && mc.testBit j) = true then
      BitVec.ofNat 32 ((c.stepOn .wide a b mr mc).addTo i j (x.cell i j)) else BitVec.ofNat 32 (x.cell i j)) ∧
    (c.run_ 64 x).tile.partialPlane = x.partialPlane ∧ (c.run_ 64 x).tile.counter = x.counter ∧ (c.run_ 64 x).tile.kind = .none ∧
    (c.run_ 64 x).trap = none := by
  have hcell := StepArgs.update_cell_of_wide (x := c.stepOn .wide a b mr mc) x rfl hi hj
  obtain ⟨hcount, hkind⟩ := (c.stepOn .wide a b mr mc).update_run x
  rw [h.run_wide hp hu x hk]
  refine ⟨?_, StepArgs.update_partialPlane_of_wide x rfl, hcount, hkind.trans hk, rfl⟩
  rw [← ofNat_mod_two_pow 32 (StepArgs.addTo ..), ← apply_ite]
  exact congrArg (BitVec.ofNat 32) hcell

/-! ### Steps of floats -/

theorem untrapped_of_tie (p : Path) (h : c.tie = false) : (c.stepOn p a b mr mc).Untrapped := fun ht => by
  simp [TCmd.stepOn, h] at ht

theorem addTo_wide (i j old : Nat) : (c.stepOn .wide a b mr mc).addTo i j old =
    (floatResult fmtF32 0 false (FVal.add 0 (decodeFloat fmtF32 old) ((c.stepOn .wide a b mr mc).product i j).1)).1 := rfl

theorem addTo_np24 (i j old : Nat) : (c.stepOn (.part .np24) a b mr mc).addTo i j old =
    (floatResult fmtNP24 0 false (FVal.add 0 (decodeFloat fmtNP24 old) ((c.stepOn (.part .np24) a b mr mc).product i j).1)).1 := rfl

theorem product_stepOn (i j : Nat) : ((c.stepOn p a b mr mc).product i j).1 =
    let v := (FVal.mul (operandValue c.fmt (elem a (fmtWidth c.fmt) i)) (operandValue c.fmt (elem b (fmtWidth c.fmt) j))).1
    if c.op = .mops then v.neg else v := by
  simp only [StepArgs.product, TCmd.stepOn, decide_eq_true_eq]

/-! ### Steps of integers -/

theorem path_int8 {o : TOp} (h : o = .mopa ∨ o = .mops ∨ o = .mopan) : o.path 0 = some (.part .int24) := by
  rcases h with rfl | rfl | rfl <;> rfl

/-- No operation on integers is invalid. -/
theorem untrapped_int8 (hf : c.fmt = 0) : (c.stepOn (.part .int24) a b mr mc).Untrapped := fun _ t i j => by
  simp [StepArgs.invalid, TCmd.stepOn, hf, operandValue_zero, voids, FVal.ofInt]

/-- The word that a step of integers adds to a partial or takes from it. -/
theorem addTo_int8 (hf : c.fmt = 0) (i j old : Nat) :
    BitVec.ofNat 24 ((c.stepOn (.part .int24) a b mr mc).addTo i j old) =
      let step := (BitVec.ofNat 8 (a / 2 ^ (8 * i))).signExtend 24 * (BitVec.ofNat 8 (b / 2 ^ (8 * j))).signExtend 24
      if c.op = .mops then BitVec.ofNat 24 old - step else BitVec.ofNat 24 old + step := by
  have hw : fmtWidth 0 = 8 := rfl
  simp only [StepArgs.addTo, StepArgs.product, TCmd.stepOn, hf, hw, ofNat_wrap, BitVec.ofInt_add, toSigned_eq_toInt, BitVec.ofInt_toInt,
    decide_eq_true_eq, apply_ite intOfVal, intOfVal_neg, operandValue_zero, intOfVal_mul_ofInt, elem, slice, ofNat_mod_two_pow]
  split
  · rw [BitVec.ofInt_neg, BitVec.ofInt_mul, BitVec.sub_eq_add_neg]; rfl
  · rw [BitVec.ofInt_mul]; rfl

end

/-! ### A promotion cell by cell -/

section
variable (t : Tile) (sat : Bool)

/-- A promotion at one cell. -/
def Tile.promoteVisit (a : Tile × Conds) (c : Nat × Nat) : Tile × Conds :=
  if t.reached c.1 c.2 then (a.1.setCell c.1 c.2 (t.promoted sat c.1 c.2).1, a.2 ||| (t.promoted sat c.1 c.2).2) else a

theorem Tile.promote_eq {t : Tile} (h : t.counter ≠ 0) :
    (t.promote sat).1 = ((cellsOf 0 16).foldl (t.promoteVisit sat) (t, 0#7)).1.endRun := by
  rw [Tile.promote, if_neg h]; rfl

theorem Tile.promote_ends {t : Tile} (h : t.counter ≠ 0) :
    (t.promote sat).1.counter = 0 ∧ (t.promote sat).1.kind = .none ∧ ∀ i j, (t.promote sat).1.partialCell i j = 0 := by
  rw [promote_eq sat h]
  exact ⟨rfl, rfl, fun i j => by simp [Tile.partialCell, Tile.endRun, elem, slice]⟩

theorem Tile.promoteVisit_cell (a : Tile × Conds) (k l i j : Nat) : (t.promoteVisit sat a (k, l)).1.cell i j =
    if t.reached k l then (a.1.setCell k l (t.promoted sat k l).1).cell i j else a.1.cell i j := by
  rw [Tile.promoteVisit]; split <;> rfl

theorem Tile.promote_cell {t : Tile} (h : t.counter ≠ 0) {i j : Nat} (hi : i < 16) (hj : j < 16) :
    (t.promote sat).1.cell i j = if t.reached i j then (t.promoted sat i j).1 % 2 ^ 32 else t.cell i j := by
  rw [promote_eq sat h]
  exact foldl_visits (t.promoteVisit sat) (fun a => a.1.cell i j)
    (fun v => if t.reached i j then (t.promoted sat i j).1 % 2 ^ 32 else v) (i, j)
    (fun a => by simp only [t.promoteVisit_cell, Tile.cell_setCell_same]) _
    (fun a c hc hne => by
      simp only [t.promoteVisit_cell sat a c.1 c.2, Tile.cell_setCell_of_ne _ _ (cellIndex_ne hc hj hne), ite_self])
    cellsOf_nodup (mem_cellsOf hi hj) _

/-- The sum of an INT24 run's promotion, saturated or wrapped at 32 bits (02_numbers R54). -/
theorem Tile.promoted_int24 {t : Tile} (hk : t.kind = .int24) (i j : Nat) :
    BitVec.ofNat 32 (t.promoted sat i j).1 =
      let sum := (BitVec.ofNat 32 (t.cell i j)).toInt + (BitVec.ofNat 24 (t.partialCell i j)).toInt
      if sat then BitVec.ofInt 32 (max (-2 ^ 31) (min (2 ^ 31 - 1) sum)) else BitVec.ofInt 32 sum := by
  simp only [Tile.promoted, hk, ofNat_wrap, toSigned_eq_toInt, Tile.partialCell]
  split
  · refine congrArg (BitVec.ofInt 32) ?_
    simp only [clampInt]
    split
    · omega
    · split <;> omega
  · rfl

/-- A cell of an NP24 run's promotion: the partial under its two scales, or a quiet NaN (02_numbers R54). -/
theorem Tile.promoted_np24 {t : Tile} (hk : t.kind = .np24) (i j : Nat) :
    (t.promoted sat i j).1 =
      if elem t.rowScale 8 i = 255 ∨ elem t.colScale 8 j = 255 then 0x7FC00000
      else (floatResult fmtF32 0 false (FVal.add 0 (decodeFloat fmtF32 (t.cell i j))
        ((decodeFloat fmtNP24 (t.partialCell i j)).scale ((elem t.rowScale 8 i : Int) + elem t.colScale 8 j - 254)))).1 := by
  simp only [Tile.promoted, Tile.partialValue, hk]
  by_cases h : elem t.rowScale 8 i = 255 ∨ elem t.colScale 8 j = 255
  · simp only [if_pos h]
  · simp only [if_neg h, Tile.partialCell]

end

/-! ### The record -/

/-- The code of a run's kind in a record (09_tile R229). -/
def RunKind.code : RunKind → Nat
  | .none => 0
  | .np24 => 1
  | .int24 => 2
  | .int24mx => 3

/-- The fields of a record, lowest first. -/
def Tile.fields (t : Tile) : List (Nat × Nat) :=
  [(8192, t.wide), (6144, t.partialPlane), (128, t.rowScale), (128, t.colScale), (8, t.counter), (8, t.kind.code), (256, t.reach)]

theorem Tile.record_eq_pack (t : Tile) : t.record = pack t.fields := by
  have hcode : t.record = t.wide + t.partialPlane * 2 ^ (8 * 1024) + t.rowScale * 2 ^ (8 * 1792) + t.colScale * 2 ^ (8 * 1808) +
      t.counter * 2 ^ (8 * 1824) + t.kind.code * 2 ^ (8 * 1825) + t.reach * 2 ^ (8 * 1826) := by
    rw [Tile.record]; cases t.kind <;> simp only [RunKind.code]
  rw [hcode, Tile.fields, show 8 * 1024 = 8192 from rfl, show 8 * 1792 = 8192 + 6144 from rfl, show 8 * 1808 = 8192 + 6144 + 128 from rfl,
    show 8 * 1824 = 8192 + 6144 + 128 + 128 from rfl, show 8 * 1825 = 8192 + 6144 + 128 + 128 + 8 from rfl,
    show 8 * 1826 = 8192 + 6144 + 128 + 128 + 8 + 8 from rfl]
  generalize 8192 = n, 6144 = m, 128 = p, 8 = q
  simp only [pack, Nat.pow_add, Nat.mul_add, Nat.mul_zero, Nat.add_zero]
  ac_rfl

/-- Each field of a record is read back where it stands. -/
theorem Tile.slice_record {t : Tile} (hw : t.wide < 2 ^ 8192) (hp : t.partialPlane < 2 ^ 6144) (hr : t.rowScale < 2 ^ 128)
    (hcs : t.colScale < 2 ^ 128) (hc : t.counter < 2 ^ 8) (hreach : t.reach < 2 ^ 256) :
    t.record % 2 ^ (8 * 1024) = t.wide ∧ slice t.record (8 * 1024) (8 * 768) = t.partialPlane ∧
    slice t.record (8 * 1792) 128 = t.rowScale ∧ slice t.record (8 * 1808) 128 = t.colScale ∧
    slice t.record (8 * 1824) 8 = t.counter ∧ slice t.record (8 * 1825) 8 = t.kind.code ∧
    slice t.record (8 * 1826) 256 = t.reach := by
  have hk : t.kind.code < 2 ^ 8 := by cases t.kind <;> decide
  have fit : ∀ f ∈ t.fields, f.2 < 2 ^ f.1 := by
    simp only [Tile.fields, List.forall_mem_cons, hw, hp, hr, hcs, hc, hk, hreach, true_and]
    exact fun f hf => absurd hf List.not_mem_nil
  have low : t.record % 2 ^ (8 * 1024) = slice t.record 0 8192 := by
    rw [slice, Nat.pow_zero, Nat.div_one, show 8 * 1024 = 8192 from rfl]
  rw [low, t.record_eq_pack]
  refine ⟨slice_pack (n := 0) fit rfl ?_, slice_pack (n := 1) fit rfl ?_, slice_pack (n := 2) fit rfl ?_,
    slice_pack (n := 3) fit rfl ?_, slice_pack (n := 4) fit rfl ?_, slice_pack (n := 5) fit rfl ?_, slice_pack (n := 6) fit rfl ?_⟩ <;>
  simp [Tile.fields]

theorem Tile.ofRecord_record {t : Tile} (hw : t.wide < 2 ^ 8192) (hp : t.partialPlane < 2 ^ 6144) (hr : t.rowScale < 2 ^ 128)
    (hcs : t.colScale < 2 ^ 128) (hc : t.counter ≤ 16) (hreach : t.reach < 2 ^ 256) (hidle : t.kind = .none → t.reach = 0) :
    Tile.ofRecord t.record = t := by
  obtain ⟨ew, ep, er, ecs, ec, ek, ereach⟩ := slice_record hw hp hr hcs (by omega) hreach
  simp only [Tile.ofRecord, ew, ep, er, ecs, ec, ek, ereach, Nat.not_lt.2 hc, if_false]
  obtain ⟨w, p, c, k, r, cs, reach⟩ := t
  cases k with
  | none =>
    obtain rfl : reach = 0 := hidle rfl
    rfl
  | np24 | int24 | int24mx => rfl

/-- Settles O39. A step and a promotion are folds over the 256 cells in which cell (i, j) alone changes its word and its partial, so
each clause is about what one cell becomes; the record's fields stand end to end. -/
theorem tileArithmetic : Obligations.TileArithmetic := by
  intro c x a b mr mc i j partialAt wide row col r sum p picked one opens w product signed rounded hi hj
  have hone (h : one) : OneUpdate c a b mr mc :=
    let ⟨hu, hs, hsrc, hr, hc, hd, hop⟩ := h
    ⟨hu, hs, hsrc, hr, hc, hd, hop⟩
  refine ⟨fun h hf ho hc => ?_, fun h ht hp hk => ?_, fun h ht hp ho hc => ?_, fun hk hc => ?_, fun hk hc hreach => ?_,
    Tile.ofRecord_record⟩
  · obtain ⟨hpart, hwide, hcount, hkind, htrap, hrest⟩ :=
      (hone h).run_part_at (hf ▸ path_int8 (hone h).op) (untrapped_int8 hf) x ho hc hi hj
    refine ⟨hpart.trans ?_, congrArg (fun v => BitVec.ofNat 32 (elem v 32 (16 * i + j))) hwide, hcount, hkind, htrap, hrest⟩
    rw [addTo_int8 hf, ite_not]
    rfl
  · obtain ⟨hwide, hpart, hcount, hkind, htrap⟩ := (hone h).run_wide_at hp (untrapped_of_tie .wide ht) x hk hi hj
    rw [addTo_wide, product_stepOn] at hwide
    exact ⟨hwide, congrArg (fun v => BitVec.ofNat 24 (elem v 24 (16 * i + j))) hpart, hcount, hkind, htrap⟩
  · obtain ⟨hpart, hwide, hcount, hkind, htrap, -⟩ :=
      (hone h).run_part_at hp (untrapped_of_tie (.part .np24) ht) x ho hc hi hj
    rw [addTo_np24, product_stepOn] at hpart
    exact ⟨hpart, congrArg (fun v => BitVec.ofNat 32 (elem v 32 (16 * i + j))) hwide, hcount, hkind, htrap⟩
  · obtain ⟨hcount, hkind, hpart⟩ := Tile.promote_ends c.sat hc
    have hcell := Tile.promote_cell c.sat hc hi hj
    refine ⟨hcount, hkind, congrArg (BitVec.ofNat 24) (hpart i j), fun hr => ?_, fun hr => ?_⟩
    · rw [Tile.reached, bitAt, hr] at hcell
      exact congrArg (BitVec.ofNat 32) hcell
    · rw [Tile.reached, bitAt, hr] at hcell
      exact (congrArg (BitVec.ofNat 32) hcell).trans ((ofNat_mod_two_pow ..).trans (Tile.promoted_int24 c.sat hk i j))
  · obtain ⟨hcount, hkind, hpart⟩ := Tile.promote_ends c.sat hc
    have hcell := Tile.promote_cell c.sat hc hi hj
    rw [Tile.reached, bitAt, hreach] at hcell
    refine ⟨hcount, hkind, congrArg (BitVec.ofNat 24) (hpart i j), ?_⟩
    refine (congrArg (BitVec.ofNat 32) hcell).trans ((ofNat_mod_two_pow ..).trans ?_)
    rw [Tile.promoted_np24 c.sat hk, apply_ite (BitVec.ofNat 32)]
    rfl

end Sys2Proof.Machine
end
